-- ==== Sys2Proof/Word.lean ====
section
/-! DEFINITION. The word type of the panel link: a character's eight data bits (R126). -/

namespace Sys2Proof

/-- The data of one character (R126), and one byte of a layout of chapter 12 (R181). -/
abbrev Byte := BitVec 8

end Sys2Proof
end

