-- ==== Sys2Proof/Syntax.lean ====
section
/-! DEFINITION. The commands of the FX24: one constructor for each row of spec/opcode_table.json, in the table's
order. The table gives the rows no operands; each carries what the manual says arrives with it (log 3). A management
request carries its tag and the argument bytes that its row leaves open (R169, R182). -/

namespace Sys2Proof

/-- The two ports of the panel link (00_scope.md 0.1). -/
inductive Port where
  | system
  | display
  deriving DecidableEq, Repr

/-- A port's receive line at a character's stop bit (R129), and after a stop bit of 0 (R130). -/
inductive StopBit where
  /-- The stop bit is 1. -/
  | one
  /-- The stop bit is 0. -/
  | zero
  /-- The line, at 0 since an earlier character's start bit, has returned to 1. -/
  | returned
  deriving DecidableEq, Repr

/-- What begins a cold reset (00_scope.md 0.6, R53). -/
inductive ColdCause where
  | standbyArrives
  | partResetInput
  deriving DecidableEq, Repr

/-- The commands. -/
inductive Instr where
  /-- COLD_RESET (R53). -/
  | coldReset (cause : ColdCause)
  /-- COLD_RESET_RELEASE (R56). -/
  | coldResetRelease
  /-- CYCLE_START (R2). -/
  | cycleStart
  /-- CONVERSION_COMPLETE (R5): the conversion in progress completes with this ADC code. -/
  | conversionComplete (code : BitVec 12)
  /-- RESERVE_GRANTED (R59). -/
  | reserveGranted
  /-- HEATER_SLOT_START (R31). -/
  | heaterSlotStart
  /-- PREHEAT_LIMIT_EXPIRY (R58). -/
  | preheatLimitExpiry
  /-- POWER_GOOD_CHANGE (R54): the level now on the power-good input. -/
  | powerGoodChange (high : Bool)
  /-- POWER_GOOD_TIMEOUT (R60). -/
  | powerGoodTimeout
  /-- SETTLE_EXPIRY (R61). -/
  | settleExpiry
  /-- RESET_PULSE_EXPIRY (R63). -/
  | resetPulseExpiry
  /-- BOOT_TIMEOUT (R81). -/
  | bootTimeout
  /-- SHUTDOWN_GRACE_EXPIRY (R68). -/
  | shutdownGraceExpiry
  /-- OFF_TIME_EXPIRY (R71). -/
  | offTimeExpiry
  /-- HEARTBEAT_TIMER_EXPIRY (R85). -/
  | heartbeatTimerExpiry
  /-- GRACE_TIMER_EXPIRY (R87). -/
  | graceTimerExpiry
  /-- RECEIVE_CHARACTER (R129): data, mark bit and stop bit of a character on a port, whose stop bit has been sampled;
  with `returned`, the return of the port's line to 1 after a character whose bits are all 0, or after a break (R130).
  -/
  | receiveCharacter (port : Port) (data : Byte) (mark : Bool) (stop : StopBit)
  /-- BREAK (R130): a receive line has been at 0 for 22 bit times. -/
  | lineBreak (port : Port)
  /-- RESERVED_FRAME (R140): a good frame of a class 1 to 7. -/
  | reservedFrame (port : Port) (cls : Fin 64) (payload : List Byte)
  /-- LOADABLE_SYSTEM_FRAME (R144): a good frame of a class 8 to 63 from the system port. -/
  | loadableSystemFrame (cls : Fin 64) (payload : List Byte)
  /-- LOADABLE_DISPLAY_FRAME (R147): a good frame of a class 8 to 63 from the display port. -/
  | loadableDisplayFrame (cls : Fin 64) (payload : List Byte)
  /-- HOST_READY_CHANGE (R134): the host-ready input is now asserted or not. -/
  | hostReadyChange (asserted : Bool)
  /-- SYSTEM_TX_BEGIN (R134). -/
  | systemTxBegin
  /-- SYSTEM_FRAME_SENT (R135). -/
  | systemFrameSent
  /-- DISPLAY_FRAME_SENT (R161). -/
  | displayFrameSent
  /-- WAIT_LIMIT_EXPIRY (R155). -/
  | waitLimitExpiry
  /-- START_TIMER_EXPIRY (R156). -/
  | startTimerExpiry
  /-- SILENCE_TIMER_EXPIRY (R157). -/
  | silenceTimerExpiry
  /-- RECOVERY_OFF_TIME_EXPIRY (R158). -/
  | recoveryOffTimeExpiry
  /-- IDLE_TIMER_EXPIRY (R162). -/
  | idleTimerExpiry
  /-- SCAN (R96): the raw reading of the 64 crossings, bit k for key k (R94). -/
  | scan (reading : BitVec 64)
  /-- STEP_TIMER_EXPIRY (R119): of a slot. -/
  | stepTimerExpiry (slot : Fin 4)
  /-- HOLD_TIMER_EXPIRY (R118): of a slot, and of every slot due with it. -/
  | holdTimerExpiry (slot : Fin 4)
  /-- BEEPER_SEGMENT_END (R121). -/
  | beeperSegmentEnd
  /-- ONE_SHOT_END (R121). -/
  | oneShotEnd
  /-- BACKGROUND_PERIOD_START (R124). -/
  | backgroundPeriodStart
  /-- COMMIT_END (R178): whether the read-back matches. -/
  | commitEnd (readBackMatches : Bool)
  /-- UNKNOWN_COMMAND (R169): the whole payload of a request that no other row spells. -/
  | unknownCommand (payload : List Byte)
  /-- GET_STATUS (R170). -/
  | getStatus (tag : Byte) (args : List Byte)
  /-- GET_ZONES (R37). -/
  | getZones (tag : Byte) (args : List Byte)
  /-- GET_SAMPLES (R13). -/
  | getSamples (tag : Byte) (args : List Byte)
  /-- GET_ENTRY (R172). -/
  | getEntry (tag : Byte) (args : List Byte)
  /-- SET_ENTRY, table CLASS (R142): the bytes after the table. -/
  | setEntryClass (tag : Byte) (args : List Byte)
  /-- SET_ENTRY, table KEYMAP (R101). -/
  | setEntryKeymap (tag : Byte) (args : List Byte)
  /-- SET_ENTRY, table SEQUENCE (R115). -/
  | setEntrySequence (tag : Byte) (args : List Byte)
  /-- SET_ENTRY, table ZONE (R18). -/
  | setEntryZone (tag : Byte) (args : List Byte)
  /-- SET_ENTRY, table CHANNEL (R1). -/
  | setEntryChannel (tag : Byte) (args : List Byte)
  /-- SET_ENTRY, table PARAMETER (R172). -/
  | setEntryParameter (tag : Byte) (args : List Byte)
  /-- SET_ENTRY, table INJECT (R166). -/
  | setEntryInject (tag : Byte) (args : List Byte)
  /-- GET_COUNTERS (R171). -/
  | getCounters (tag : Byte) (args : List Byte)
  /-- CLEAR_COUNTERS (R171). -/
  | clearCounters (tag : Byte) (args : List Byte)
  /-- GET_LOG (R74). -/
  | getLog (tag : Byte) (args : List Byte)
  /-- REQUEST_POWER OFF (R69): the bytes after the choice. -/
  | requestPowerOff (tag : Byte) (args : List Byte)
  /-- REQUEST_POWER RESTART (R69). -/
  | requestPowerRestart (tag : Byte) (args : List Byte)
  /-- REQUEST_POWER CYCLE (R69). -/
  | requestPowerCycle (tag : Byte) (args : List Byte)
  /-- REQUEST_DISPLAY DIM (R165): the bytes after the choice. -/
  | requestDisplayDim (tag : Byte) (args : List Byte)
  /-- REQUEST_DISPLAY WAKE (R165). -/
  | requestDisplayWake (tag : Byte) (args : List Byte)
  /-- REQUEST_DISPLAY RESTART (R165). -/
  | requestDisplayRestart (tag : Byte) (args : List Byte)
  /-- FORCE_SAMPLE SET (R12): the channel and the bytes after the operation. -/
  | forceSampleSet (tag channel : Byte) (args : List Byte)
  /-- FORCE_SAMPLE RELEASE (R12). -/
  | forceSampleRelease (tag channel : Byte) (args : List Byte)
  /-- COMMIT_PROFILE (R178). -/
  | commitProfile (tag : Byte) (args : List Byte)
  /-- RESET_SUPERVISOR (R179). -/
  | resetSupervisor (tag : Byte) (args : List Byte)
  /-- DISPLAY_MANAGEMENT_FRAME (R140): a good class-0 frame from the display port. -/
  | displayManagementFrame (payload : List Byte)
  /-- BREAK_END (R138): the system receive line returns to 1, after a break or after a character whose bits are all 0
  (R130). -/
  | breakEnd
  deriving DecidableEq, Repr

end Sys2Proof
end

