-- ==== Sys2Proof/Config.lean ====
section
/-! DEFINITION. The free values: what the manual leaves open. None has a body, so a claim holds whatever they are. -/

namespace Sys2Proof

/-- DESIGN CHOICE (log 6): which of two messages of one step is taken first, where the manual lets either be and the
outcome depends on it (R106; the recipients of "zones evaluated", R36; log 22: R116, R154). The argument is the number
of such choices made before. -/
opaque Config.firstTaken : Nat → Bool

/-- DESIGN CHOICE (log 10): the raw code bits of the sample record of a channel whose raw code is absent
(chapter 12, section 12.4, names the bits and not their value). The argument is the channel. -/
opaque Config.absentRawCode : Nat → BitVec 12

/-- DESIGN CHOICE (log 11): the sticky flags reported at the moment of a soft reset that are taken after its first step
and so kept (R179: "may be taken before step 1 and cleared, or after it and kept"). The argument is the number of
free choices made before. -/
opaque Config.keptAtSoftReset : Nat → BitVec 16

/-- DESIGN CHOICE (log 21): whether the first scan after a cold reset counts for the debounce. By R95 it does, and a key
held through the cold reset is pressed at the D-th scan; by R113 and R106 that press is made D scans after the first
scan, so the first does not count. -/
opaque Config.firstScanCounts : Bool

end Sys2Proof
end

