-- ==== Sys2Proof/Machine/Types.lean ====
section
/-! DEFINITION. The named values the manual prints in capitals, the working tables with their built-in defaults, and
the records the blocks keep. -/

namespace Sys2Proof.Machine

/-! ## Named values -/

/-- The nine power states (R53). -/
inductive PowerState where
  | off | preheat | starting | running | restarting | shutdown | cycling | hotOff | serviceHold
  deriving DecidableEq, Repr

/-- The phases of STARTING and RESTARTING (R53). -/
inductive Phase where
  | reserve | powerWait | settle | bootWait | pulse
  deriving DecidableEq, Repr

/-- The destination of SHUTDOWN (R53). -/
inductive Destination where
  | hotOff | off
  deriving DecidableEq, Repr

/-- The causes of Restart Log records (R74). -/
inductive Cause where
  | mainsReturn | degradedStart | watchdog | bootTimeout | powerLost | powerGoodTimeout | thermal | thermalResume
  | hostOff | hostRestart | hostCycle | keyPowerOn | keyRestart | serviceReleased | serviceHoldEntered
  deriving DecidableEq, Repr

/-- The sequence slot field of a Restart Log record (R74, R70). -/
inductive SlotField where
  | slot (n : Fin 4)
  | anyKey
  deriving DecidableEq, Repr

/-- The liveness stages (R77). -/
inductive Stage where
  | idle | bootWait | watching | warned | suspended
  deriving DecidableEq, Repr

/-- The boot outcome (chapter 5, section 5.1). -/
inductive BootOutcome where
  | pending | heard | timedOut
  deriving DecidableEq, Repr

/-- The states of a sample record (chapter 1, section 1.7). -/
inductive SampleState where
  | none | valid | clamped | suspect | fault | stale | forced
  deriving DecidableEq, Repr

/-- A channel's pending override change (chapter 1, section 1.6). -/
inductive PendingChange where
  | none
  | set (value : Int)
  | release
  deriving DecidableEq, Repr

/-- The four key states (chapter 6, section 6.3). -/
inductive KeyState where
  | up | down | blocked | stuck
  deriving DecidableEq, Repr

/-- The kind of a Keymap entry (R101). -/
inductive KeyKind where
  | normal | service | disabled
  deriving DecidableEq, Repr

/-- The kind of a key event (R108). -/
inductive EventKind where
  | press | release | autoRepeat | stuckRelease
  deriving DecidableEq, Repr

/-- The action of a sequence slot (R115). -/
inductive SlotAction where
  | none | powerOn | restart | serviceRelease | notice
  deriving DecidableEq, Repr

/-- The panel actions the Power Sequencer takes (R70). -/
inductive PanelAction where
  | powerOn | restart | serviceRelease
  deriving DecidableEq, Repr

/-- The direction of a class (R141). -/
inductive Direction where
  | none | toDisplay | toSystem | both
  deriving DecidableEq, Repr

/-- The action of a class (R141). -/
inductive ClassAction where
  | hold | liveOnly | drop
  deriving DecidableEq, Repr

/-- The display path states (R154). -/
inductive PathState where
  | off | waitWarm | starting | opened | dimmed | recovering | failed
  deriving DecidableEq, Repr

/-- The commit states (chapter 11, section 11.1). -/
inductive CommitState where
  | none | inProgress | done | failed
  deriving DecidableEq, Repr

/-- The profile source (R177). -/
inductive ProfileSource where
  | store | defaults
  deriving DecidableEq, Repr

/-- A polarity (R53, R54). -/
inductive Polarity where
  | activeLow | activeHigh
  deriving DecidableEq, Repr

/-- The mains-return policy (R56). -/
inductive MainsPolicy where
  | start | stayOff
  deriving DecidableEq, Repr

/-- The one-shot patterns (R121). -/
inductive OneShot where
  | click | accept | refuse
  deriving DecidableEq, Repr

/-- The background patterns (R121). -/
inductive Background where
  | service | hot
  deriving DecidableEq, Repr

/-- The outcomes counted by a port (R131). -/
inductive RxOutcome where
  | framing | truncated | header | length | stray | crc | lineBreak
  deriving DecidableEq, Repr

/-- The statuses of a reply (chapter 12, section 12.3). -/
inductive Status where
  | ok | clamped | badCommand | badTable | badIndex | badValue | badLength | busy | refused
  deriving DecidableEq, Repr

/-- The cause of a DISPLAY_FAULT notice (chapter 11, section 11.4). -/
inductive DisplayFaultCause where
  | silence | retriesExhausted | badFrames
  deriving DecidableEq, Repr

/-! ## The three zones -/

/-- The zones, in index order (R17). -/
inductive ZoneId where
  | board | display | front
  deriving DecidableEq, Repr

/-- The zones in index order. -/
def ZoneId.all : List ZoneId := [.board, .display, .front]

/-- One value for each zone. -/
structure PerZone (α : Type) where
  board : α
  display : α
  front : α
  deriving DecidableEq, Repr

/-- The value of a zone. -/
def PerZone.get {α : Type} (p : PerZone α) : ZoneId → α
  | .board => p.board
  | .display => p.display
  | .front => p.front

/-- The value of one zone replaced. -/
def PerZone.set {α : Type} (p : PerZone α) (z : ZoneId) (x : α) : PerZone α :=
  match z with
  | .board => { p with board := x }
  | .display => { p with display := x }
  | .front => { p with front := x }

/-- The same function on every zone. -/
def PerZone.map {α β : Type} (f : α → β) (p : PerZone α) : PerZone β :=
  ⟨f p.board, f p.display, f p.front⟩

/-- Two values for each zone combined. -/
def PerZone.zip {α β γ : Type} (f : α → β → γ) (p : PerZone α) (q : PerZone β) : PerZone γ :=
  ⟨f p.board q.board, f p.display q.display, f p.front q.front⟩

/-- The values in index order. -/
def PerZone.toList {α : Type} (p : PerZone α) : List α := [p.board, p.display, p.front]

/-! ## The working tables -/

/-- A Class Table entry's fields (R141). -/
structure ClassEntry where
  direction : Direction
  action : ClassAction
  heartbeat : Bool
  activity : Bool
  coalesce : Bool
  wake : Bool
  minLength : Nat
  maxLength : Nat
  deriving DecidableEq, Repr

/-- A Keymap entry (R101). -/
structure KeyEntry where
  code : Byte
  kind : KeyKind
  repeats : Bool
  click : Bool
  deriving DecidableEq, Repr

/-- A Sequence Table slot (R115); the mask's bit n is power state code n (chapter 12, section 12.5). -/
structure SeqSlot where
  action : SlotAction
  mask : BitVec 9
  hold : Nat
  steps : List (Fin 64)
  deriving DecidableEq, Repr

/-- A zone record (R17). -/
structure ZoneRecord where
  first : Fin 6
  second : Option (Fin 6)
  boardGate : Bool
  displayGate : Bool
  tstart : Int
  hyst : Nat
  soakTarget : Nat
  thold : Int
  band : Nat
  tcut : Int
  tminAbs : Int
  watts : Nat
  priority : Nat
  deriving DecidableEq, Repr

/-- A channel calibration (R1). -/
structure Calibration where
  slope : Int
  offset : Int
  deriving DecidableEq, Repr

/-- An Injection Table entry (R163); its length is its payload's. -/
structure InjectEntry where
  enable : Bool
  cls : Fin 64
  payload : List Byte
  deriving DecidableEq, Repr

/-- The parameters, in the order of their numbers 1 to 53 (chapter 12, section 12.6), in the units given there. -/
structure Params where
  cyclePeriod : Nat
  firstIndex : Fin 8
  lastIndex : Fin 8
  persistence : Nat
  normalBudget : Nat
  brownoutBudget : Nat
  boardReserve : Nat
  fallbackDuty : Nat
  supplyCutLimit : Nat
  supplyLowLimit : Nat
  supplyHysteresis : Nat
  heatWhileOff : Bool
  twarn : Int
  thys : Nat
  tshut : Int
  tresume : Int
  tdim : Int
  riseLimit : Nat
  riseHysteresis : Nat
  riseCount : Nat
  mainsPolicy : MainsPolicy
  preheatLimit : Nat
  powerGoodLimit : Nat
  settleDelay : Nat
  resetPulse : Nat
  offTime : Nat
  shutdownGrace : Nat
  hostOffDelay : Nat
  restartWindow : Nat
  restartLimit : Nat
  autoResume : Bool
  resetPolarity : Polarity
  powerGoodPolarity : Polarity
  bootLimit : Nat
  hbMax : Nat
  hbMin : Nat
  warnGrace : Nat
  debounce : Nat
  stuckTime : Nat
  repeatDelay : Nat
  repeatPeriod : Nat
  anyKey : Bool
  stepTimeout : Nat
  systemRate : Nat
  displayRate : Nat
  startLimit : Nat
  silenceLimit : Nat
  offTimeRecovery : Nat
  retryLimit : Nat
  waitLimit : Nat
  idlePeriod : Nat
  idleTimes16 : Bool
  swallow : Bool
  deriving DecidableEq, Repr

/-- The working tables (R177; 00_scope.md 0.7). Class entry i is class i + 8; calibration i is channel i, channel 7
being fixed (R1). -/
structure Tables where
  classes : Vector ClassEntry 56
  keymap : Vector KeyEntry 64
  sequences : Vector SeqSlot 4
  zones : PerZone ZoneRecord
  channels : Vector Calibration 7
  dim : InjectEntry
  wake : InjectEntry
  params : Params
  deriving DecidableEq, Repr

/-- An Injection Table entry as an image holds it: its class may be out of range (R177). -/
structure ImageInject where
  enable : Bool
  cls : Nat
  payload : List Byte
  deriving DecidableEq, Repr

/-- The working tables as an image holds them (chapter 11, section 11.5): every numeric field as a number that may be
out of its range, and every parameter, in the order of the parameter list, as its number or code (R177). -/
structure ImageTables where
  classes : Vector ClassEntry 56
  keymap : Vector KeyEntry 64
  sequences : Vector SeqSlot 4
  zones : PerZone ZoneRecord
  channels : Vector Calibration 7
  dim : ImageInject
  wake : ImageInject
  params : Vector Int 53
  deriving DecidableEq, Repr

/-- The Profile Store's image (R177): its format version, whether its CRC-16 is correct, whether an enumerated field of
a table entry holds a value that is not known, and the tables it holds. Its byte layout is not given (log 5). -/
structure StoreImage where
  version : Nat
  crcOk : Bool
  unknownEnum : Bool
  tables : ImageTables
  deriving DecidableEq, Repr

/-! ## The built-in defaults -/

/-- The default class entry (R141). -/
def ClassEntry.default : ClassEntry :=
  { direction := .both, action := .hold, heartbeat := false, activity := true, coalesce := false, wake := true,
    minLength := 0, maxLength := 48 }

/-- The default Keymap entry of a key (R101). -/
def KeyEntry.default (k : Fin 64) : KeyEntry :=
  { code := BitVec.ofNat 8 k.val, kind := .normal, repeats := true, click := true }

/-- The default Sequence Table (R115). -/
def defaultSequences : Vector SeqSlot 4 :=
  #v[{ action := .serviceRelease, mask := 0b100000000#9, hold := 30, steps := [56, 63, 56, 63] },
     { action := .restart, mask := 0b000001000#9, hold := 50, steps := [56, 57, 63] },
     { action := .powerOn, mask := 0b000000001#9, hold := 20, steps := [56] },
     { action := .none, mask := 0#9, hold := 0, steps := [] }]

/-- The default Zone Table (R17). -/
def defaultZones : PerZone ZoneRecord :=
  { board := { first := 0, second := some 1, boardGate := true, displayGate := false, tstart := 0, hyst := 8,
               soakTarget := 7200, thold := 40, band := 8, tcut := 240, tminAbs := -40, watts := 30, priority := 1 }
    display := { first := 2, second := some 3, boardGate := false, displayGate := true, tstart := 20, hyst := 8,
                 soakTarget := 4800, thold := 60, band := 8, tcut := 220, tminAbs := -80, watts := 40, priority := 0 }
    front := { first := 4, second := none, boardGate := false, displayGate := false, tstart := 0, hyst := 8,
               soakTarget := 2400, thold := 20, band := 8, tcut := 180, tminAbs := -160, watts := 15,
               priority := 2 } }

/-- The default Channel Table of channels 0 to 6 (R1). -/
def defaultChannels : Vector Calibration 7 :=
  (Vector.replicate 7 { slope := 220, offset := -280 }).set 6 { slope := 150, offset := 0 }

/-- The default Injection Table entry (R166). -/
def InjectEntry.default : InjectEntry := { enable := false, cls := 8, payload := [] }

/-- The default parameters (chapter 12, section 12.6). -/
def Params.default : Params :=
  { cyclePeriod := 1000, firstIndex := 0, lastIndex := 7, persistence := 3
    normalBudget := 120, brownoutBudget := 60, boardReserve := 60, fallbackDuty := 4
    supplyCutLimit := 360, supplyLowLimit := 420, supplyHysteresis := 20, heatWhileOff := true
    twarn := 280, thys := 20, tshut := 340, tresume := 240, tdim := 280
    riseLimit := 100, riseHysteresis := 12, riseCount := 300
    mainsPolicy := .start, preheatLimit := 30, powerGoodLimit := 1000, settleDelay := 96, resetPulse := 20
    offTime := 5, shutdownGrace := 30, hostOffDelay := 20, restartWindow := 30, restartLimit := 3
    autoResume := true, resetPolarity := .activeLow, powerGoodPolarity := .activeHigh
    bootLimit := 120, hbMax := 50, hbMin := 0, warnGrace := 10
    debounce := 5, stuckTime := 30, repeatDelay := 10, repeatPeriod := 100, anyKey := false
    stepTimeout := 2000, systemRate := 115200, displayRate := 115200
    startLimit := 10, silenceLimit := 5, offTimeRecovery := 2, retryLimit := 3, waitLimit := 20
    idlePeriod := 30, idleTimes16 := true, swallow := true }

/-- The built-in values of every working table (00_scope.md 0.5.5). -/
def Tables.default : Tables :=
  { classes := Vector.replicate 56 ClassEntry.default
    keymap := Vector.ofFn KeyEntry.default
    sequences := defaultSequences
    zones := defaultZones
    channels := defaultChannels
    dim := InjectEntry.default
    wake := InjectEntry.default
    params := Params.default }

/-- A store that has never been committed: its image is not accepted (R177). The contents are a DESIGN CHOICE
(log 5). -/
def StoreImage.blank : StoreImage :=
  { version := 0
    crcOk := false
    unknownEnum := false
    tables :=
      { classes := Vector.replicate 56 ClassEntry.default
        keymap := Vector.ofFn KeyEntry.default
        sequences := defaultSequences
        zones := defaultZones
        channels := defaultChannels
        dim := { enable := false, cls := 8, payload := [] }
        wake := { enable := false, cls := 8, payload := [] }
        params := Vector.replicate 53 0 } }

/-! ## Records the blocks keep -/

/-- A running timer: when it was started and for how long, in milliseconds (R75, R77). -/
structure Timer where
  start : Nat
  dur : Nat
  deriving DecidableEq, Repr

/-- A sample record (chapter 1, section 1.7). -/
structure Sample where
  raw : Option (BitVec 12)
  value : Option Int
  state : SampleState
  faults : Nat
  deriving DecidableEq, Repr

/-- A zone as the Heating Controller keeps it (chapter 2). -/
structure ZoneState where
  inForce : ZoneRecord
  blind : Bool
  cold : Option Int
  hot : Option Int
  soak : Nat
  request : Nat
  grant : Nat
  active : Nat
  output : Bool
  deriving DecidableEq, Repr

/-- What "zones evaluated" carries for a zone (R36). -/
structure ZoneReport where
  blind : Bool
  cold : Option Int
  hot : Option Int
  warm : Bool
  boardGate : Bool
  displayGate : Bool
  tminAbs : Int
  deriving DecidableEq, Repr

/-- A Restart Log record (R74). -/
structure LogRecord where
  seq : BitVec 16
  uptime : BitVec 32
  cause : Cause
  stateLeft : PowerState
  hot : Option Int
  slot : Option SlotField
  listLen : Nat
  deriving DecidableEq, Repr

/-- A key as the Keypad Scanner keeps it (chapter 6, section 6.1). -/
structure KeyRec where
  count : Nat
  state : KeyState
  entry : Nat
  code : Byte
  deriving DecidableEq, Repr

/-- A key event record with the tag of its key (R108). -/
structure KeyEvent where
  key : Fin 64
  code : Byte
  kind : EventKind
  time : BitVec 16
  deriving DecidableEq, Repr

/-- A slot as the Sequence Matcher keeps it; HOLDING is held with its held key (chapter 7, section 7.3). -/
structure SlotProgress where
  progress : Nat
  holding : Option (Fin 64)
  stepTimer : Option Timer
  holdTimer : Option Timer
  deriving DecidableEq, Repr

/-- The one-shot playing: its pattern, when it began, and its segment (R121). -/
structure OneShotPlay where
  pattern : OneShot
  start : Nat
  seg : Nat
  deriving DecidableEq, Repr

/-- The background: its pattern, its latest period start, and its segment (R121). -/
structure BackgroundPlay where
  pattern : Background
  start : Nat
  seg : Nat
  deriving DecidableEq, Repr

/-- A frame (R128). -/
structure Frame where
  cls : Fin 64
  payload : List Byte
  deriving DecidableEq, Repr

/-- A frame of the display queue (R160). -/
structure QueuedFrame where
  cls : Fin 64
  payload : List Byte
  coalesce : Bool
  deriving DecidableEq, Repr

/-- A receiver's state with the frame in assembly (chapter 8, section 8.3). -/
inductive RxState where
  | idle
  | length (cls : Fin 64)
  | payload (cls : Fin 64) (need : Nat) (got : List Byte)
  | check (cls : Fin 64) (got : List Byte)
  | discard
  deriving DecidableEq, Repr

/-- The seven port error counters (R131). -/
structure PortErrors where
  framing : Nat
  truncated : Nat
  header : Nat
  length : Nat
  stray : Nat
  crc : Nat
  lineBreak : Nat
  deriving DecidableEq, Repr

/-- A reply to a management request (R169). -/
structure Reply where
  command : Byte
  tag : Byte
  status : Status
  data : List Byte
  deriving DecidableEq, Repr

/-- The reply slot (R135). -/
inductive ReplySlot where
  | empty
  | held (r : Reply)
  | sending (r : Reply)
  deriving DecidableEq, Repr

/-- The content of a notice, by kind (chapter 11, section 11.4). -/
inductive NoticeContent where
  | hello (logSeq : BitVec 16) (cause : Cause) (listLen : Nat) (source : ProfileSource)
  | watchdogWarn (hbMax warnGrace early : Nat)
  | thermalWarn (blind : Bool) (hot : Option Int) (twarn : Int)
  | thermalShutdown (seconds : Nat)
  | filterService (rise hot air : Int)
  | keyStuck (key : Fin 64) (code : Byte) (released : Bool)
  | displayFault (cause : DisplayFaultCause) (retry limit : Nat)
  | sequence (slot : Fin 4)
  deriving DecidableEq, Repr

/-- The eight kinds of notice (chapter 11, section 11.4). -/
inductive NoticeKind where
  | hello | watchdogWarn | thermalWarn | thermalShutdown | filterService | keyStuck | displayFault | sequence
  deriving DecidableEq, Repr

/-- The kind of a notice's content. -/
def NoticeContent.kind : NoticeContent → NoticeKind
  | .hello _ _ _ _ => .hello
  | .watchdogWarn _ _ _ => .watchdogWarn
  | .thermalWarn _ _ _ => .thermalWarn
  | .thermalShutdown _ => .thermalShutdown
  | .filterService _ _ _ => .filterService
  | .keyStuck _ _ _ => .keyStuck
  | .displayFault _ _ _ => .displayFault
  | .sequence _ => .sequence

/-- A notice of the queue (R175). -/
structure Notice where
  seq : Byte
  content : NoticeContent
  deriving DecidableEq, Repr

/-- What the system transmitter is sending (R134). -/
inductive SysContent where
  | reply (r : Reply)
  | notice (n : Notice)
  | keys (events : List KeyEvent)
  | forwarded (f : Frame)
  deriving DecidableEq, Repr

/-- A frame in transmission on the system port and the rate it is sent at (R127). -/
structure SysTx where
  content : SysContent
  rate : Nat
  deriving DecidableEq, Repr

/-- A frame in transmission on the display port and the rate it is sent at (R127). -/
structure DispTx where
  frame : QueuedFrame
  rate : Nat
  deriving DecidableEq, Repr

end Sys2Proof.Machine
end

