-- ==== Sys2Proof/Machine/Blocks.lean ====
section
/-! DEFINITION. The state of each block and its value at cold reset, given the working tables loaded. -/

namespace Sys2Proof.Machine

/-- The Measurement Unit (chapter 1). `next` is the channel under conversion, none when no cycle is in progress;
`lastChannel` and `period` are those the cycle took at its start (R2). -/
structure Meas where
  samples : Vector Sample 8
  overrides : Vector (Option Int) 7
  changes : Vector PendingChange 7
  adcFault : Bool
  goodCount : Nat
  cycleStart : Nat
  period : Nat
  lastChannel : Fin 8
  next : Option (Fin 8)
  deriving DecidableEq, Repr

/-- A sample record that nothing has judged (R15). -/
def Sample.blank : Sample := { raw := none, value := none, state := .none, faults := 0 }

/-- The Measurement Unit at cold reset (R15). The cycle's own values are a DESIGN CHOICE (log 7): the first cycle start
replaces them. -/
def Meas.cold : Meas :=
  { samples := Vector.replicate 8 Sample.blank
    overrides := Vector.replicate 7 none
    changes := Vector.replicate 7 .none
    adcFault := false, goodCount := 0, cycleStart := 0, period := 1000, lastChannel := 7, next := none }

/-- The Heating Controller (chapter 2). `heatWhileOff` is the flag the latest evaluation took (R24). -/
structure Heat where
  zones : PerZone ZoneState
  budget : Nat
  reserve : Nat
  a8 : Nat
  reserveHeld : Bool
  brownout : Bool
  supplyCount : Nat
  supplyCut : Bool
  kept : PowerState
  heatWhileOff : Bool
  slot : Fin 8
  slotStart : Nat
  deriving DecidableEq, Repr

/-- A zone at cold reset (R38); its record in force is the loaded one (DESIGN CHOICE, log 7). -/
def ZoneState.atReset (r : ZoneRecord) : ZoneState :=
  { inForce := r, blind := true, cold := none, hot := none, soak := 0, request := 0, grant := 0, active := 0,
    output := false }

/-- The Heating Controller at cold reset (R38). -/
def Heat.cold (t : Tables) : Heat :=
  { zones := t.zones.map ZoneState.atReset
    budget := t.params.brownoutBudget, reserve := 0, a8 := 0, reserveHeld := false
    brownout := true, supplyCount := 0, supplyCut := false
    kept := .off, heatWhileOff := t.params.heatWhileOff, slot := 0, slotStart := 0 }

/-- The Thermal Limit Monitor (chapter 3, section 3.2). -/
structure Thermal where
  kept : PowerState
  air : Option Int
  warn : Bool
  warnCount : Nat
  shutdownCount : Nat
  resumeCount : Nat
  heatDim : Bool
  dimCount : Nat
  blindGiven : Bool
  filterService : Bool
  filterCount : Nat
  deriving DecidableEq, Repr

/-- The Thermal Limit Monitor at cold reset (R51). -/
def Thermal.cold : Thermal :=
  { kept := .off, air := none, warn := false, warnCount := 0, shutdownCount := 0, resumeCount := 0
    heatDim := false, dimCount := 0, blindGiven := false, filterService := false, filterCount := 0 }

/-- The Power Sequencer (chapter 4), with its two outputs, the polarities in use and the level on the power-good
input. -/
structure PowerSeq where
  state : PowerState
  phase : Option Phase
  dest : Option Destination
  pgSeen : Bool
  timer : Option Timer
  restartList : List (BitVec 32)
  log : List LogRecord
  nextSeq : BitVec 16
  boardPower : Bool
  resetAsserted : Bool
  resetPolarity : Polarity
  pgPolarity : Polarity
  pgLevel : Bool
  deriving DecidableEq, Repr

/-- The Power Sequencer at cold reset (R53, R56), with the polarities given and the level on its input. -/
def PowerSeq.cold (reset pg : Polarity) (level : Bool) : PowerSeq :=
  { state := .off, phase := none, dest := none, pgSeen := false, timer := none, restartList := [], log := []
    nextSeq := 0, boardPower := false, resetAsserted := true, resetPolarity := reset, pgPolarity := pg
    pgLevel := level }

/-- The Liveness Monitor (chapter 5, section 5.1). -/
structure Liveness where
  stage : Stage
  outcome : BootOutcome
  bootTimer : Option Timer
  hbTimer : Option Timer
  graceTimer : Option Timer
  last : Option Nat
  early : Nat
  deriving DecidableEq, Repr

/-- The Liveness Monitor at cold reset (R91). -/
def Liveness.cold : Liveness :=
  { stage := .idle, outcome := .pending, bootTimer := none, hbTimer := none, graceTimer := none, last := none
    early := 0 }

/-- The Keypad Scanner (chapter 6, section 6.1). `typematic` holds the key and the scan milliseconds at which its next
repeat is due; `scans` counts the scans made, so the present scan time is 4 times it (R94). `scanning` and `deferred`
are the model's own (log 8): reports that arrive inside a scan wait for its end (R96). -/
structure Keypad where
  keys : Vector KeyRec 64
  reportedDown : List (Fin 64)
  suppressed : List (Fin 64)
  queue : List KeyEvent
  typematic : Option (Fin 64 × Nat)
  kept : PowerState
  lossCount : Nat
  scans : Nat
  scanning : Bool
  deferred : List PowerState
  deriving DecidableEq, Repr

/-- The Keypad Scanner at cold reset (R113). -/
def Keypad.cold : Keypad :=
  { keys := Vector.replicate 64 { count := 0, state := .up, entry := 0, code := 0 }
    reportedDown := [], suppressed := [], queue := [], typematic := none, kept := .off, lossCount := 0, scans := 0
    scanning := false, deferred := [] }

/-- The Sequence Matcher (chapter 7, section 7.3); `deferred` is the model's own: the reports of the present scan that
wait to be taken (R116; log 8). -/
structure Matcher where
  slots : Vector SlotProgress 4
  kept : PowerState
  deferred : List PowerState
  deriving DecidableEq, Repr

/-- A slot with no progress, no HOLDING and no timer (R125). -/
def SlotProgress.clear : SlotProgress := { progress := 0, holding := none, stepTimer := none, holdTimer := none }

/-- The Sequence Matcher at cold reset (R125). -/
def Matcher.cold : Matcher := 
  { slots := Vector.replicate 4 SlotProgress.clear, kept := .off, deferred := [] }

/-- The Beeper Driver (R121). -/
structure Beeper where
  oneShot : Option OneShotPlay
  background : Option BackgroundPlay
  silenced : Bool
  deriving DecidableEq, Repr

/-- The Beeper Driver on leaving cold reset (R125). -/
def Beeper.cold : Beeper := { oneShot := none, background := none, silenced := false }

/-- Seven counters at zero (R131). -/
def PortErrors.zero : PortErrors :=
  { framing := 0, truncated := 0, header := 0, length := 0, stray := 0, crc := 0, lineBreak := 0 }

/-- The System Port (chapter 8, sections 8.5 to 8.7). `lineLow` holds from a character whose bits are all 0 until R130
judges it: the receiver goes on watching a line that has not returned to 1. -/
structure SysPort where
  rx : RxState
  lineLow : Bool
  isLive : Bool
  breakOn : Bool
  errors : PortErrors
  slot : ReplySlot
  fwd : List Frame
  fwdDiscard : Nat
  hostReady : Bool
  tx : Option SysTx
  rate : Nat
  rateChange : Option (Port × Nat)
  deriving DecidableEq, Repr

/-- The System Port at cold reset (R139), with the rate loaded and the level on its host-ready input. -/
def SysPort.cold (rate : Nat) (ready : Bool) : SysPort :=
  { rx := .discard, lineLow := false, isLive := false, breakOn := false, errors := PortErrors.zero
    slot := .empty, fwd := []
    fwdDiscard := 0, hostReady := ready, tx := none, rate := rate, rateChange := none }

/-- The Display Port (chapter 8, section 8.4). `lineLow` and `breakOn` are as the System Port's (R130). -/
structure DispPort where
  rx : RxState
  lineLow : Bool
  breakOn : Bool
  errors : PortErrors
  badRun : Nat
  tx : Option DispTx
  rate : Nat
  deriving DecidableEq, Repr

/-- The Display Port at cold reset (R139). -/
def DispPort.cold (rate : Nat) : DispPort :=
  { rx := .discard, lineLow := false, breakOn := false, errors := PortErrors.zero, badRun := 0, tx := none
    rate := rate }

/-- The Frame Switch's counters (R141). -/
structure Switch where
  passed : Vector Nat 64
  dropped : Vector Nat 64
  deriving DecidableEq, Repr

/-- The Frame Switch at cold reset (R152). -/
def Switch.cold : Switch := { passed := Vector.replicate 64 0, dropped := Vector.replicate 64 0 }

/-- The Display Path Controller (chapter 10, section 10.1). `startTimer` is also the recovery off-time, run in its
place. -/
structure DisplayPath where
  state : PathState
  power : Bool
  queue : List QueuedFrame
  retry : Nat
  waitTimer : Option Timer
  startTimer : Option Timer
  silenceTimer : Option Timer
  idleTimer : Option Timer
  heatDim : Bool
  dqDiscard : Nat
  deriving DecidableEq, Repr

/-- The Display Path Controller at cold reset (R167). -/
def DisplayPath.cold : DisplayPath :=
  { state := .off, power := false, queue := [], retry := 0, waitTimer := none, startTimer := none
    silenceTimer := none, idleTimer := none, heatDim := false, dqDiscard := 0 }

/-- The Management Unit (chapter 11, section 11.1). `justReported` and `replyEnded` are the model's own (log 8): the
flags reported in the present step, and a "reply ended" report not yet acted on. -/
structure Mgmt where
  sticky : BitVec 16
  justReported : BitVec 16
  queue : List Notice
  counter : Byte
  kept : PowerState
  commit : CommitState
  source : ProfileSource
  pendingSoft : Bool
  overrun : Nat
  replyEnded : Bool
  deriving DecidableEq, Repr

/-- The Management Unit at cold reset (R180), with the profile source the load gives. -/
def Mgmt.cold (source : ProfileSource) : Mgmt :=
  { sticky := 0, justReported := 0, queue := [], counter := 0, kept := .off, commit := .none, source := source
    pendingSoft := false, overrun := 0, replyEnded := false }

end Sys2Proof.Machine
end

