-- ==== Sys2Proof/Machine/State.lean ====
section
/-! DEFINITION. The state of the FX24, the ways a step can stop, and the state after reset. -/

namespace Sys2Proof.Machine

/-- The ways a command can stop the part: none. The manual describes no condition that stops it; what it calls a fault
(ADC_FAULT, a FAULT sample, DISPLAY_FAULT) is a state, a flag or a notice. -/
inductive Fault where
  deriving DecidableEq, Repr

/-- The ways a command can be refused. -/
inductive Refusal where
  /-- Raised by `exec` alone, for a command with no meaning yet; safe. No arm uses it. -/
  | notModelled (mnemonic : String)
  deriving DecidableEq, Repr

/-- The state: the working tables and the Profile Store, one field per block, whether the part is held in cold reset,
the milliseconds since it left cold reset (R56), the number of free choices made (the model's own, log 6) and the queue
of waiting commands. -/
structure State where
  held : Bool
  clockMs : Nat
  choices : Nat
  tables : Tables
  store : StoreImage
  meas : Meas
  heat : Heat
  thermal : Thermal
  power : PowerSeq
  live : Liveness
  keypad : Keypad
  matcher : Matcher
  beeper : Beeper
  sys : SysPort
  disp : DispPort
  switch : Switch
  path : DisplayPath
  mgmt : Mgmt
  pending : List Instr
  deriving DecidableEq, Repr

/-- Right after reset: standby power has just arrived and the part is held in cold reset (R53, and the "at cold reset"
rule of each chapter), with a store that was never committed (R177; log 5) and the inputs low (log 7). -/
def State.reset : State :=
  { held := true
    clockMs := 0
    choices := 0
    tables := Tables.default
    store := StoreImage.blank
    meas := Meas.cold
    heat := Heat.cold Tables.default
    thermal := Thermal.cold
    power := PowerSeq.cold .activeLow .activeHigh false
    live := Liveness.cold
    keypad := Keypad.cold
    matcher := Matcher.cold
    beeper := Beeper.cold
    sys := SysPort.cold Tables.default.params.systemRate false
    disp := DispPort.cold Tables.default.params.displayRate
    switch := Switch.cold
    path := DisplayPath.cold
    mgmt := Mgmt.cold .defaults
    pending := [] }

/-! ## Updates of one field -/

/-- The `tables` field changed by a function. -/
def State.onTables (f : Tables → Tables) (s : State) : State := { s with tables := f s.tables }

/-- The `store` field changed by a function. -/
def State.onStore (f : StoreImage → StoreImage) (s : State) : State := { s with store := f s.store }

/-- The `meas` field changed by a function. -/
def State.onMeas (f : Meas → Meas) (s : State) : State := { s with meas := f s.meas }

/-- The `heat` field changed by a function. -/
def State.onHeat (f : Heat → Heat) (s : State) : State := { s with heat := f s.heat }

/-- The `thermal` field changed by a function. -/
def State.onThermal (f : Thermal → Thermal) (s : State) : State := { s with thermal := f s.thermal }

/-- The `power` field changed by a function. -/
def State.onPower (f : PowerSeq → PowerSeq) (s : State) : State := { s with power := f s.power }

/-- The `live` field changed by a function. -/
def State.onLive (f : Liveness → Liveness) (s : State) : State := { s with live := f s.live }

/-- The `keypad` field changed by a function. -/
def State.onKeypad (f : Keypad → Keypad) (s : State) : State := { s with keypad := f s.keypad }

/-- The `matcher` field changed by a function. -/
def State.onMatcher (f : Matcher → Matcher) (s : State) : State := { s with matcher := f s.matcher }

/-- The `beeper` field changed by a function. -/
def State.onBeeper (f : Beeper → Beeper) (s : State) : State := { s with beeper := f s.beeper }

/-- The `sys` field changed by a function. -/
def State.onSys (f : SysPort → SysPort) (s : State) : State := { s with sys := f s.sys }

/-- The `disp` field changed by a function. -/
def State.onDisp (f : DispPort → DispPort) (s : State) : State := { s with disp := f s.disp }

/-- The `switch` field changed by a function. -/
def State.onSwitch (f : Switch → Switch) (s : State) : State := { s with switch := f s.switch }

/-- The `path` field changed by a function. -/
def State.onPath (f : DisplayPath → DisplayPath) (s : State) : State := { s with path := f s.path }

/-- The `mgmt` field changed by a function. -/
def State.onMgmt (f : Mgmt → Mgmt) (s : State) : State := { s with mgmt := f s.mgmt }

end Sys2Proof.Machine
end

