-- ==== Sys2Proof/Machine/Ops.lean ====
section
/-! DEFINITION. The shared operations: the clock, timers, saturating counts, free choices, notices. -/

namespace Sys2Proof.Machine

/-! ## Counts -/

/-- A 16-bit counter incremented, stopping at 65,535 (00_scope.md 0.5.3). -/
def bump (n : Nat) : Nat := min (n + 1) 65535

/-- A 16-bit counter incremented a number of times. -/
def bumpBy (n k : Nat) : Nat := min (n + k) 65535

/-- A count incremented, stopping at 255 (R8, R10, R26, R43, R45 to R47). -/
def count255 (n : Nat) : Nat := min (n + 1) 255

/-- A number taken to the nearest limit of its range (R181). -/
def clampInt (lo hi v : Int) : Int := max lo (min hi v)

/-- A natural number taken to the nearest limit of its range (R181). -/
def clampNat (lo hi v : Nat) : Nat := max lo (min hi v)

/-! ## Time -/

/-- When a timer expires, in milliseconds. -/
def Timer.due (t : Timer) : Nat := t.start + t.dur

/-- The clock moved on to a moment, unless it is already there (DESIGN CHOICE, log 2): the command that says an event
has come says that its moment has come. -/
def State.reach (ms : Nat) (s : State) : State := { s with clockMs := max s.clockMs ms }

/-- A timer started now. -/
def State.timer (s : State) (dur : Nat) : Timer := { start := s.clockMs, dur := dur }

/-- A timer started now, unless its duration is 0, which disables it (R157, R162). -/
def State.timerUnless0 (s : State) (dur : Nat) : Option Timer := if dur = 0 then none else some (s.timer dur)

/-- The uptime count: 32 bits of seconds since the part left cold reset (R56). -/
def State.uptime (s : State) : BitVec 32 := BitVec.ofNat 32 (s.clockMs / 1000)

/-- The parameters as stored. -/
abbrev State.params (s : State) : Params := s.tables.params

/-! ## Free choices -/

/-- Two outcomes that the manual both allows: where they differ the choice between them is free (DESIGN CHOICE,
log 6). -/
def State.oneOf (s a b : State) : State :=
  if a = b then a
  else if Config.firstTaken s.choices then { a with choices := s.choices + 1 }
  else { b with choices := s.choices + 1 }

/-- Two messages of one step that the manual lets be taken in either order (log 6). -/
def eitherOrder (f g : State → State) (s : State) : State := s.oneOf (g (f s)) (f (g s))

/-! ## Notices -/

/-- The states in which notices are accepted and key events queued (R175, R104). -/
def PowerState.accepts : PowerState → Bool
  | .running => true
  | .shutdown => true
  | _ => false

/-- A posting (R175): it takes the counter's value, and joins the queue, replaces its kind in place, or is discarded
by the kept power state. -/
def Mgmt.post (c : NoticeContent) (m : Mgmt) : Mgmt :=
  let n : Notice := { seq := m.counter, content := c }
  { m with
    counter := m.counter + 1
    queue :=
      if m.kept.accepts then
        if m.queue.any (fun q => q.content.kind = c.kind) then
          m.queue.map (fun q => if q.content.kind = c.kind then n else q)
        else m.queue ++ [n]
      else m.queue }

/-- A block posts a notice to the Management Unit (R175). -/
def State.post (c : NoticeContent) (s : State) : State := s.onMgmt (Mgmt.post c)

end Sys2Proof.Machine
end

