-- ==== Sys2Proof/Machine/Flags.lean ====
section
/-! DEFINITION. The sixteen sticky flags (R174). -/

namespace Sys2Proof.Machine

/-- The sticky flags, in the order of the table of R174. -/
inductive StickyFlag where
  | profileDefaulted | commitFailed | sensorFault | adcFault | sampleClamped | brownout | thermalWarn | keyLoss
  | keyStuck | ghost | displayAlert | displayAbsent | queueDiscard | mgmtOverrun | earlyHeartbeat | linkReset
  deriving DecidableEq, Repr

/-- The flag's bit in the status record (chapter 12, section 12.4: in the order of the table, PROFILE_DEFAULTED
first). -/
def StickyFlag.bit : StickyFlag → Fin 16
  | .profileDefaulted => 0
  | .commitFailed => 1
  | .sensorFault => 2
  | .adcFault => 3
  | .sampleClamped => 4
  | .brownout => 5
  | .thermalWarn => 6
  | .keyLoss => 7
  | .keyStuck => 8
  | .ghost => 9
  | .displayAlert => 10
  | .displayAbsent => 11
  | .queueDiscard => 12
  | .mgmtOverrun => 13
  | .earlyHeartbeat => 14
  | .linkReset => 15

/-- The flag alone. -/
def StickyFlag.mask (f : StickyFlag) : BitVec 16 := 1#16 <<< f.bit.val

/-- Whether a flag is set. -/
def Mgmt.hasFlag (m : Mgmt) (f : StickyFlag) : Bool := m.sticky.getLsb f.bit

/-- The Management Unit sets a flag, whether it was set before or not (R174). -/
def Mgmt.report (f : StickyFlag) (m : Mgmt) : Mgmt :=
  { m with sticky := m.sticky ||| f.mask, justReported := m.justReported ||| f.mask }

/-- A block reports a flag to the Management Unit (R174). -/
def State.report (f : StickyFlag) (s : State) : State := s.onMgmt (Mgmt.report f)

/-- A flag reported if a condition holds. -/
def State.reportIf (c : Bool) (f : StickyFlag) (s : State) : State := if c then s.report f else s

end Sys2Proof.Machine
end

