-- ==== Sys2Proof/Machine/Operands.lean ====
section
/-! DEFINITION. The layouts and codes of chapter 12: how values become bytes and bytes values, and the CRC-8. -/

namespace Sys2Proof.Machine

/-! ## Fields (R181) -/

/-- An 8-bit field. -/
def byte (n : Nat) : Byte := BitVec.ofNat 8 n

/-- A 16-bit field, least significant byte first. -/
def bytes16 (w : BitVec 16) : List Byte := [w.extractLsb' 0 8, w.extractLsb' 8 8]

/-- A 32-bit field, least significant byte first. -/
def bytes32 (w : BitVec 32) : List Byte :=
  [w.extractLsb' 0 8, w.extractLsb' 8 8, w.extractLsb' 16 8, w.extractLsb' 24 8]

/-- An unsigned 16-bit field. -/
def u16 (n : Nat) : List Byte := bytes16 (BitVec.ofNat 16 n)

/-- A signed 16-bit field. -/
def s16 (v : Int) : List Byte := bytes16 (BitVec.ofInt 16 v)

/-- A signed 16-bit field that may be absent: −32,768 when absent. -/
def s16opt (v : Option Int) : List Byte := s16 (v.getD (-32768))

/-- A byte of flags, bit 0 first. -/
def flagByte (bits : List Bool) : Byte :=
  byte (bits.foldr (fun b acc => (if b then 1 else 0) + 2 * acc) 0)

/-- Two bytes as an unsigned number. -/
def readU16 (lo hi : Byte) : Nat := lo.toNat + 256 * hi.toNat

/-- Two bytes as a signed number. -/
def readS16 (lo hi : Byte) : Int := (hi ++ lo).toInt

/-- Four bytes as a signed number. -/
def readS32 (b0 b1 b2 b3 : Byte) : Int := (b3 ++ b2 ++ b1 ++ b0).toInt

/-! ## Codes (chapter 12) -/

/-- Power states (section 12.4). -/
def PowerState.code : PowerState → Nat
  | .off => 0
  | .preheat => 1
  | .starting => 2
  | .running => 3
  | .restarting => 4
  | .shutdown => 5
  | .cycling => 6
  | .hotOff => 7
  | .serviceHold => 8

/-- Phases (section 12.4). -/
def phaseCode : Option Phase → Nat
  | none => 0
  | some .reserve => 1
  | some .powerWait => 2
  | some .settle => 3
  | some .bootWait => 4
  | some .pulse => 5

/-- Destinations (section 12.4). -/
def destCode : Option Destination → Nat
  | none => 0
  | some .hotOff => 1
  | some .off => 2

/-- Display path states (section 12.4). -/
def PathState.code : PathState → Nat
  | .off => 0
  | .waitWarm => 1
  | .starting => 2
  | .opened => 3
  | .dimmed => 4
  | .recovering => 5
  | .failed => 6

/-- Liveness stages (section 12.4). -/
def Stage.code : Stage → Nat
  | .idle => 0
  | .bootWait => 1
  | .watching => 2
  | .warned => 3
  | .suspended => 4

/-- Commit states (section 12.4). -/
def CommitState.code : CommitState → Nat
  | .none => 0
  | .inProgress => 1
  | .done => 2
  | .failed => 3

/-- Sample states (section 12.4). -/
def SampleState.code : SampleState → Nat
  | .none => 0
  | .valid => 1
  | .clamped => 2
  | .suspect => 3
  | .fault => 4
  | .stale => 5
  | .forced => 6

/-- Restart Log causes (section 12.4). -/
def Cause.code : Cause → Nat
  | .mainsReturn => 0
  | .degradedStart => 1
  | .watchdog => 2
  | .bootTimeout => 3
  | .powerLost => 4
  | .powerGoodTimeout => 5
  | .thermal => 6
  | .thermalResume => 7
  | .hostOff => 8
  | .hostRestart => 9
  | .hostCycle => 10
  | .keyPowerOn => 11
  | .keyRestart => 12
  | .serviceReleased => 13
  | .serviceHoldEntered => 14

/-- The sequence slot of a log record (section 12.4). -/
def slotCode : Option SlotField → Nat
  | none => 255
  | some (.slot n) => n.val
  | some .anyKey => 4

/-- Statuses (section 12.3). -/
def Status.code : Status → Nat
  | .ok => 0
  | .clamped => 1
  | .badCommand => 2
  | .badTable => 3
  | .badIndex => 4
  | .badValue => 5
  | .badLength => 6
  | .busy => 7
  | .refused => 8

/-- Directions (section 12.5). -/
def Direction.code : Direction → Nat
  | .none => 0
  | .toDisplay => 1
  | .toSystem => 2
  | .both => 3

/-- A direction byte; none if its code is not listed. -/
def Direction.ofCode : Nat → Option Direction
  | 0 => some .none
  | 1 => some .toDisplay
  | 2 => some .toSystem
  | 3 => some .both
  | _ => Option.none

/-- Class actions (section 12.5). -/
def ClassAction.code : ClassAction → Nat
  | .hold => 0
  | .liveOnly => 1
  | .drop => 2

/-- An action byte; none if its code is not listed. -/
def ClassAction.ofCode : Nat → Option ClassAction
  | 0 => some .hold
  | 1 => some .liveOnly
  | 2 => some .drop
  | _ => none

/-- Key kinds (section 12.5). -/
def KeyKind.code : KeyKind → Nat
  | .normal => 0
  | .service => 1
  | .disabled => 2

/-- A kind byte; none if its code is not listed. -/
def KeyKind.ofCode : Nat → Option KeyKind
  | 0 => some .normal
  | 1 => some .service
  | 2 => some .disabled
  | _ => none

/-- Slot actions (section 12.5). -/
def SlotAction.code : SlotAction → Nat
  | .none => 0
  | .powerOn => 1
  | .restart => 2
  | .serviceRelease => 3
  | .notice => 4

/-- An action byte; none if its code is not listed. -/
def SlotAction.ofCode : Nat → Option SlotAction
  | 0 => some .none
  | 1 => some .powerOn
  | 2 => some .restart
  | 3 => some .serviceRelease
  | 4 => some .notice
  | _ => Option.none

/-- Key event kinds (section 12.8). -/
def EventKind.code : EventKind → Nat
  | .press => 0
  | .release => 1
  | .autoRepeat => 2
  | .stuckRelease => 3

/-- DISPLAY_FAULT causes (section 12.7). -/
def DisplayFaultCause.code : DisplayFaultCause → Nat
  | .silence => 0
  | .retriesExhausted => 1
  | .badFrames => 2

/-- Notice kinds (section 12.7). -/
def NoticeKind.code : NoticeKind → Nat
  | .hello => 0
  | .watchdogWarn => 1
  | .thermalWarn => 2
  | .thermalShutdown => 3
  | .filterService => 4
  | .keyStuck => 5
  | .displayFault => 6
  | .sequence => 7

/-- A profile source (sections 12.4, 12.7). -/
def ProfileSource.code : ProfileSource → Nat
  | .store => 0
  | .defaults => 1

/-! ## Records -/

/-- A sample record of a channel (section 12.4). The raw code bits of an absent raw code are not given: a free value
(log 10). -/
def sampleBytes (channel : Nat) (r : Sample) : List Byte :=
  bytes16 (BitVec.ofNat 16 ((r.raw.getD (Config.absentRawCode channel)).toNat + 4096 * r.state.code
      + (if r.raw.isNone then 32768 else 0)))
    ++ s16opt r.value ++ [byte r.faults]

/-- A Restart Log record (section 12.4). -/
def logBytes (r : LogRecord) : List Byte :=
  bytes16 r.seq ++ bytes32 r.uptime ++ [byte r.cause.code, byte r.stateLeft.code] ++ s16opt r.hot
    ++ [byte (slotCode r.slot), byte r.listLen]

/-- The seven counters of a port (section 12.4). -/
def errorBytes (e : PortErrors) : List Byte :=
  u16 e.framing ++ u16 e.truncated ++ u16 e.header ++ u16 e.length ++ u16 e.stray ++ u16 e.crc ++ u16 e.lineBreak

/-- A class entry as written (section 12.5). -/
def classBytes (e : ClassEntry) : List Byte :=
  [byte e.direction.code, byte e.action.code, flagByte [e.heartbeat, e.activity, e.coalesce, e.wake],
   byte e.minLength, byte e.maxLength]

/-- A Keymap entry (section 12.5). -/
def keyBytes (e : KeyEntry) : List Byte := [e.code, byte e.kind.code, flagByte [e.repeats, e.click]]

/-- A Sequence Table slot (section 12.5). -/
def slotBytes (e : SeqSlot) : List Byte :=
  [byte e.action.code] ++ u16 e.mask.toNat ++ [byte e.hold, byte e.steps.length]
    ++ e.steps.map (fun k => byte k.val)

/-- A zone record (section 12.5). -/
def zoneBytes (r : ZoneRecord) : List Byte :=
  [byte r.first.val, byte ((r.second.map Fin.val).getD 255), flagByte [r.boardGate, r.displayGate]]
    ++ s16 r.tstart ++ [byte r.hyst] ++ u16 r.soakTarget ++ s16 r.thold ++ [byte r.band] ++ s16 r.tcut
    ++ s16 r.tminAbs ++ [byte r.watts, byte r.priority]

/-- A channel calibration (section 12.5). -/
def calibrationBytes (c : Calibration) : List Byte := s16 c.slope ++ s16 c.offset

/-- A parameter value (section 12.5). -/
def paramBytes (v : Int) : List Byte := bytes32 (BitVec.ofInt 32 v)

/-- An Injection Table entry (section 12.5). -/
def injectBytes (e : InjectEntry) : List Byte :=
  [flagByte [e.enable], byte e.cls.val, byte e.payload.length] ++ e.payload

/-- A notice's content (section 12.7). -/
def NoticeContent.bytes : NoticeContent → List Byte
  | .hello q c n src => bytes16 q ++ [byte c.code, byte n, byte src.code]
  | .watchdogWarn m g e => [byte m, byte g] ++ u16 e
  | .thermalWarn blind hot tw => [byte (if blind then 1 else 0)] ++ s16opt hot ++ s16 tw
  | .thermalShutdown n => [byte n]
  | .filterService r h a => s16 r ++ s16 h ++ s16 a
  | .keyStuck k c rel => [byte k.val, c, flagByte [rel]]
  | .displayFault c n l => [byte c.code, byte n, byte l]
  | .sequence n => [byte n.val]

/-- The payload of a notice frame (section 12.7). -/
def Notice.payload (n : Notice) : List Byte := [byte n.content.kind.code, n.seq] ++ n.content.bytes

/-- A key event record (section 12.8). -/
def KeyEvent.bytes (e : KeyEvent) : List Byte := [e.code, byte e.kind.code] ++ bytes16 e.time

/-- The payload of a reply frame (section 12.2). -/
def Reply.payload (r : Reply) : List Byte := [r.command, r.tag, byte r.status.code] ++ r.data

/-! ## Frames (R128) -/

/-- One step of the CRC-8 with polynomial x⁸ + x² + x + 1. -/
def crc8Bit (c : Byte) : Byte := if c.msb then (c <<< 1) ^^^ 7#8 else c <<< 1

/-- A byte taken into the CRC-8, most significant bit first. -/
def crc8Byte (c b : Byte) : Byte :=
  crc8Bit (crc8Bit (crc8Bit (crc8Bit (crc8Bit (crc8Bit (crc8Bit (crc8Bit (c ^^^ b))))))))

/-- The CRC-8 of some bytes, from the initial remainder 0 (R128). -/
def crc8 (bs : List Byte) : Byte := bs.foldl crc8Byte 0

/-- The data of a frame's header, length and payload characters (R128). -/
def Frame.body (f : Frame) : List Byte := [byte f.cls.val, byte f.payload.length] ++ f.payload

/-- A frame's characters, each with its mark bit: header, length, payload, CRC (R128). -/
def Frame.characters (f : Frame) : List (Byte × Bool) :=
  match f.body ++ [crc8 f.body] with
  | [] => []
  | h :: rest => (h, true) :: rest.map (fun b => (b, false))

/-- The frame that carries what the system transmitter took (R134): classes 1, 2 and 3, or the forwarded frame as it
was received. -/
def SysContent.frame : SysContent → Frame
  | .reply r => { cls := 1, payload := r.payload }
  | .notice n => { cls := 2, payload := n.payload }
  | .keys es => { cls := 3, payload := es.flatMap KeyEvent.bytes }
  | .forwarded f => f

/-- The frame that carries a frame of the display queue (R128, R132). -/
def QueuedFrame.frame (f : QueuedFrame) : Frame := { cls := f.cls, payload := f.payload }

/-! ## The lines (R126, R128) -/

/-- The eleven bits of a character, in the order they are sent: start bit 0, the data least significant bit first, the
mark bit, stop bit 1 (R126). -/
def characterBits (data : Byte) (mark : Bool) : List Bool :=
  [false] ++ (List.range 8).map (fun n => data.getLsbD n) ++ [mark, true]

/-- The data, the mark bit and the stop bit that a receiver samples in the eleven bits from a start bit (R126, R129):
what RECEIVE_CHARACTER carries. -/
def sampledCharacter : List Bool → Option (Byte × Bool × Bool)
  | [false, d0, d1, d2, d3, d4, d5, d6, d7, mark, stop] =>
    some (flagByte [d0, d1, d2, d3, d4, d5, d6, d7], mark, stop)
  | _ => none

/-- The bits of a frame's characters, sent with no gap between them (R126, R128). -/
def Frame.bits (f : Frame) : List Bool := f.characters.flatMap (fun c => characterBits c.1 c.2)

/-- The level of a serial out line a number of bit times after the frame in transmission began; the line is held at 1
whenever its transmitter is idle (R126). -/
def lineLevel (sending : Option Frame) (bitTimes : Nat) : Bool :=
  match sending with
  | none => true
  | some f => f.bits.getD bitTimes true

/-- The level of the system port's serial out line (R126, R134). -/
def SysPort.outLevel (p : SysPort) (bitTimes : Nat) : Bool := lineLevel (p.tx.map (fun x => x.content.frame)) bitTimes

/-- The level of the display port's serial out line (R126, R132). -/
def DispPort.outLevel (p : DispPort) (bitTimes : Nat) : Bool := lineLevel (p.tx.map (fun x => x.frame.frame)) bitTimes

end Sys2Proof.Machine
end

