-- ==== Sys2Proof/Machine/BeeperDriver.lean ====
section
/-! DEFINITION. The Beeper Driver (chapter 7, sections 7.5 to 7.7). -/

namespace Sys2Proof.Machine

/-! ## Patterns (R121) -/

/-- The length of a one-shot pattern, in milliseconds (R121). -/
def OneShot.length : OneShot → Nat
  | .click => 20
  | .accept => 300
  | .refuse => 180

/-- The end of a segment of a one-shot that is not its last (R121). -/
def OneShot.segEnd : OneShot → Nat → Option Nat
  | .refuse, 0 => some 60
  | .refuse, 1 => some 120
  | _, _ => none

/-- A segment of a one-shot is a tone (R121). -/
def OneShot.tone : OneShot → Nat → Bool
  | .refuse, n => n % 2 == 0
  | _, _ => true

/-- The period of a background pattern, in milliseconds (R121). -/
def Background.period : Background → Nat
  | .service => 8000
  | .hot => 4000

/-- The end, within the period, of a segment of a background pattern that is not its last (R121). -/
def Background.segEnd : Background → Nat → Option Nat
  | .service, n => if n < 5 then some (100 * (n + 1)) else none
  | .hot, n => if n = 0 then some 500 else none

/-- A segment of a background pattern is a tone (R121). -/
def Background.tone : Background → Nat → Bool
  | .service, n => decide (n < 5) && n % 2 == 0
  | .hot, n => n == 0

/-- The beeper output (R121). -/
def Beeper.output (b : Beeper) : Bool :=
  match b.oneShot, b.background with
  | some o, _ => o.pattern.tone o.seg
  | none, some g => !b.silenced && g.pattern.tone g.seg
  | none, none => false

/-! ## Events -/

/-- A request is dropped: a CLICK while ACCEPT or REFUSE plays (R122). -/
def Beeper.drops (p : OneShot) (b : Beeper) : Bool :=
  match p, b.oneShot with
  | .click, some o => decide (o.pattern ≠ .click)
  | _, _ => false

/-- A one-shot request (R122, R123). -/
def Beeper.request (p : OneShot) (now : Nat) (b : Beeper) : Beeper :=
  if b.drops p then b
  else { b with
    oneShot := some { pattern := p, start := now, seg := 0 }
    silenced := b.silenced || b.background.isSome }

/-- A one-shot requested of the Beeper Driver by another block (R122). -/
def State.beep (p : OneShot) (s : State) : State := s.onBeeper (Beeper.request p s.clockMs)

/-- The background that a power state calls for (R124). -/
def backgroundFor : PowerState → Option Background
  | .serviceHold => some .service
  | .hotOff => some .hot
  | _ => none

/-- A report of a power state (R124): a change to SERVICE or HOT takes a period start at once. -/
def Beeper.onReport (st : PowerState) (now : Nat) (b : Beeper) : Beeper :=
  if b.background.map BackgroundPlay.pattern = backgroundFor st then b
  else
    match backgroundFor st with
    | none => { b with background := none }
    | some g =>
      { b with background := some { pattern := g, start := now, seg := 0 }, silenced := b.oneShot.isSome }

/-- A segment of the playing pattern ends (R121): when, and the state after. The end of a one-shot's last segment is
its own event. -/
def Beeper.segmentEnd (b : Beeper) : Option (Nat × Beeper) :=
  match b.oneShot with
  | some o =>
    match o.pattern.segEnd o.seg with
    | some e => some (o.start + e, { b with oneShot := some { o with seg := o.seg + 1 } })
    | none => none
  | none =>
    match b.background with
    | some g =>
      match g.pattern.segEnd g.seg with
      | some e => some (g.start + e, { b with background := some { g with seg := g.seg + 1 } })
      | none => none
    | none => none

/-- The one-shot reaches its end (R121): when, and the state after. -/
def Beeper.oneShotEnd (b : Beeper) : Option (Nat × Beeper) :=
  match b.oneShot with
  | some o => some (o.start + o.pattern.length, { b with oneShot := none })
  | none => none

/-- A background period starts (R123, R124): when, and the state after. -/
def Beeper.periodStart (b : Beeper) : Option (Nat × Beeper) :=
  match b.background with
  | some g =>
    some (g.start + g.pattern.period,
      { b with
        background := some { g with start := g.start + g.pattern.period, seg := 0 }
        silenced := b.oneShot.isSome })
  | none => none

/-- An event of the beeper's own time, if it can come. -/
def State.beeperEvent (e : Option (Nat × Beeper)) (s : State) : State :=
  match e with
  | some (at_, b) => (s.reach at_).onBeeper (fun _ => b)
  | none => s

end Sys2Proof.Machine
end

