-- ==== Sys2Proof/Machine/Measurement.lean ====
section
/-! DEFINITION. The Measurement Unit (chapter 1): the conversion cycle, calibration, fault readings, the reference
self-check and overrides. -/

namespace Sys2Proof.Machine

/-! ## Samples and calibration -/

/-- The usable states (R13). -/
def SampleState.usable : SampleState → Bool
  | .valid => true
  | .clamped => true
  | .suspect => true
  | .forced => true
  | _ => false

/-- The value a usable sample gives the other blocks (R13). -/
def Sample.reading (r : Sample) : Option Int := if r.state.usable then r.value else none

/-- A channel's value range (section 1.1), channels 0 to 6. -/
def valueRange (ch : Nat) : Int × Int := if ch = 6 then (0, 600) else (-240, 600)

/-- A product divided by 1024, rounded to the nearest integer, a tie away from zero (R6). -/
def roundQuotient (x : Int) : Int := if 0 ≤ x then (x + 512) / 1024 else -((-x + 512) / 1024)

/-- The calibrated value of a code, before the clamp (R6). -/
def calibrate (c : Calibration) (code : BitVec 12) : Int := c.offset + roundQuotient (code.toNat * c.slope)

/-- A fault reading (R5). -/
def faultReading (code : BitVec 12) : Bool := decide (code.toNat < 16 ∨ 4079 < code.toNat)

/-- The Channel Table's entry for a channel: entry 7 is fixed (R1). -/
def Tables.calibration (t : Tables) (ch : Nat) : Calibration :=
  if h : ch < 7 then t.channels[ch] else { slope := 1024, offset := 0 }

/-- The override in effect for a channel; channel 7 cannot be overridden (R12). -/
def Meas.overrideOf (m : Meas) (ch : Nat) : Option Int := if h : ch < 7 then m.overrides[ch] else none

/-! ## Cycle start (R2, R4, R12) -/

/-- A pending change applied to an override in effect (R12). -/
def PendingChange.override (c : PendingChange) (ov : Option Int) : Option Int :=
  match c with
  | .none => ov
  | .set v => some v
  | .release => Option.none

/-- A pending change applied to the channel's record (R12). -/
def PendingChange.apply (c : PendingChange) (adcFault : Bool) (ov : Option Int) (r : Sample) : Sample :=
  match c with
  | .none => r
  | .set v => { r with state := .forced, value := some v }
  | .release =>
    if ov.isSome then { r with state := if adcFault then .fault else .none, value := Option.none, faults := 0 } else r

/-- The mark of a channel outside the conversion range (R4). -/
def markOutside (ch : Nat) (adcFault overridden : Bool) (r : Sample) : Sample :=
  if overridden then r
  else if decide (ch < 7) && adcFault then { r with state := .fault }
  else { r with state := .stale }

/-- A record at a cycle start: the pending change first, then the mark if the range leaves the channel out (R4). -/
def Meas.recordAtStart (m : Meas) (first last : Fin 8) (ch : Nat) (r : Sample) : Sample :=
  let c : PendingChange := if h : ch < 7 then m.changes[ch] else .none
  let r1 := c.apply m.adcFault (m.overrideOf ch) r
  if first.val ≤ ch ∧ ch ≤ last.val then r1
  else markOutside ch m.adcFault (c.override (m.overrideOf ch)).isSome r1

/-- A cycle start (R2, R4): the period and range in force are taken, changes applied and channels marked. -/
def Meas.startCycle (p : Params) (now : Nat) (m : Meas) : Meas :=
  { m with
    samples := m.samples.mapFinIdx (fun i r _ => m.recordAtStart p.firstIndex p.lastIndex i r)
    overrides := m.overrides.mapFinIdx (fun i ov h => (m.changes[i]'h).override ov)
    changes := Vector.replicate 7 .none
    cycleStart := now
    period := p.cyclePeriod
    lastChannel := p.lastIndex
    next := some p.firstIndex }

/-! ## Conversion (R5 to R8, R10, R11) -/

/-- The record of a channel 0 to 6 after a conversion (R5 to R8). -/
def convertRecord (n : Nat) (adcFault : Bool) (ov : Option Int) (cal : Calibration) (range : Int × Int)
    (code : BitVec 12) (r : Sample) : Sample :=
  let r := { r with raw := some code }
  match ov with
  | some v => { r with state := .forced, value := some v }
  | none =>
    if adcFault then { r with state := .fault }
    else if faultReading code then
      let k := count255 r.faults
      { r with faults := k, state := if r.value.isSome ∧ k < n then .suspect else .fault }
    else
      let v := calibrate cal code
      let w := clampInt range.1 range.2 v
      { r with faults := 0, value := some w, state := if v = w then .valid else .clamped }

/-- The sticky flag a conversion of a channel 0 to 6 reports: a fault reading that leaves the sample FAULT (R8), or a
clamped result (R7). -/
def convertReport (adcFault : Bool) (ov : Option Int) (code : BitVec 12) (after : Sample) : Option StickyFlag :=
  if ov.isSome || adcFault then none
  else if faultReading code then (if after.state = .fault then some .sensorFault else none)
  else if after.state = .clamped then some .sampleClamped else none

/-- The reference window (R10). -/
def inWindow (code : BitVec 12) : Bool := decide (1900 ≤ code.toNat ∧ code.toNat ≤ 2196)

/-- Every unforced record of channels 0 to 6 becomes FAULT (R11). -/
def Meas.allFault (m : Meas) : Meas :=
  { m with
    samples := m.samples.mapFinIdx (fun i r _ =>
      if decide (i < 7) && (m.overrideOf i).isNone then { r with state := .fault } else r) }

/-- Channel 7's record after a conversion (R10). -/
def referenceRecord (code : BitVec 12) (r : Sample) : Sample :=
  { raw := some code
    value := some code.toNat
    state := if inWindow code then .valid else .fault
    faults := if inWindow code then 0 else count255 r.faults }

/-- A conversion of channel 7 sets ADC_FAULT (R10). -/
def Meas.setsAdcFault (n : Nat) (code : BitVec 12) (m : Meas) : Bool :=
  !inWindow code && !m.adcFault && decide (n ≤ count255 m.samples[7].faults)

/-- The self-check at a conversion of channel 7 (R10, R11). -/
def Meas.selfCheck (n : Nat) (code : BitVec 12) (m : Meas) : Meas :=
  let m1 := { m with samples := m.samples.set 7 (referenceRecord code m.samples[7]) }
  if inWindow code then
    let g := count255 m.goodCount
    { m1 with goodCount := g, adcFault := m.adcFault && !decide (n ≤ g) }
  else if m.setsAdcFault n code then { m1.allFault with goodCount := 0, adcFault := true }
  else { m1 with goodCount := 0 }

/-- A conversion of a channel completes with a code (R5, R10). -/
def State.convert (ch : Fin 8) (code : BitVec 12) (s : State) : State :=
  if ch = 7 then
    (s.onMeas (Meas.selfCheck s.params.persistence code)).reportIf (s.meas.setsAdcFault s.params.persistence code)
      .adcFault
  else
    let ov := s.meas.overrideOf ch.val
    let after := convertRecord s.params.persistence s.meas.adcFault ov (s.tables.calibration ch.val)
      (valueRange ch.val) code s.meas.samples[ch]
    let s1 := s.onMeas (fun m => { m with samples := m.samples.set ch.val after })
    match convertReport s.meas.adcFault ov code after with
    | none => s1
    | some f => s1.report f

/-- The cycle moves to its next channel, in ascending order, or is complete (R2, R14). -/
def Meas.advance (ch : Fin 8) (m : Meas) : Meas :=
  { m with next := if ch.val < m.lastChannel.val then some (ch + 1) else none }

/-! ## Requests and soft reset -/

/-- A pending change stored for a channel 0 to 6 (R12). -/
def Meas.setChange (ch : Fin 7) (c : PendingChange) (m : Meas) : Meas :=
  { m with changes := m.changes.set ch.val c }

/-- The Measurement Unit's soft reset (R16): each override in effect is to be released, and every other pending change
is dropped. -/
def Meas.softReset (m : Meas) : Meas :=
  { m with changes := m.overrides.map (fun ov => if ov.isSome then .release else .none) }

end Sys2Proof.Machine
end

