-- ==== Sys2Proof/Machine/Heating.lean ====
section
/-! DEFINITION. The Heating Controller (chapter 2): zone evaluation, soak, duty, supply, allocation, outputs and the
reserve handshake. -/

namespace Sys2Proof.Machine

/-! ## Zones (R20 to R23) -/

/-- The usable values of a zone's channels (R20). -/
def zoneReadings (samples : Vector Sample 8) (r : ZoneRecord) : List Int :=
  let at6 (c : Fin 6) : Option Int := samples[c.val].reading
  (at6 r.first).toList ++ (r.second.bind at6).toList

/-- The soak accumulator after an evaluation (R21). -/
def soakAfter (r : ZoneRecord) (cold : Option Int) (soak : Nat) : Nat :=
  match cold with
  | none => 0
  | some c =>
    if r.tstart ≤ c then min 65535 (soak + min (c - r.tstart + 4).toNat 40)
    else if r.tstart - r.hyst ≤ c then soak
    else soak / 2

/-- The duty request of an evaluation (R23). -/
def dutyRequest (r : ZoneRecord) (fallback : Nat) (cold hot : Option Int) : Nat :=
  match cold, hot with
  | some c, some h =>
    if r.tcut ≤ h then 0
    else if r.thold - c ≤ 0 then 0
    else min 8 ((r.thold - c + r.band - 1) / r.band).toNat
  | _, _ => fallback

/-- Stage 3 of an evaluation for one zone (R19 to R23), with its record in force. -/
def ZoneState.evaluate (samples : Vector Sample 8) (fallback : Nat) (z : ZoneState) : ZoneState :=
  let vs := zoneReadings samples z.inForce
  { z with
    blind := vs.isEmpty
    cold := vs.min?
    hot := vs.max?
    soak := soakAfter z.inForce vs.min? z.soak
    request := dutyRequest z.inForce fallback vs.min? vs.max? }

/-- A zone is warm (R22): not blind, with its accumulator at or above its target as written. -/
def ZoneState.warm (target : Nat) (z : ZoneState) : Bool := !z.blind && decide (target ≤ z.soak)

/-! ## Supply (R25, R26) -/

/-- The supply cut (R25). -/
def supplyCutFor (p : Params) (v : Option Int) : Bool :=
  match v with
  | none => false
  | some x => decide (x < p.supplyCutLimit)

/-- The brownout state after an evaluation: the condition and its count (R26). -/
def brownoutStep (p : Params) (v : Option Int) (brownout : Bool) (count : Nat) : Bool × Nat :=
  match v with
  | none => (true, 0)
  | some x =>
    if brownout then
      if (p.supplyLowLimit : Int) + p.supplyHysteresis ≤ x then
        if p.persistence ≤ count255 count then (false, 0) else (true, count255 count)
      else (true, 0)
    else
      if x < p.supplyLowLimit then
        if p.persistence ≤ count255 count then (true, 0) else (false, count255 count)
      else (false, 0)

/-- Stage 2 of an evaluation (R25, R26). -/
def Heat.judgeSupply (p : Params) (v : Option Int) (h : Heat) : Heat :=
  { h with
    supplyCut := supplyCutFor p v
    brownout := (brownoutStep p v h.brownout h.supplyCount).1
    supplyCount := (brownoutStep p v h.brownout h.supplyCount).2 }

/-! ## Outputs (R31, R32) -/

/-- A zone's new grant handed to its output in a slot (R32). -/
def ZoneState.handOver (slot : Fin 8) (g : Nat) (z : ZoneState) : ZoneState :=
  if g < z.active then { z with grant := g, active := g, output := z.output && decide (slot.val < g) }
  else { z with grant := g }

/-- A zone's output at the start of a slot (R31). -/
def ZoneState.slotStart (slot : Fin 8) (z : ZoneState) : ZoneState :=
  let a := if slot = 0 then z.grant else z.active
  { z with active := a, output := decide (slot.val < a) }

/-- A slot begins (R31). -/
def Heat.nextSlot (now : Nat) (h : Heat) : Heat :=
  { h with slot := h.slot + 1, slotStart := now, zones := h.zones.map (ZoneState.slotStart (h.slot + 1)) }

/-! ## Allocation (R27 to R29) -/

/-- The zones in ascending order of the priority of their records in force (R28). -/
def Heat.order (h : Heat) : List ZoneId :=
  [0, 1, 2].flatMap (fun n => ZoneId.all.filter (fun z => (h.zones.get z).inForce.priority = n))

/-- One zone served from the available amount (R28). -/
def Heat.serve (h : Heat) (acc : Nat × PerZone Nat) (z : ZoneId) : Nat × PerZone Nat :=
  let g := min (h.zones.get z).request (acc.1 / (h.zones.get z).inForce.watts)
  (acc.1 - g * (h.zones.get z).inForce.watts, acc.2.set z g)

/-- The sharing of an available amount among the zones (R28): what is left, and the grants. -/
def Heat.share (h : Heat) (a8 : Nat) : Nat × PerZone Nat := h.order.foldl h.serve (a8, ⟨0, 0, 0⟩)

/-- Every grant of an allocation is 0 (R29, R30). -/
def Heat.allZero (h : Heat) : Bool :=
  h.supplyCut || decide (h.kept = .hotOff) || (decide (h.kept = .off) && !h.heatWhileOff)

/-- A zone has reached its cut-off (R29). -/
def ZoneState.cutOff (z : ZoneState) : Bool :=
  match z.hot with
  | none => false
  | some x => !z.blind && decide (z.inForce.tcut ≤ x)

/-- An allocation with its grants handed to the outputs (R27 to R29, R32). -/
def Heat.allocate (p : Params) (h : Heat) : Heat :=
  let b := if h.brownout then p.brownoutBudget else p.normalBudget
  let r := if h.reserveHeld then p.boardReserve else 0
  let shared := h.share (8 * (b - r))
  { h with
    budget := b
    reserve := r
    a8 := shared.1
    zones := PerZone.zip (fun z g => z.handOver h.slot (if h.allZero || z.cutOff then 0 else g)) h.zones shared.2 }

/-- Every grant set to 0 and handed to its output at once (R30). -/
def Heat.zeroGrants (h : Heat) : Heat := { h with zones := h.zones.map (ZoneState.handOver h.slot 0) }

/-! ## Evaluation (R19) -/

/-- Stage 1: the records in force and the flag of heating while off are taken (R18, R19, R24). -/
def Heat.takeRecords (t : Tables) (h : Heat) : Heat :=
  { h with
    heatWhileOff := t.params.heatWhileOff
    zones := PerZone.zip (fun z r => { z with inForce := r }) h.zones t.zones }

/-- Stage 3: every zone (R19). -/
def Heat.judgeZones (samples : Vector Sample 8) (fallback : Nat) (h : Heat) : Heat :=
  { h with zones := h.zones.map (ZoneState.evaluate samples fallback) }

/-- Stages 1 to 5 of a zone evaluation (R19). -/
def Heat.evaluate (t : Tables) (samples : Vector Sample 8) (h : Heat) : Heat :=
  (((h.takeRecords t).judgeSupply t.params samples[6].reading).judgeZones samples t.params.fallbackDuty).allocate
    t.params

/-- A zone evaluation up to its report: a change of brownout is reported (R26). -/
def State.evaluateZones (s : State) : State :=
  let b := (brownoutStep s.params s.meas.samples[6].reading s.heat.brownout s.heat.supplyCount).1
  (s.onHeat (Heat.evaluate s.tables s.meas.samples)).reportIf (b != s.heat.brownout) .brownout

/-- What "zones evaluated" carries for a zone (R36). -/
def zoneReport (target : Nat) (z : ZoneState) : ZoneReport :=
  { blind := z.blind, cold := z.cold, hot := z.hot, warm := z.warm target, boardGate := z.inForce.boardGate,
    displayGate := z.inForce.displayGate, tminAbs := z.inForce.tminAbs }

/-- What "zones evaluated" carries, and what stays readable between evaluations (R36). -/
def State.zoneReports (s : State) : PerZone ZoneReport :=
  PerZone.zip (fun r z => zoneReport r.soakTarget z) s.tables.zones s.heat.zones

/-- BOARD's hot value at the latest evaluation; absent if BOARD is blind or none has been made (R74). -/
def State.boardHot (s : State) : Option Int := s.heat.zones.board.hot

/-! ## The reserve handshake (R33, R34) and reports (R30) -/

/-- A reserve request (R33): reserve held, and an allocation whose grants are handed over. -/
def Heat.reserveRequest (p : Params) (h : Heat) : Heat := Heat.allocate p { h with reserveHeld := true }

/-- A reserve release (R34): a release while reserve held is clear changes nothing. -/
def Heat.reserveRelease (h : Heat) : Heat := if h.reserveHeld then { h with reserveHeld := false, reserve := 0 } else h

/-- A report of a power state (R30). -/
def Heat.onReport (st : PowerState) (h : Heat) : Heat :=
  let h1 := { h with kept := st }
  if decide (st = .hotOff) || (decide (st = .off) && !h.heatWhileOff) then h1.zeroGrants else h1

/-! ## Writes and soft reset -/

/-- The channels of a zone record differ from another's (R18, R39). -/
def ZoneRecord.channelsDiffer (a b : ZoneRecord) : Bool := a.first != b.first || a.second != b.second

/-- A zone's accumulator cleared if its channels changed (R18, R39). -/
def ZoneState.onRecord (old new : ZoneRecord) (z : ZoneState) : ZoneState :=
  if old.channelsDiffer new then { z with soak := 0 } else z

/-- The Heating Controller's soft reset (R39). -/
def Heat.softReset (old new : PerZone ZoneRecord) (h : Heat) : Heat :=
  { h with
    zones :=
      { board := h.zones.board.onRecord old.board new.board
        display := h.zones.display.onRecord old.display new.display
        front := h.zones.front.onRecord old.front new.front } }

end Sys2Proof.Machine
end

