-- ==== Sys2Proof/Machine/Display.lean ====
section
/-! DEFINITION. The Display Path Controller (chapter 10) and the display port's transmitter (R132). -/

namespace Sys2Proof.Machine

/-! ## The class table's view (R141, R150) -/

/-- The fields of a loadable class's entry; classes 0 to 7 have none (R141). -/
def Tables.classEntry (t : Tables) (c : Fin 64) : Option ClassEntry :=
  if h : 8 ≤ c.val then some (t.classes[c.val - 8]'(by omega)) else none

/-- The coalesce flag of a class in the Class Table. -/
def Tables.coalesceOf (t : Tables) (c : Fin 64) : Bool :=
  match t.classEntry c with
  | some e => e.coalesce
  | none => false

/-- A frame counted as passed under its class (R150). -/
def Switch.pass (c : Fin 64) (w : Switch) : Switch := { w with passed := w.passed.set c.val (bump w.passed[c]) }

/-- A frame counted as dropped under its class (R150). -/
def Switch.drop (c : Fin 64) (w : Switch) : Switch := { w with dropped := w.dropped.set c.val (bump w.dropped[c]) }

/-! ## The display queue (R160, R161) -/

/-- The states in which frames flow (R154). -/
def PathState.flows : PathState → Bool
  | .opened => true
  | .dimmed => true
  | _ => false

/-- The first frame of a class takes a new frame's content in place (R160). -/
def replaceClass (f : QueuedFrame) : List QueuedFrame → List QueuedFrame
  | [] => []
  | q :: qs => if q.cls = f.cls then f :: qs else q :: replaceClass f qs

/-- A new frame coalesces with one of its class in the queue (R160). -/
def coalesces (f : QueuedFrame) (q : List QueuedFrame) : Bool := f.coalesce && q.any (fun g => g.cls = f.cls)

/-- A new frame overflows the queue (R160). -/
def overflows (f : QueuedFrame) (q : List QueuedFrame) : Bool := !coalesces f q && decide (16 ≤ q.length)

/-- A frame placed in the display queue (R160): coalesced in place, or appended, the oldest leaving a full queue. -/
def DisplayPath.place (f : QueuedFrame) (p : DisplayPath) : DisplayPath :=
  if coalesces f p.queue then { p with queue := replaceClass f p.queue }
  else if 16 ≤ p.queue.length then { p with queue := p.queue.tail ++ [f], dqDiscard := bump p.dqDiscard }
  else { p with queue := p.queue ++ [f] }

/-- A frame placed in the display queue, an overflow reported (R160). -/
def State.placeFrame (f : QueuedFrame) (s : State) : State :=
  (s.onPath (DisplayPath.place f)).reportIf (overflows f s.path.queue) .queueDiscard

/-- The frames of a class but the oldest leave the queue; the oldest takes the given content (R160). -/
def mergeFrom (c : Fin 64) (new : QueuedFrame) : List QueuedFrame → List QueuedFrame
  | [] => []
  | q :: qs => if q.cls = c then new :: qs.filter (fun g => g.cls ≠ c) else q :: mergeFrom c new qs

/-- "Coalesce set" for a class (R160): its frames become one, at the oldest's position with the newest's content. -/
def mergeClass (c : Fin 64) (q : List QueuedFrame) : List QueuedFrame :=
  match (q.filter (fun g => g.cls = c)).getLast? with
  | none => q
  | some newest => mergeFrom c { newest with coalesce := true } q

/-- "Coalesce set" taken by the Display Path Controller (R160). -/
def DisplayPath.coalesceSet (c : Fin 64) (p : DisplayPath) : DisplayPath := { p with queue := mergeClass c p.queue }

/-- The oldest frame begins transmission when the path flows and the transmitter is ready (R161). -/
def State.displayRelease (s : State) : State :=
  match s.path.state.flows, s.disp.tx, s.path.queue with
  | true, none, f :: q =>
    (s.onPath (fun p => { p with queue := q })).onDisp (fun d => { d with tx := some { frame := f, rate := d.rate } })
  | _, _, _ => s

/-- A frame in transmission is cut off and lost (R132, R161). -/
def State.cutDisplayTx (s : State) : State :=
  if s.disp.tx.isSome then
    (s.onDisp (fun d => { d with tx := none })).onPath (fun p => { p with dqDiscard := bump p.dqDiscard })
  else s

/-- Every frame in the display queue is removed and counted, without QUEUE_DISCARD (R154, R158). -/
def DisplayPath.flush (p : DisplayPath) : DisplayPath :=
  { p with queue := [], dqDiscard := bumpBy p.dqDiscard p.queue.length }

/-! ## Injections, dimming and waking (R162 to R164) -/

/-- An Injection Table entry injected: placed if enabled, and counted as passed under its class (R163, R150). -/
def State.inject (e : InjectEntry) (s : State) : State :=
  if e.enable then
    (s.placeFrame { cls := e.cls, payload := e.payload, coalesce := s.tables.coalesceOf e.cls }).onSwitch
      (Switch.pass e.cls)
  else s

/-- The idle timer as it starts now (R162). -/
def State.idleStart (s : State) : Option Timer :=
  s.timerUnless0 (s.params.idlePeriod * (if s.params.idleTimes16 then 16000 else 1000))

/-- The silence timer as it starts now (R157). -/
def State.silenceStart (s : State) : Option Timer := s.timerUnless0 (s.params.silenceLimit * 1000)

/-- The path dims: DIM is injected and DIMMED entered (R162, R164). -/
def State.dim (s : State) : State :=
  (s.inject s.tables.dim).onPath (fun p => { p with state := .dimmed, idleTimer := none })

/-- A wake: WAKE is injected, OPEN entered and the idle timer started (R163). -/
def State.wake (s : State) : State :=
  let s1 := (s.inject s.tables.wake).onPath (fun p => { p with state := .opened, idleTimer := s.idleStart })
  s1.displayRelease

/-- A wake can be taken (R163). -/
def DisplayPath.wakeable (p : DisplayPath) : Bool := decide (p.state = .dimmed) && !p.heatDim

/-! ## Entries (R154 to R158) -/

/-- STARTING is entered (R156). -/
def State.enterStarting (s : State) : State :=
  s.onPath (fun p =>
    { p with state := .starting, power := true, waitTimer := none
             startTimer := some (s.timer (s.params.startLimit * 1000)) })

/-- OPEN is entered from STARTING (R156): a heat-dim that holds dims before any frame is released. -/
def State.enterOpen (s : State) : State :=
  let s1 := s.onPath (fun p =>
    { p with state := .opened, startTimer := none, silenceTimer := s.silenceStart, idleTimer := s.idleStart })
  (if s1.path.heatDim then s1.dim else s1).displayRelease

/-- A DISPLAY_FAULT notice is posted (R158). -/
def State.displayFault (c : DisplayFaultCause) (retry : Nat) (s : State) : State :=
  s.post (.displayFault c retry s.params.retryLimit)

/-- RECOVERING is entered, or at the retry limit FAILED (R158). -/
def State.enterRecovering (s : State) : State :=
  let s1 := s.cutDisplayTx.onPath (fun p =>
    { p with state := .recovering, power := false, waitTimer := none, startTimer := none, silenceTimer := none
             idleTimer := none })
  if s.params.retryLimit ≤ s.path.retry then
    ((s1.onPath (fun p => { p with state := .failed })).displayFault .retriesExhausted s.path.retry).onPath
      DisplayPath.flush
  else
    s1.onPath (fun p =>
      { p with retry := p.retry + 1, startTimer := some (s.timer (s.params.offTimeRecovery * 1000)) })

/-- Board power enable turns on (R154). -/
def State.pathPowerOn (s : State) : State :=
  s.onPath (fun p =>
    { p with state := .waitWarm, retry := 0, waitTimer := some (s.timer (s.params.waitLimit * 60000)) })

/-- Board power enable turns off (R154). -/
def State.pathPowerOff (s : State) : State :=
  s.cutDisplayTx.onPath (fun p =>
    { p.flush with state := .off, power := false, waitTimer := none, startTimer := none, silenceTimer := none
                   idleTimer := none })

/-! ## Events -/

/-- Every display-gate zone is warm (R155, R36). -/
def displayWarm (z : PerZone ZoneReport) : Bool := z.toList.all (fun r => !r.displayGate || r.warm)

/-- A zone is warm, or accepted: blind, or its cold value at or above its absolute minimum (R58, R155). -/
def ZoneReport.acceptable (r : ZoneReport) : Bool :=
  r.warm || r.blind || (match r.cold with | some c => decide (r.tminAbs ≤ c) | none => false)

/-- "Zones evaluated" taken by the Display Path Controller (R155). -/
def State.pathZones (z : PerZone ZoneReport) (s : State) : State :=
  if decide (s.path.state = .waitWarm) && displayWarm z then s.enterStarting else s

/-- The wait limit expires in WAIT_WARM (R155). -/
def State.waitExpired (s : State) : State :=
  if s.zoneReports.toList.all (fun r => !r.displayGate || r.acceptable) then s.enterStarting
  else s.onPath (fun p => { p with waitTimer := some (s.timer (s.params.waitLimit * 60000)) })

/-- "Display ready" (R156). -/
def State.displayReady (s : State) : State := if s.path.state = .starting then s.enterOpen else s

/-- "Display frame heard" (R157). -/
def State.displayHeard (s : State) : State :=
  if s.path.state.flows then s.onPath (fun p => { p with silenceTimer := s.silenceStart }) else s

/-- Activity (R162). -/
def State.activity (s : State) : State :=
  if s.path.state = .opened then s.onPath (fun p => { p with idleTimer := s.idleStart }) else s

/-- The silence timer expires in OPEN or DIMMED (R157). The notice's retry count is the one after R158 has acted. -/
def State.silenceExpired (s : State) : State :=
  let retry := if s.params.retryLimit ≤ s.path.retry then s.path.retry else s.path.retry + 1
  ((s.displayFault .silence retry).report .displayAbsent).enterRecovering

/-- "Bad-frame run" (R159). -/
def State.badFrameRun (s : State) : State :=
  if s.path.power then (s.report .displayAlert).displayFault .badFrames s.path.retry else s

/-- "Heat-dim on" (R164). -/
def State.heatDimOn (s : State) : State :=
  let s1 := s.onPath (fun p => { p with heatDim := true })
  if s1.path.state = .opened then s1.dim.displayRelease else s1

/-- "Heat-dim off" (R164). -/
def State.heatDimOff (s : State) : State := s.onPath (fun p => { p with heatDim := false })

/-- A wake offer from the Frame Switch (R147, R163): the state after, and whether it is answered SWALLOWED. -/
def State.wakeOffer (s : State) : State × Bool := if s.path.wakeable then (s.wake, s.params.swallow) else (s, false)

/-- A NORMAL press offered by the Keypad Scanner (R103, R162, R163): as a wake offer, but in OPEN it is activity. -/
def State.keyOffer (s : State) : State × Bool :=
  if s.path.state = .opened then (s.activity, false) else s.wakeOffer

/-- The display path takes a frame from the board, by its action (R145). -/
def PathState.takes : PathState → ClassAction → Bool
  | _, .drop => false
  | .opened, _ => true
  | .dimmed, _ => true
  | .waitWarm, .hold => true
  | .starting, .hold => true
  | .recovering, .hold => true
  | _, _ => false

/-- A frame from the board offered to the Display Path Controller and taken (R145, R160, R161). -/
def State.takeFrame (f : QueuedFrame) (s : State) : State := (s.placeFrame f).displayRelease

/-! ## Requests from management (R165) -/

/-- REQUEST_DISPLAY DIM. -/
def State.requestDim (s : State) : State × Status :=
  if s.path.state = .opened then (s.dim.displayRelease, .ok) else (s, .refused)

/-- REQUEST_DISPLAY WAKE. -/
def State.requestWake (s : State) : State × Status := if s.path.wakeable then (s.wake, .ok) else (s, .refused)

/-- REQUEST_DISPLAY RESTART. -/
def State.requestRestart (s : State) : State × Status :=
  if s.path.state = .off then (s, .refused)
  else ((s.onPath (fun p => { p with retry := 0 })).enterRecovering, .ok)

end Sys2Proof.Machine
end

