-- ==== Sys2Proof/Machine/PanelLink.lean ====
section
/-! DEFINITION. The panel link (chapter 8): the receivers, the system port's sources and transmitter, rates, liveness
and the link reset. -/

namespace Sys2Proof.Machine

/-! ## Reception (R129, R131, R132) -/

/-- A counter of a port incremented (R131). -/
def PortErrors.count (o : RxOutcome) (e : PortErrors) : PortErrors :=
  match o with
  | .framing => { e with framing := bump e.framing }
  | .truncated => { e with truncated := bump e.truncated }
  | .header => { e with header := bump e.header }
  | .length => { e with length := bump e.length }
  | .stray => { e with stray := bump e.stray }
  | .crc => { e with crc := bump e.crc }
  | .lineBreak => { e with lineBreak := bump e.lineBreak }

/-- What a character does to a receiver: the state after, the outcomes counted, and a good frame. -/
structure Judgement where
  rx : RxState
  outcomes : List RxOutcome
  good : Option Frame
  deriving DecidableEq, Repr

/-- A marked character judged as a header (R129). -/
def judgeHeader (before : List RxOutcome) (data : Byte) : Judgement :=
  if h : data.toNat < 64 then { rx := .length ⟨data.toNat, h⟩, outcomes := before, good := none }
  else { rx := .discard, outcomes := before ++ [.header], good := none }

/-- A frame is being assembled (R129). -/
def RxState.inFrame : RxState → Bool
  | .length _ => true
  | .payload _ _ _ => true
  | .check _ _ => true
  | _ => false

/-- A character with its stop bit right and its mark clear (R129). -/
def RxState.judgeUnmarked (data : Byte) : RxState → Judgement
  | .idle => { rx := .discard, outcomes := [.stray], good := none }
  | .discard => { rx := .discard, outcomes := [], good := none }
  | .length c =>
    if 48 < data.toNat then { rx := .discard, outcomes := [.length], good := none }
    else if data.toNat = 0 then { rx := .check c [], outcomes := [], good := none }
    else { rx := .payload c data.toNat [], outcomes := [], good := none }
  | .payload c need got =>
    if need ≤ got.length + 1 then { rx := .check c (got ++ [data]), outcomes := [], good := none }
    else { rx := .payload c need (got ++ [data]), outcomes := [], good := none }
  | .check c got =>
    if data = crc8 ({ cls := c, payload := got } : Frame).body then
      { rx := .idle, outcomes := [], good := some { cls := c, payload := got } }
    else { rx := .idle, outcomes := [.crc], good := none }

/-- A character whose bits are all 0, with the line still at 0 at its stop bit: it is not judged then (R129, R130). -/
def bitsAllZero (data : Byte) (mark stop : Bool) : Bool := decide (data = 0) && !mark && !stop

/-- A character judged by the receiver state and its own bits (R129). -/
def RxState.judge (rx : RxState) (data : Byte) (mark stop : Bool) : Judgement :=
  if !stop then { rx := .discard, outcomes := [.framing], good := none }
  else if mark then judgeHeader (if rx.inFrame then [.truncated] else []) data
  else rx.judgeUnmarked data

/-- The outcomes that add to the consecutive-bad-frame count (R132). -/
def RxOutcome.bad : RxOutcome → Bool
  | .framing => true
  | .truncated => true
  | .length => true
  | .crc => true
  | .lineBreak => true
  | .header => false
  | .stray => false

/-- An outcome counted on the display port, with its bad-frame run (R131, R132). -/
def State.displayOutcome (s : State) (o : RxOutcome) : State :=
  let s1 := s.onDisp (fun d => { d with errors := d.errors.count o })
  if o.bad then
    if 3 ≤ s1.disp.badRun + 1 then (s1.onDisp (fun d => { d with badRun := 0 })).badFrameRun
    else s1.onDisp (fun d => { d with badRun := d.badRun + 1 })
  else s1

/-- An outcome counted on the system port (R131). -/
def State.systemOutcome (s : State) (o : RxOutcome) : State :=
  s.onSys (fun p => { p with errors := p.errors.count o })

/-- A watched line of a port has returned to 1 before 22 bit times: its character is a FRAMING outcome (R130). -/
def State.judgeLow (port : Port) (s : State) : State :=
  match port with
  | .system =>
    if s.sys.lineLow then (s.onSys (fun p => { p with lineLow := false, rx := .discard })).systemOutcome .framing else s
  | .display =>
    if s.disp.lineLow then (s.onDisp (fun d => { d with lineLow := false, rx := .discard })).displayOutcome .framing
    else s

/-- A port's receive line returns to 1 (R130): a line watched since a character whose bits are all 0 has its character
judged, and a break ends. -/
def State.lineHigh (port : Port) (s : State) : State :=
  match port with
  | .system => (s.judgeLow .system).onSys (fun p => { p with breakOn := false })
  | .display => (s.judgeLow .display).onDisp (fun d => { d with breakOn := false })

/-! ## The reply slot (R135) -/

/-- The slot is full (R135). -/
def ReplySlot.full : ReplySlot → Bool
  | .empty => false
  | .held _ => true
  | .sending _ => true

/-- "Reply ended" is reported to the Management Unit (R135); it acts when the step's other messages have been taken
(log 8). -/
def State.replyEnds (s : State) : State := s.onMgmt (fun m => { m with replyEnded := true })

/-- A reply placed in the slot (R135): kept while the port is live, and otherwise ended at once. -/
def State.placeReply (r : Reply) (s : State) : State :=
  if s.sys.isLive then s.onSys (fun p => { p with slot := .held r }) else s.replyEnds

/-- The slot emptied from HELD or SENDING, its reply ending as DISCARDED (R135). -/
def State.dropReply (s : State) : State :=
  if s.sys.slot.full then (s.onSys (fun p => { p with slot := .empty })).replyEnds else s

/-! ## The forwarded queue (R137) -/

/-- A frame appended to the forwarded queue, the oldest leaving a full queue (R137). -/
def SysPort.appendFwd (f : Frame) (p : SysPort) : SysPort :=
  if 16 ≤ p.fwd.length then { p with fwd := p.fwd.tail ++ [f], fwdDiscard := bump p.fwdDiscard }
  else { p with fwd := p.fwd ++ [f] }

/-- A display frame appended, an overflow reported (R137). -/
def State.forward (f : Frame) (s : State) : State :=
  (s.onSys (SysPort.appendFwd f)).reportIf (decide (16 ≤ s.sys.fwd.length)) .queueDiscard

/-- The frame in transmission is a forwarded one. -/
def SysPort.sendsForwarded (p : SysPort) : Bool :=
  match p.tx with
  | some { content := .forwarded _, rate := _ } => true
  | _ => false

/-- A frame in transmission is cut off; a forwarded one is counted (R133, R137, R138). -/
def SysPort.cutTx (p : SysPort) : SysPort :=
  { p with tx := none, fwdDiscard := if p.sendsForwarded then bump p.fwdDiscard else p.fwdDiscard }

/-! ## Liveness of the system port (R133) -/

/-- The port stops being live (R133). -/
def State.portDies (s : State) : State :=
  (s.onSys (fun p =>
    { p.cutTx with rx := .discard, lineLow := false, isLive := false, breakOn := false })).dropReply.onSys
    (fun p => { p with fwd := [], fwdDiscard := bumpBy p.fwdDiscard p.fwd.length })

/-- The port becomes live (R133). -/
def SysPort.wakeUp (p : SysPort) : SysPort := { p with rx := .discard, isLive := true }

/-- A report of power state taken by the System Port (R133): it is live while board power enable is on and board reset
released. -/
def State.portReport (s : State) : State :=
  let now := s.power.boardPower && !s.power.resetAsserted
  if now == s.sys.isLive then s
  else if now then s.onSys SysPort.wakeUp
  else s.portDies

/-- The system receiver judges characters: the port is live (R133) and no break holds the line (R130). -/
def SysPort.receives (p : SysPort) : Bool := p.isLive && !p.breakOn

/-! ## The transmitter (R134, R136) -/

/-- The transmitter may begin a frame (R134). -/
def SysPort.mayBegin (p : SysPort) : Bool := p.tx.isNone && p.isLive && !p.breakOn && p.hostReady

/-- What the transmitter takes: the first non-empty source (R134). -/
def State.firstSource (s : State) : Option SysContent :=
  match s.sys.slot with
  | .held r => some (.reply r)
  | _ =>
    match s.mgmt.queue with
    | n :: _ => some (.notice n)
    | [] =>
      match s.keypad.queue with
      | e :: es => some (.keys ((e :: es).take 8))
      | [] =>
        match s.sys.fwd with
        | f :: _ => some (.forwarded f)
        | [] => none

/-- What the transmitter takes leaves its source (R135, R136, R137). -/
def State.leaveSource (c : SysContent) (s : State) : State :=
  match c with
  | .reply r => s.onSys (fun p => { p with slot := .sending r })
  | .notice _ => s.onMgmt (fun m => { m with queue := m.queue.tail })
  | .keys es => s.onKeypad (fun k => { k with queue := k.queue.drop es.length })
  | .forwarded _ => s.onSys (fun p => { p with fwd := p.fwd.tail })

/-- The system transmitter begins a frame (R134). -/
def State.beginSystemFrame (s : State) : State :=
  if s.sys.mayBegin then
    match s.firstSource with
    | none => s
    | some c => (s.leaveSource c).onSys (fun p => { p with tx := some { content := c, rate := p.rate } })
  else s

/-- A system port frame's CRC character has been sent (R135). -/
def State.systemSent (s : State) : State :=
  match s.sys.tx with
  | none => s
  | some { content := .reply _, rate := _ } =>
    (s.onSys (fun p => { p with tx := none, slot := .empty })).replyEnds
  | some _ => s.onSys (fun p => { p with tx := none })

/-! ## Breaks (R130, R138) -/

/-- A break on the live system port: counted, alone where the line has been at 0 since a character's start bit, and a
link reset (R130, R138). -/
def State.linkReset (s : State) : State :=
  ((s.systemOutcome .lineBreak).onSys
    (fun p => { p.cutTx with rx := .discard, lineLow := false, breakOn := true })).dropReply.report .linkReset

/-- A break on the display port, once for each hold of its line (R130, R132). -/
def State.displayBreak (s : State) : State :=
  if s.disp.breakOn then s
  else (s.onDisp (fun d => { d with rx := .discard, lineLow := false, breakOn := true })).displayOutcome .lineBreak

/-! ## Rates (R127) -/

/-- A rate put into use on a port (R127): a change abandons the frame in reception. -/
def State.applyRate (port : Port) (rate : Nat) (s : State) : State :=
  match port with
  | .system => if s.sys.rate = rate then s else s.onSys (fun p => { p with rate := rate, rx := .discard })
  | .display => if s.disp.rate = rate then s else s.onDisp (fun d => { d with rate := rate, rx := .discard })

/-- A rate whose reply has ended is put into use (R127). -/
def State.applyRateChange (s : State) : State :=
  match s.sys.rateChange with
  | none => s
  | some (port, rate) => (s.applyRate port rate).onSys (fun p => { p with rateChange := none })

end Sys2Proof.Machine
end

