-- ==== Sys2Proof/Machine/Reports.lean ====
section
/-! DEFINITION. Reports of power state: what each neighbouring block does on one (R55). -/

namespace Sys2Proof.Machine

/-- The Thermal Limit Monitor (R41). -/
def Thermal.onReport (st : PowerState) (t : Thermal) : Thermal :=
  { t with
    kept := st
    filterCount := if t.kept = .running ∧ st ≠ .running then 0 else t.filterCount
    resumeCount := if st = .hotOff ∨ t.kept = .hotOff then 0 else t.resumeCount
    blindGiven := if st = .running ∧ t.kept ≠ .running then false else t.blindGiven }

/-- The stage that a reported state and phase set (R77). -/
def stageFor (st : PowerState) (ph : Option Phase) : Stage :=
  match st, ph with
  | .starting, some .bootWait => .bootWait
  | .restarting, some .bootWait => .bootWait
  | .running, _ => .watching
  | .shutdown, _ => .suspended
  | _, _ => .idle

/-- The Liveness Monitor (R77): every timer is cancelled before the new stage's is started. -/
def Liveness.onReport (p : Params) (now : Nat) (st : PowerState) (ph : Option Phase) (l : Liveness) : Liveness :=
  let l0 := { l with bootTimer := none, hbTimer := none, graceTimer := none, stage := stageFor st ph }
  match stageFor st ph with
  | .bootWait =>
    { l0 with outcome := .pending, last := none, bootTimer := some { start := now, dur := p.bootLimit * 1000 } }
  | .watching => { l0 with hbTimer := some { start := now, dur := p.hbMax * 100 } }
  | _ => { l0 with last := none }

/-- A key physically down (chapter 6, section 6.2). -/
def KeyState.physicallyDown : KeyState → Bool
  | .up => false
  | _ => true

/-- A key joins a set, once. -/
def joinSet (k : Fin 64) (l : List (Fin 64)) : List (Fin 64) := if k ∈ l then l else l ++ [k]

/-- The keys, in ascending number. -/
def allKeys : List (Fin 64) := List.finRange 64

/-- The flush on leaving RUNNING or SHUTDOWN (R110). -/
def Keypad.flush (k : Keypad) : Keypad :=
  { k with
    queue := []
    reportedDown := []
    typematic := none
    suppressed :=
      (allKeys.filter (fun i => k.keys[i].state.physicallyDown)).foldl (fun l i => joinSet i l) k.suppressed }

/-- A report taken by the Keypad Scanner (R110). -/
def Keypad.takeReport (k : Keypad) (st : PowerState) : Keypad :=
  if k.kept.accepts && !st.accepts then { k.flush with kept := st } else { k with kept := st }

/-- A report reaches the Keypad Scanner: it is taken between one scan's work and the next (R96). -/
def Keypad.onReport (st : PowerState) (k : Keypad) : Keypad :=
  if k.scanning then { k with deferred := k.deferred ++ [st] } else k.takeReport st

/-- A slot's mask allows a power state (R115). -/
def SeqSlot.allows (e : SeqSlot) (st : PowerState) : Bool := e.mask.getLsbD st.code

/-- The Sequence Matcher (R116): slots whose mask does not allow the new state are cleared. -/
def Matcher.onReport (slots : Vector SeqSlot 4) (st : PowerState) (m : Matcher) : Matcher :=
  { m with
    kept := st
    slots := m.slots.mapFinIdx (fun i p h => if (slots[i]'h).allows st then p else SlotProgress.clear) }

/-- A report reaches the Sequence Matcher. Inside a scan it waits: a press of the same scan may be taken before it
(R116; log 22). -/
def Matcher.reportArrives (scanning : Bool) (slots : Vector SeqSlot 4) (st : PowerState) (m : Matcher) : Matcher :=
  if scanning then { m with deferred := m.deferred ++ [st] } else m.onReport slots st

/-- The reports that wait at the Sequence Matcher are taken, in order (R116). -/
def Matcher.takeReports (slots : Vector SeqSlot 4) (m : Matcher) : Matcher :=
  m.deferred.foldl (fun m st => m.onReport slots st) { m with deferred := [] }

/-- The Management Unit (R176): the notice queue is emptied in every state other than RUNNING and SHUTDOWN. -/
def Mgmt.onReport (st : PowerState) (m : Mgmt) : Mgmt :=
  { m with kept := st, queue := if st.accepts then m.queue else [] }

/-- The display path follows board power enable (R154). -/
def State.pathReport (turnedOn turnedOff : Bool) (s : State) : State :=
  if turnedOn then s.pathPowerOn else if turnedOff then s.pathPowerOff else s

/-- A transition's new state and phase are reported to the neighbouring blocks (R55), with whether board power enable
turned on or off. The reports need no order; the System Port is last (log 9). Inside a scan the report waits at the
Keypad Scanner and the Sequence Matcher (R96, R116; log 8); every other block takes it inside the transition. -/
def State.reportPower (turnedOn turnedOff : Bool) (s : State) : State :=
  let st := s.power.state
  ((((((((s.onHeat (Heat.onReport st)).onThermal (Thermal.onReport st)).onLive
    (Liveness.onReport s.params s.clockMs st s.power.phase)).pathReport turnedOn turnedOff).onKeypad
    (Keypad.onReport st)).onMatcher (Matcher.reportArrives s.keypad.scanning s.tables.sequences st)).onBeeper
    (Beeper.onReport st s.clockMs)).onMgmt (Mgmt.onReport st)).portReport

end Sys2Proof.Machine
end

