-- ==== Sys2Proof/Machine/Power.lean ====
section
/-! DEFINITION. The Power Sequencer (chapter 4): transitions, starts, automatic restarts, shutdowns, requests and the
Restart Log. -/

namespace Sys2Proof.Machine

/-! ## Outputs (R53) -/

/-- Board power enable in a state and phase (R53). -/
def powerEnableIn : PowerState → Option Phase → Bool
  | .starting, some .powerWait => true
  | .starting, some .settle => true
  | .starting, some .bootWait => true
  | .running, _ => true
  | .restarting, _ => true
  | .shutdown, _ => true
  | _, _ => false

/-- Board reset asserted in a state and phase; SHUTDOWN keeps the level it finds (R53). -/
def resetAssertedIn (before : Bool) : PowerState → Option Phase → Bool
  | .starting, some .bootWait => false
  | .restarting, some .bootWait => false
  | .running, _ => false
  | .shutdown, _ => before
  | _, _ => true

/-- The level of the board reset output: "asserted" is the active level of the polarity in use (R53). -/
def PowerSeq.resetLevel (p : PowerSeq) : Bool :=
  match p.resetPolarity with
  | .activeHigh => p.resetAsserted
  | .activeLow => !p.resetAsserted

/-- Power-good read through the polarity in use (R54). -/
def PowerSeq.good (p : PowerSeq) : Bool :=
  match p.pgPolarity with
  | .activeHigh => p.pgLevel
  | .activeLow => !p.pgLevel

/-! ## The Restart Log (R74) -/

/-- A record made (R74): the newest first, at most 16 held. -/
def PowerSeq.record (uptime : BitVec 32) (hot : Option Int) (left : PowerState) (p : PowerSeq)
    (c : Cause × Option SlotField) : PowerSeq :=
  { p with
    log := ({ seq := p.nextSeq, uptime := uptime, cause := c.1, stateLeft := left, hot := hot, slot := c.2
              listLen := p.restartList.length } :: p.log).take 16
    nextSeq := p.nextSeq + 1 }

/-- The records of a transition, in order (R55). -/
def State.makeRecords (left : PowerState) (cs : List (Cause × Option SlotField)) (s : State) : State :=
  s.onPower (fun p => cs.foldl (PowerSeq.record s.uptime s.boardHot left) p)

/-! ## Transitions (R55) -/

/-- Where a transition goes: state, phase, destination, and the duration of its timer if it has one. -/
structure Target where
  state : PowerState
  phase : Option Phase
  dest : Option Destination
  timer : Option Nat
  deriving DecidableEq, Repr

/-- Step 1 of a transition (R55, R53, R54): the outputs, power-good seen being cleared when board power is off. -/
def PowerSeq.setOutputs (t : Target) (p : PowerSeq) : PowerSeq :=
  { p with
    boardPower := powerEnableIn t.state t.phase
    resetAsserted := resetAssertedIn p.resetAsserted t.state t.phase
    pgSeen := p.pgSeen && powerEnableIn t.state t.phase }

/-- Whether a transition sends the reserve release (R55): board power turns off, or phase RESERVE is left for a state
without board power. -/
def PowerSeq.releases (t : Target) (p : PowerSeq) : Bool :=
  !powerEnableIn t.state t.phase && (p.boardPower || (decide (p.state = .starting) && decide (p.phase = some .reserve)))

/-- Steps 3 and 5 of a transition in the sequencer itself: the state, phase, destination and timer (R55). -/
def PowerSeq.enter (now : Nat) (t : Target) (p : PowerSeq) : PowerSeq :=
  { p with state := t.state, phase := t.phase, dest := t.dest
           timer := t.timer.map (fun d => { start := now, dur := d }) }

/-- A transition of the Power Sequencer, as one action (R55): outputs, reserve release, timer, records, report. -/
def State.transition (t : Target) (cs : List (Cause × Option SlotField)) (s : State) : State :=
  let s1 := s.onPower (PowerSeq.setOutputs t)
  let s2 := if s.power.releases t then s1.onHeat Heat.reserveRelease else s1
  let s3 := s2.makeRecords s.power.state cs
  let s4 := s3.onPower (PowerSeq.enter s.clockMs t)
  s4.reportPower (!s.power.boardPower && powerEnableIn t.state t.phase)
    (s.power.boardPower && !powerEnableIn t.state t.phase)

/-! ## Targets -/

/-- OFF. -/
def toOff : Target := { state := .off, phase := none, dest := none, timer := none }

/-- HOT_OFF (R72). -/
def toHotOff : Target := { state := .hotOff, phase := none, dest := none, timer := none }

/-- SERVICE_HOLD (R73). -/
def toServiceHold : Target := { state := .serviceHold, phase := none, dest := none, timer := none }

/-- RUNNING. -/
def toRunning : Target := { state := .running, phase := none, dest := none, timer := none }

/-- PREHEAT, with the preheat limit in force (R57). -/
def toPreheat (p : Params) : Target :=
  { state := .preheat, phase := none, dest := none, timer := some (p.preheatLimit * 60000) }

/-- STARTING, phase RESERVE, which has no timer (R59). -/
def toReserve : Target := { state := .starting, phase := some .reserve, dest := none, timer := none }

/-- STARTING, phase POWER_WAIT, with the power-good limit in force (R60). -/
def toPowerWait (p : Params) : Target :=
  { state := .starting, phase := some .powerWait, dest := none, timer := some p.powerGoodLimit }

/-- STARTING, phase SETTLE, with the settle delay in force (R61). -/
def toSettle (p : Params) : Target :=
  { state := .starting, phase := some .settle, dest := none, timer := some p.settleDelay }

/-- Phase BOOT_WAIT of STARTING or RESTARTING; the sequencer keeps no boot timer (R62). -/
def toBootWait (st : PowerState) : Target := { state := st, phase := some .bootWait, dest := none, timer := none }

/-- RESTARTING, phase PULSE, with the reset pulse in force (R63). -/
def toPulse (p : Params) : Target :=
  { state := .restarting, phase := some .pulse, dest := none, timer := some (p.resetPulse * 10) }

/-- CYCLING, with the off-time in force (R71). -/
def toCycling (p : Params) : Target :=
  { state := .cycling, phase := none, dest := none, timer := some (p.offTime * 1000) }

/-- SHUTDOWN with a destination and a grace in seconds (R67 to R69). -/
def toShutdown (d : Destination) (grace : Nat) : Target :=
  { state := .shutdown, phase := none, dest := some d, timer := some (grace * 1000) }

/-! ## Starting (R57 to R62) -/

/-- Every board-gate zone is warm (R57, R36). -/
def boardWarm (z : PerZone ZoneReport) : Bool := z.toList.all (fun r => !r.boardGate || r.warm)

/-- STARTING, phase RESERVE, is entered and the reserve request sent; its answer is RESERVE_GRANTED (R59, R33). -/
def State.enterReserve (cs : List (Cause × Option SlotField)) (s : State) : State :=
  (s.transition toReserve cs).onHeat (Heat.reserveRequest s.params)

/-- "Zones evaluated" taken by the Power Sequencer (R57). -/
def State.sequencerZones (z : PerZone ZoneReport) (s : State) : State :=
  if decide (s.power.state = .preheat) && boardWarm z then s.enterReserve [] else s

/-- The preheat limit expires in PREHEAT (R58). -/
def State.preheatExpired (s : State) : State :=
  let z := s.zoneReports
  if z.toList.all (fun r => !r.boardGate || r.acceptable) then
    s.enterReserve (if boardWarm z then [] else [(.degradedStart, none)])
  else s.onPower (fun p => { p with timer := some (s.timer (s.params.preheatLimit * 60000)) })

/-- SETTLE expires: board reset is released and BOOT_WAIT entered (R61). -/
def State.settled (s : State) : State := s.transition (toBootWait .starting) []

/-- Power-good is true in POWER_WAIT: power-good seen is set and SETTLE entered; a settle delay of 0 expires at once
(R60, R61). -/
def State.powerGoodSeen (s : State) : State :=
  let s1 := (s.onPower (fun p => { p with pgSeen := true })).transition (toSettle s.params) []
  if s.params.settleDelay = 0 then s1.settled else s1

/-- "Reserve granted" (R59, R60). -/
def State.reserveGranted (s : State) : State :=
  if s.power.state = .starting ∧ s.power.phase = some .reserve then
    let s1 := s.transition (toPowerWait s.params) []
    if s1.power.good then s1.powerGoodSeen else s1
  else s

/-- A BOOT_WAIT phase is in force (R62). -/
def PowerSeq.bootWaiting (p : PowerSeq) : Bool :=
  (decide (p.state = .starting) || decide (p.state = .restarting)) && decide (p.phase = some .bootWait)

/-- The HELLO notice is posted (R89): the newest record's number and cause, the list length, and the profile source
that the Management Unit fills in. -/
def State.postHello (s : State) : State :=
  match s.power.log with
  | [] => s
  | r :: _ => s.post (.hello r.seq r.cause s.power.restartList.length s.mgmt.source)

/-- "First heartbeat" (R62). -/
def State.firstHeartbeat (s : State) : State :=
  if s.power.bootWaiting then (s.transition toRunning []).postHello else s

/-! ## Automatic restarts (R65, R66) -/

/-- Step 1, prune (R65): entries older than the window leave at the oldest end. -/
def pruneList (now : BitVec 32) (window : Nat) (l : List (BitVec 32)) : List (BitVec 32) :=
  l.dropWhile (fun e => decide (window < (now - e).toNat))

/-- The list trimmed to a limit, the oldest entries leaving (R66). -/
def trimList (limit : Nat) (l : List (BitVec 32)) : List (BitVec 32) := l.drop (l.length - limit)

/-- The target of an automatic cause (R65). -/
def restartTarget (p : Params) : Cause → Target
  | .watchdog => toPulse p
  | _ => toCycling p

/-- An automatic restart (R65): prune, then hold or retry. -/
def State.autoRestart (c : Cause) (s : State) : State :=
  let l := pruneList s.uptime (s.params.restartWindow * 60) s.power.restartList
  if s.params.restartLimit ≤ l.length then
    (s.onPower (fun p => { p with restartList := l })).transition toServiceHold
      [(c, none), (.serviceHoldEntered, none)]
  else
    (s.onPower (fun p => { p with restartList := l ++ [s.uptime] })).transition (restartTarget s.params c)
      [(c, none)]

/-- A WATCHDOG request from the Liveness Monitor (R65): ignored outside RUNNING. -/
def State.watchdogRequest (s : State) : State := if s.power.state = .running then s.autoRestart .watchdog else s

/-- "Boot timeout" (R62). -/
def State.bootTimedOut (s : State) : State := if s.power.bootWaiting then s.autoRestart .bootTimeout else s

/-! ## Shutdown (R67, R68) -/

/-- The destination of SHUTDOWN is entered (R68), with the records given. -/
def State.endShutdown (cs : List (Cause × Option SlotField)) (s : State) : State :=
  match s.power.dest with
  | some .off => s.transition toOff cs
  | _ => s.transition toHotOff cs

/-- SHUTDOWN entered with a grace of 0 completes at once (R67, R68). -/
def State.endIfNoGrace (grace : Nat) (s : State) : State := if grace = 0 then s.endShutdown [] else s

/-- A shutdown request from the Thermal Limit Monitor (R67). -/
def State.thermalShutdown (s : State) : State :=
  match s.power.state, s.power.phase with
  | .running, _ =>
    let g := s.params.shutdownGrace
    ((s.transition (toShutdown .hotOff g) [(.thermal, none)]).post (.thermalShutdown g)).endIfNoGrace g
  | .starting, some .reserve => s.transition toHotOff [(.thermal, none)]
  | .starting, _ => (s.transition (toShutdown .hotOff 0) [(.thermal, none)]).endIfNoGrace 0
  | .restarting, _ => (s.transition (toShutdown .hotOff 0) [(.thermal, none)]).endIfNoGrace 0
  | .off, _ => s.transition toHotOff [(.thermal, none)]
  | .preheat, _ => s.transition toHotOff [(.thermal, none)]
  | .cycling, _ => s.transition toHotOff [(.thermal, none)]
  | .shutdown, _ => s
  | .hotOff, _ => s
  | .serviceHold, _ => s

/-- A resume signal (R72). -/
def State.thermalResume (s : State) : State :=
  if s.power.state = .hotOff then
    s.transition (if s.params.autoResume then toPreheat s.params else toOff) [(.thermalResume, none)]
  else s

/-! ## Requests and actions (R69, R70) -/

/-- REQUEST_POWER OFF (R69). -/
def State.requestOff (s : State) : State × Status :=
  match s.power.state with
  | .running =>
    let g := s.params.hostOffDelay
    ((s.transition (toShutdown .off g) [(.hostOff, none)]).endIfNoGrace g, .ok)
  | .shutdown => (s.endShutdown [(.hostOff, none)], .ok)
  | _ => (s, .refused)

/-- REQUEST_POWER RESTART (R69). -/
def State.requestPowerRestart (s : State) : State × Status :=
  if s.power.state = .running then (s.transition (toPulse s.params) [(.hostRestart, none)], .ok) else (s, .refused)

/-- REQUEST_POWER CYCLE (R69). -/
def State.requestCycle (s : State) : State × Status :=
  if s.power.state = .running then (s.transition (toCycling s.params) [(.hostCycle, none)], .ok) else (s, .refused)

/-- The state in which a panel action is carried out (R70). -/
def PanelAction.actsIn : PanelAction → PowerState
  | .powerOn => .off
  | .restart => .running
  | .serviceRelease => .serviceHold

/-- A panel action carried out (R70). -/
def State.carryOut (a : PanelAction) (slot : SlotField) (s : State) : State :=
  match a with
  | .powerOn => s.transition (toPreheat s.params) [(.keyPowerOn, some slot)]
  | .restart => s.transition (toPulse s.params) [(.keyRestart, some slot)]
  | .serviceRelease =>
    (s.onPower (fun p => { p with restartList := [] })).transition (toPreheat s.params) [(.serviceReleased, none)]

/-- A panel action from the Sequence Matcher (R70): refused with REFUSE where it does nothing. -/
def State.panelAction (a : PanelAction) (slot : Fin 4) (s : State) : State :=
  if s.power.state = a.actsIn then s.carryOut a (.slot slot) else s.beep .refuse

/-- The any-key POWER_ON of the Keypad Scanner (R70, R106): no REFUSE. -/
def State.anyKeyPowerOn (s : State) : State :=
  if s.power.state = .off then s.carryOut .powerOn .anyKey else s

/-! ## Power-good (R54, R64) -/

/-- A loss of power-good after it was seen (R64, R68). -/
def State.powerLost (s : State) : State :=
  match s.power.state, s.power.phase with
  | .shutdown, _ => s.endShutdown []
  | .starting, some .settle => s.autoRestart .powerLost
  | .starting, some .bootWait => s.autoRestart .powerLost
  | .running, _ => s.autoRestart .powerLost
  | .restarting, _ => s.autoRestart .powerLost
  | _, _ => s

/-- The level on the power-good input is now this (R54). -/
def State.powerGoodLevel (high : Bool) (s : State) : State :=
  let s1 := s.onPower (fun p => { p with pgLevel := high })
  if !s.power.good && s1.power.good && decide (s.power.state = .starting) && decide (s.power.phase = some .powerWait)
  then s1.powerGoodSeen
  else if s.power.good && !s1.power.good && s.power.pgSeen then s1.powerLost
  else s1

end Sys2Proof.Machine
end

