-- ==== Sys2Proof/Machine/LivenessMonitor.lean ====
section
/-! DEFINITION. The Liveness Monitor (chapter 5). -/

namespace Sys2Proof.Machine

/-- The heartbeat timer started now with hb_max in force (R78). -/
def State.hbStart (s : State) : Timer := s.timer (s.params.hbMax * 100)

/-- A heartbeat in WATCHING is early (R84): hb_min is on and the interval from the last accepted one is below it. -/
def Liveness.isEarly (hbMin now : Nat) (l : Liveness) : Bool :=
  match l.last with
  | none => false
  | some t => decide (hbMin ≠ 0 ∧ now - t < hbMin * 100)

/-- A heartbeat accepted, WATCHING entered or kept with its timer restarted (R84, R86, R92). -/
def State.acceptHeartbeat (s : State) : State :=
  s.onLive (fun l =>
    { l with stage := .watching, graceTimer := none, last := some s.clockMs, hbTimer := some s.hbStart })

/-- An early heartbeat (R84). -/
def State.earlyHeartbeat (s : State) : State :=
  (s.onLive (fun l => { l with early := bump l.early })).report .earlyHeartbeat

/-- The first heartbeat of a boot wait (R80). -/
def State.bootHeard (s : State) : State :=
  (s.onLive (fun l => { l with outcome := .heard, bootTimer := none, last := some s.clockMs })).firstHeartbeat

/-- A heartbeat (R80, R82, R84, R86, R88). -/
def State.heartbeat (s : State) : State :=
  match s.live.stage, s.live.outcome with
  | .bootWait, .pending => s.bootHeard
  | .bootWait, .heard => s.onLive (fun l => { l with last := some s.clockMs })
  | .bootWait, .timedOut => s
  | .watching, _ => if s.live.isEarly s.params.hbMin s.clockMs then s.earlyHeartbeat else s.acceptHeartbeat
  | .warned, _ => s.acceptHeartbeat
  | .idle, _ => s
  | .suspended, _ => s

/-- The boot timer expires with outcome PENDING (R81). -/
def State.bootExpired (s : State) : State :=
  (s.onLive (fun l => { l with outcome := .timedOut, bootTimer := none })).bootTimedOut

/-- The grace timer expires in WARNED (R87). -/
def State.graceExpired (s : State) : State := (s.onLive (fun l => { l with graceTimer := none })).watchdogRequest

/-- The heartbeat timer, started with this duration, expires in WATCHING (R85); a warn grace of 0 expires at once
(R87). -/
def State.heartbeatExpired (t : Timer) (s : State) : State :=
  let g := s.params.warnGrace
  let s1 := (s.onLive (fun l => { l with stage := .warned, hbTimer := none })).post
    (.watchdogWarn (t.dur / 100) g s.live.early)
  let s2 := s1.onLive (fun l => { l with graceTimer := some (s.timer (g * 1000)) })
  if g = 0 then s2.graceExpired else s2

/-- The Liveness Monitor's soft reset (R92): WATCHING and WARNED take it as an accepted heartbeat. -/
def State.livenessSoftReset (s : State) : State :=
  let s1 := s.onLive (fun l => { l with early := 0 })
  match s.live.stage with
  | .watching => s1.acceptHeartbeat
  | .warned => s1.acceptHeartbeat
  | _ => s1

end Sys2Proof.Machine
end

