-- ==== Sys2Proof/Machine/ThermalMonitor.lean ====
section
/-! DEFINITION. The Thermal Limit Monitor (chapter 3), and the delivery of "zones evaluated" (R36). -/

namespace Sys2Proof.Machine

/-! ## The six judgements (R42): each from the event's values, the thresholds and the kept power state -/

/-- A condition set at or above one threshold and cleared at or below another, each after n consecutive events, the
count stopping at a limit (R43, R47): the condition and its count after. -/
def twoWay (n : Nat) (setAt clearAt : Int) (hot : Option Int) (holds : Bool) (count : Nat) : Bool × Nat :=
  match hot with
  | none => (holds, 0)
  | some h =>
    if holds then
      if h ≤ clearAt then (if n ≤ count255 count then (false, 0) else (true, count255 count)) else (true, 0)
    else
      if setAt ≤ h then (if n ≤ count255 count then (true, 0) else (false, count255 count)) else (false, 0)

/-- Warn and its count (R43). -/
def Thermal.warnNext (p : Params) (board : Option Int) (t : Thermal) : Bool × Nat :=
  twoWay p.persistence p.twarn (p.twarn - p.thys) board t.warn t.warnCount

/-- Heat-dim and its count (R47). -/
def Thermal.dimNext (p : Params) (display : Option Int) (t : Thermal) : Bool × Nat :=
  twoWay p.persistence p.tdim (p.tdim - 20) display t.heatDim t.dimCount

/-- The shutdown count (R45). -/
def Thermal.shutdownNext (p : Params) (board : Option Int) (t : Thermal) : Nat :=
  match board with
  | none => 0
  | some h => if p.tshut ≤ h then count255 t.shutdownCount else 0

/-- The resume count (R46). -/
def Thermal.resumeNext (p : Params) (board : Option Int) (t : Thermal) : Nat :=
  if t.kept = .hotOff then
    match board with
    | none => 0
    | some h => if h ≤ p.tresume then count255 t.resumeCount else 0
  else t.resumeCount

/-- The blind-board warning is posted (R48). -/
def Thermal.warnsBlind (boardBlind : Bool) (t : Thermal) : Bool := boardBlind && !t.blindGiven && t.kept.accepts

/-- Blind warning given (R48). -/
def Thermal.blindNext (boardBlind : Bool) (t : Thermal) : Bool :=
  boardBlind && (t.blindGiven || t.kept.accepts)

/-- The rise measurement, if one is made (R49). -/
def Thermal.rise (board : Option Int) (t : Thermal) : Option Int :=
  match board, t.air with
  | some h, some a => some (h - a)
  | _, _ => none

/-- Filter-service and its count (R49, R50). -/
def Thermal.filterNext (p : Params) (board : Option Int) (t : Thermal) : Bool × Nat :=
  if t.kept = .running then
    match t.rise board with
    | none => (t.filterService, 0)
    | some r =>
      if t.filterService then
        if r ≤ (p.riseLimit : Int) - p.riseHysteresis then
          (if p.riseCount ≤ bump t.filterCount then (false, 0) else (true, bump t.filterCount))
        else (true, 0)
      else
        if (p.riseLimit : Int) < r then
          (if p.riseCount ≤ bump t.filterCount then (true, 0) else (false, bump t.filterCount))
        else (false, 0)
  else (t.filterService, t.filterCount)

/-- The monitor's own state after a "zones evaluated" event (R42). -/
def Thermal.judge (p : Params) (board display : ZoneReport) (t : Thermal) : Thermal :=
  { t with
    warn := (t.warnNext p board.hot).1
    warnCount := (t.warnNext p board.hot).2
    shutdownCount := t.shutdownNext p board.hot
    resumeCount := t.resumeNext p board.hot
    heatDim := (t.dimNext p display.hot).1
    dimCount := (t.dimNext p display.hot).2
    blindGiven := t.blindNext board.blind
    filterService := (t.filterNext p board.hot).1
    filterCount := (t.filterNext p board.hot).2 }

/-! ## What the judgements send (R44 to R50) -/

/-- Warn set: the notice and the flag; warn holding at or above Twarn: the flag (R44). -/
def State.sendWarn (before after : Thermal) (board : ZoneReport) (s : State) : State :=
  match board.hot with
  | none => s
  | some h =>
    if after.warn && decide (s.params.twarn ≤ h) then
      (if before.warn then s else s.post (.thermalWarn false (some h) s.params.twarn)).report .thermalWarn
    else s

/-- The shutdown condition holds: one shutdown request (R45). -/
def Thermal.sendsShutdown (p : Params) (after : Thermal) : Bool := decide (p.persistence ≤ after.shutdownCount)

/-- The shutdown request, if the condition holds (R45). -/
def State.sendShutdown (after : Thermal) (s : State) : State :=
  if after.sendsShutdown s.params then s.thermalShutdown else s

/-- A resume signal in HOT_OFF at or above the count (R46). -/
def State.sendResume (before after : Thermal) (s : State) : State :=
  if before.kept = .hotOff ∧ s.params.persistence ≤ after.resumeCount then s.thermalResume else s

/-- Heat-dim turned on or off (R47). -/
def State.sendHeatDim (before after : Thermal) (s : State) : State :=
  if after.heatDim && !before.heatDim then s.heatDimOn
  else if before.heatDim && !after.heatDim then s.heatDimOff
  else s

/-- The blind-board warning (R48). -/
def State.sendBlind (before : Thermal) (board : ZoneReport) (s : State) : State :=
  if before.warnsBlind board.blind then s.post (.thermalWarn true none s.params.twarn) else s

/-- Filter-service set: its notice (R50). -/
def State.sendFilter (before after : Thermal) (board : ZoneReport) (s : State) : State :=
  match board.hot, before.air with
  | some h, some a =>
    if after.filterService && !before.filterService then s.post (.filterService (h - a) h a) else s
  | _, _ => s

/-- What is sent to the Power Sequencer: the shutdown request before the resume signal (R45, R46; log 9). -/
def State.sendRequests (before after : Thermal) (s : State) : State := (s.sendShutdown after).sendResume before after

/-- A shutdown request and "heat-dim on" of the same event while the board is on and the display path OPEN: the one case
in which the order of the two tells (R154, R164). -/
def State.dimOrderTells (before after : Thermal) (s : State) : Bool :=
  after.sendsShutdown s.params && after.heatDim && !before.heatDim && s.power.boardPower
    && decide (s.path.state = .opened)

/-- The requests and heat-dim sent. A report that turns board power off and a heat-dim of the same event may reach the
display path in either order (R154; log 22). -/
def State.sendRequestsAndDim (before after : Thermal) (s : State) : State :=
  if s.dimOrderTells before after then eitherOrder (State.sendRequests before after) (State.sendHeatDim before after) s
  else (s.sendRequests before after).sendHeatDim before after

/-- "Zones evaluated" taken by the Thermal Limit Monitor (R42): all is judged before anything is sent, and sent in the
order R42 lists (log 9) where no order is free. -/
def State.thermalZones (z : PerZone ZoneReport) (s : State) : State :=
  let before := s.thermal
  let after := before.judge s.params z.board z.display
  ((((s.onThermal (fun _ => after)).sendWarn before after z.board).sendRequestsAndDim before after).sendBlind before
    z.board).sendFilter before after z.board

/-! ## Cycle complete (R14, R19, R36, R41) -/

/-- The sequencer would leave PREHEAT on the same event at which the monitor sends a shutdown request: the one case in
which the order of the recipients of "zones evaluated" tells (log 6). -/
def State.zonesOrderTells (z : PerZone ZoneReport) (s : State) : Bool :=
  decide (s.power.state = .preheat) && boardWarm z
    && (s.thermal.judge s.params z.board z.display).sendsShutdown s.params

/-- "Zones evaluated" sent to the Power Sequencer, the Display Path Controller and the Thermal Limit Monitor (R36). -/
def State.zonesEvaluated (z : PerZone ZoneReport) (s : State) : State :=
  if s.zonesOrderTells z then eitherOrder (State.sequencerZones z) (State.thermalZones z) (s.pathZones z)
  else ((s.sequencerZones z).pathZones z).thermalZones z

/-- The cycle-complete event (R14): the monitor keeps the air reading (R41), the Heating Controller evaluates (R19) and
sends the results (R36). -/
def State.cycleComplete (s : State) : State :=
  let s1 := (s.onThermal (fun t => { t with air := s.meas.samples[5].reading })).evaluateZones
  s1.zonesEvaluated s1.zoneReports

end Sys2Proof.Machine
end

