-- ==== Sys2Proof/Machine/Sequences.lean ====
section
/-! DEFINITION. The Sequence Matcher (chapter 7, sections 7.2 to 7.4). -/

namespace Sys2Proof.Machine

/-- A slot is enabled (R115). -/
def SeqSlot.enabled (e : SeqSlot) : Bool := !e.steps.isEmpty && decide (e.action ≠ .none)

/-! ## A press (R117, R118) -/

/-- A slot in HOLDING cancelled by a press (R117). -/
def SlotProgress.cancelHold (p : SlotProgress) : SlotProgress := if p.holding.isSome then SlotProgress.clear else p

/-- Advance, restart or miss: the progress after a press (R117). -/
def SeqSlot.progressAfter (e : SeqSlot) (k : Fin 64) (p : Nat) : Nat :=
  if e.steps[p]? = some k then p + 1 else if e.steps.head? = some k then 1 else 0

/-- A press judged for a slot (R117), with its end reached handled (R118). -/
def SlotProgress.judge (e : SeqSlot) (timeout now : Nat) (k : Fin 64) (p : SlotProgress) : SlotProgress :=
  let q := e.progressAfter k p.progress
  if q = 0 then { progress := 0, holding := none, stepTimer := none, holdTimer := none }
  else if q = e.steps.length ∧ e.hold ≠ 0 then
    { progress := q, holding := some k, stepTimer := none, holdTimer := some { start := now, dur := e.hold * 100 } }
  else { progress := q, holding := none, stepTimer := some { start := now, dur := timeout }, holdTimer := none }

/-- The press is judged for a slot: enabled, and its mask allows the kept power state (R117). -/
def Matcher.judges (m : Matcher) (e : SeqSlot) : Bool := e.enabled && e.allows m.kept

/-- A slot after a press (R117). -/
def Matcher.slotAfter (m : Matcher) (e : SeqSlot) (timeout now : Nat) (k : Fin 64) (p : SlotProgress) : SlotProgress :=
  if m.judges e then p.cancelHold.judge e timeout now k else p.cancelHold

/-- A slot completes on a press: it reaches its end with hold time 0 (R118). -/
def Matcher.completesOn (m : Matcher) (e : SeqSlot) (k : Fin 64) (p : SlotProgress) : Bool :=
  m.judges e && decide (e.hold = 0) && decide (e.progressAfter k p.cancelHold.progress = e.steps.length)

/-- The slots after a press (R117). -/
def Matcher.press (slots : Vector SeqSlot 4) (timeout now : Nat) (k : Fin 64) (m : Matcher) : Matcher :=
  { m with slots := m.slots.mapFinIdx (fun i p h => m.slotAfter (slots[i]'h) timeout now k p) }

/-- The lowest-numbered slot that completes on a press (R118, R120). -/
def Matcher.firesOn (slots : Vector SeqSlot 4) (k : Fin 64) (m : Matcher) : Option (Fin 4) :=
  (List.finRange 4).find? (fun i => m.completesOn slots[i] k m.slots[i])

/-! ## Firing (R120) -/

/-- Every slot's progress, HOLDING and timers cleared (R120, R125). -/
def Matcher.clearAll (m : Matcher) : Matcher := { m with slots := Vector.replicate 4 SlotProgress.clear }

/-- The action of a firing slot is delivered (R120). -/
def State.deliver (a : SlotAction) (n : Fin 4) (s : State) : State :=
  match a with
  | .none => s
  | .powerOn => s.panelAction .powerOn n
  | .restart => s.panelAction .restart n
  | .serviceRelease => s.panelAction .serviceRelease n
  | .notice => s.post (.sequence n)

/-- A slot fires (R120). -/
def State.fire (n : Fin 4) (s : State) : State :=
  ((s.onMatcher Matcher.clearAll).beep .accept).deliver s.tables.sequences[n].action n

/-! ## The matcher's four kinds of event (section 7.3) -/

/-- A press judged by the Sequence Matcher against its kept power state (R117). -/
def State.judgePress (k : Fin 64) (s : State) : State :=
  let s1 := s.onMatcher (Matcher.press s.tables.sequences s.params.stepTimeout s.clockMs k)
  match s.matcher.firesOn s.tables.sequences k with
  | none => s1
  | some n => s1.fire n

/-- The reports that wait at the Sequence Matcher are taken (R116). -/
def State.takeReports (s : State) : State := s.onMatcher (Matcher.takeReports s.tables.sequences)

/-- A press taken by the Sequence Matcher (R117): with a report of the same scan waiting, before or after that report, a
free choice (R116; log 22). -/
def State.matcherPress (k : Fin 64) (s : State) : State :=
  if s.matcher.deferred.isEmpty then s.judgePress k else s.oneOf (s.takeReports.judgePress k) (s.judgePress k)

/-- A leave: every slot HOLDING with this held key is cancelled (R118). -/
def Matcher.leave (k : Fin 64) (m : Matcher) : Matcher :=
  { m with slots := m.slots.map (fun p => if p.holding = some k then SlotProgress.clear else p) }

/-- A slot's step timer expires (R119). -/
def Matcher.stepExpired (n : Fin 4) (m : Matcher) : Matcher :=
  { m with slots := m.slots.set n.val { m.slots[n] with progress := 0, stepTimer := none } }

/-- The lowest-numbered slot whose hold timer is due at a moment (R118, R120). -/
def Matcher.firesAt (due : Nat) (m : Matcher) : Option (Fin 4) :=
  (List.finRange 4).find? (fun i => decide (m.slots[i].holdTimer.map Timer.due = some due))

/-- The hold timers due at a moment expire, as one event (R118, R120). -/
def State.holdExpired (due : Nat) (s : State) : State :=
  match s.matcher.firesAt due with
  | none => s
  | some n => s.fire n

/-- A stored slot starts afresh (R115). -/
def Matcher.slotWritten (n : Fin 4) (m : Matcher) : Matcher := { m with slots := m.slots.set n.val SlotProgress.clear }

end Sys2Proof.Machine
end

