-- ==== Sys2Proof/Machine/KeypadScanner.lean ====
section
/-! DEFINITION. The Keypad Scanner (chapter 6): debounce, ghost keys, presses, releases, stuck keys and repeat. -/

namespace Sys2Proof.Machine

/-! ## Time and keys (R94) -/

/-- The milliseconds from the first scan to the present one; the scan time is its low 16 bits (R94). -/
def Keypad.nowMs (k : Keypad) : Nat := 4 * k.scans

/-- The timestamp of an event of the present scan (R94). -/
def Keypad.timestamp (k : Keypad) : BitVec 16 := BitVec.ofNat 16 k.nowMs

/-- The key of a row and a column (R94). -/
def keyAt (r c : Fin 8) : Fin 64 := ⟨r.val * 8 + c.val, by omega⟩

/-- A key's row (R94). -/
def keyRow (k : Fin 64) : Fin 8 := ⟨k.val / 8, by omega⟩

/-- A key's column (R94). -/
def keyCol (k : Fin 64) : Fin 8 := ⟨k.val % 8, by omega⟩

/-- A key is physically down (chapter 6, section 6.2). -/
def Keypad.isDown (k : Keypad) (i : Fin 64) : Bool := k.keys[i].state.physicallyDown

/-- One key's record changed. -/
def Keypad.onKey (i : Fin 64) (f : KeyRec → KeyRec) (k : Keypad) : Keypad :=
  { k with keys := k.keys.set i.val (f k.keys[i]) }

/-- A key lies in a ghost rectangle (R97). -/
def Keypad.ghosted (k : Keypad) (i : Fin 64) : Bool :=
  (List.finRange 8).any (fun r => decide (r ≠ keyRow i) && k.isDown (keyAt r (keyCol i)) &&
    (List.finRange 8).any (fun c => decide (c ≠ keyCol i) && k.isDown (keyAt (keyRow i) c) && k.isDown (keyAt r c)))

/-! ## Debounce (R95) -/

/-- The reading differs from the debounced condition (R95). -/
def KeyRec.differs (pressed : Bool) (r : KeyRec) : Bool := pressed != r.state.physicallyDown

/-- A debounced change is made (R95). -/
def KeyRec.changes (d : Nat) (pressed : Bool) (r : KeyRec) : Bool := r.differs pressed && decide (d ≤ r.count + 1)

/-- The debounce count after a comparison (R95). -/
def KeyRec.debounce (d : Nat) (pressed : Bool) (r : KeyRec) : KeyRec :=
  { r with count := if r.differs pressed && !r.changes d pressed then r.count + 1 else 0 }

/-- The present scan counts for the debounce: every scan but the first after a cold reset does (R95). The first may, as
R95 reads, or may not, so that a key held through the cold reset is pressed D scans after it (R106, R113): a free choice
(log 21). -/
def Keypad.scanCounts (k : Keypad) : Bool := decide (k.scans ≠ 0) || Config.firstScanCounts

/-- Every key compared with its reading, in a scan that counts (R95, R113). -/
def Keypad.debounceAll (d : Nat) (reading : BitVec 64) (k : Keypad) : Keypad :=
  if k.scanCounts then { k with keys := k.keys.mapFinIdx (fun i r _ => r.debounce d (reading.getLsbD i)) } else k

/-- The debounced releases of a scan, in ascending key number (R96). -/
def Keypad.releases (d : Nat) (reading : BitVec 64) (k : Keypad) : List (Fin 64) :=
  if k.scanCounts then allKeys.filter (fun i => k.keys[i].changes d (reading.getLsbD i.val) && k.isDown i) else []

/-- The debounced presses of a scan, in ascending key number (R96). -/
def Keypad.presses (d : Nat) (reading : BitVec 64) (k : Keypad) : List (Fin 64) :=
  if k.scanCounts then allKeys.filter (fun i => k.keys[i].changes d (reading.getLsbD i.val) && !k.isDown i) else []

/-! ## The queue and the sets (R104, R105, R107, R108) -/

/-- The event count plus the reported-down set's size (R108). -/
def Keypad.load (k : Keypad) : Nat := k.queue.length + k.reportedDown.length

/-- A press has room (R108). -/
def Keypad.pressFits (k : Keypad) : Bool := decide (k.load + 2 ≤ 32)

/-- A repeat has room (R108). -/
def Keypad.repeatFits (k : Keypad) : Bool := decide (k.load + 1 ≤ 32)

/-- An event of a key in the present scan. -/
def Keypad.event (k : Keypad) (i : Fin 64) (kind : EventKind) : KeyEvent :=
  { key := i, code := k.keys[i].code, kind := kind, time := k.timestamp }

/-- A press queued (R104), with the typematic state set (R107). -/
def Keypad.queuePress (i : Fin 64) (e : KeyEntry) (delay : Nat) (k : Keypad) : Keypad :=
  let k1 := k.onKey i (fun r => { r with code := e.code })
  { k1 with
    queue := k.queue ++ [{ key := i, code := e.code, kind := .press, time := k.timestamp }]
    reportedDown := joinSet i k.reportedDown
    typematic := if e.repeats then some (i, k.nowMs + delay * 50) else none }

/-- A press dropped (R104). -/
def Keypad.dropPress (i : Fin 64) (k : Keypad) : Keypad :=
  { k with suppressed := joinSet i k.suppressed, lossCount := bump k.lossCount }

/-- A key leaves the suppressed set. -/
def Keypad.unsuppress (i : Fin 64) (k : Keypad) : Keypad := { k with suppressed := k.suppressed.filter (· ≠ i) }

/-- The typematic key becomes none if it is this key (R99, R105). -/
def Keypad.stopRepeat (i : Fin 64) (k : Keypad) : Keypad :=
  { k with typematic := if k.typematic.map Prod.fst = some i then none else k.typematic }

/-- The release of a key in the reported-down set (R105). -/
def Keypad.queueRelease (i : Fin 64) (kind : EventKind) (k : Keypad) : Keypad :=
  { k.stopRepeat i with
    queue := k.queue.filter (fun e => !(decide (e.key = i) && decide (e.kind = .autoRepeat))) ++ [k.event i kind]
    reportedDown := k.reportedDown.filter (· ≠ i) }

/-- A release handled by the sets the key is in (R105). -/
def Keypad.handleRelease (i : Fin 64) (kind : EventKind) (k : Keypad) : Keypad :=
  if i ∈ k.suppressed then k.unsuppress i
  else if i ∈ k.reportedDown then k.queueRelease i kind
  else k

/-! ## Presses (R97, R98, R102 to R104, R106) -/

/-- A NORMAL press that was PASSED decided against the kept power state and the room (R104). -/
def State.decidePress (i : Fin 64) (e : KeyEntry) (s : State) : State :=
  if s.keypad.kept.accepts then
    if s.keypad.pressFits then s.onKeypad (Keypad.queuePress i e s.params.repeatDelay)
    else (s.onKeypad (Keypad.dropPress i)).report .keyLoss
  else s

/-- A CLICK request if the entry's click flag is set (R102). -/
def State.clickFor (e : KeyEntry) (s : State) : State := if e.click then s.beep .click else s

/-- The press completes a POWER_ON sequence with hold 0: it "sends two POWER_ON actions, one from each block" (R106). -/
def State.firesPowerOn (i : Fin 64) (s : State) : Bool :=
  match s.matcher.firesOn s.tables.sequences i with
  | none => false
  | some n => decide (s.tables.sequences[n].action = .powerOn)

/-- The any-key power-on taken by the Power Sequencer before the matcher's action for the same press, and its report
by the matcher before the press (R116), unless the press sends both actions (R106; log 9). -/
def State.anyKeyFirst (i : Fin 64) (s : State) : State :=
  let s1 := s.anyKeyPowerOn
  if s.firesPowerOn i then s1.judgePress i else s1.takeReports.judgePress i

/-- A press handed to the Sequence Matcher, and with the any-key flag set in OFF also the any-key power-on: either may
be taken first (R106, R116; log 6). The power-on acts in OFF only (R70). -/
def State.handOn (i : Fin 64) (s : State) : State :=
  if s.params.anyKey && decide (s.keypad.kept = .off) && decide (s.power.state = .off) then
    s.oneOf (s.matcherPress i).anyKeyPowerOn (s.anyKeyFirst i)
  else s.matcherPress i

/-- A NORMAL press that the display path answered PASSED (R103). -/
def State.passedPress (i : Fin 64) (e : KeyEntry) (s : State) : State := ((s.decidePress i e).clickFor e).handOn i

/-- A key joins the suppressed set. -/
def Keypad.suppress (i : Fin 64) (k : Keypad) : Keypad := { k with suppressed := joinSet i k.suppressed }

/-- A key's press is processed (R102, R103). -/
def State.processPress (i : Fin 64) (s : State) : State :=
  let e := s.tables.keymap[i]
  match e.kind with
  | .normal =>
    if s.keyOffer.2 then s.keyOffer.1.onKeypad (Keypad.suppress i) else s.keyOffer.1.passedPress i e
  | .service => (s.clickFor e).matcherPress i
  | .disabled => s

/-- A key becomes DOWN, its entry time the present scan's (R97, R98). -/
def Keypad.enterDown (i : Fin 64) (k : Keypad) : Keypad :=
  k.onKey i (fun r => { r with state := .down, entry := k.nowMs })

/-- A debounced press applied (R97). -/
def State.applyPress (s : State) (i : Fin 64) : State :=
  if s.keypad.ghosted i then (s.onKeypad (Keypad.onKey i (fun r => { r with state := .blocked }))).report .ghost
  else (s.onKeypad (Keypad.enterDown i)).processPress i

/-- A BLOCKED key re-examined (R98). -/
def State.reexamine (s : State) (i : Fin 64) : State :=
  if s.keypad.keys[i].state = .blocked ∧ s.keypad.ghosted i = false then
    (s.onKeypad (fun k => (k.enterDown i).unsuppress i)).processPress i
  else s

/-! ## Releases (R100) -/

/-- A debounced release applied (R100). -/
def State.applyRelease (s : State) (i : Fin 64) : State :=
  let up (k : Keypad) : Keypad := k.onKey i (fun r => { r with state := .up })
  if s.keypad.keys[i].state = .down then
    (s.onKeypad (fun k => (up k).handleRelease i .release)).onMatcher (Matcher.leave i)
  else s.onKeypad (fun k => (up k).unsuppress i)

/-! ## Stuck keys (R99) -/

/-- A key becomes STUCK at this scan (R99). -/
def Keypad.becomesStuck (stuckTime : Nat) (i : Fin 64) (k : Keypad) : Bool :=
  decide (stuckTime ≠ 0) && decide (k.keys[i].state = .down) &&
    decide (stuckTime * 1000 ≤ k.nowMs - k.keys[i].entry)

/-- A key becomes STUCK in the scanner itself (R99, steps 1 and 2). -/
def Keypad.stick (i : Fin 64) (k : Keypad) : Keypad :=
  let k1 := k.onKey i (fun r => { r with state := .stuck })
  (if i ∈ k.reportedDown then k1.queueRelease i .stuckRelease else k1).stopRepeat i

/-- The notice and the flag of a key that became STUCK, unless it is DISABLED (R99, step 4). -/
def State.stuckNotice (i : Fin 64) (released : Bool) (s : State) : State :=
  if s.tables.keymap[i].kind = .disabled then s
  else (s.post (.keyStuck i s.tables.keymap[i].code released)).report .keyStuck

/-- The stuck check of one key (R99). -/
def State.stuckCheck (s : State) (i : Fin 64) : State :=
  if s.keypad.becomesStuck s.params.stuckTime i then
    ((s.onKeypad (Keypad.stick i)).onMatcher (Matcher.leave i)).stuckNotice i (decide (i ∈ s.keypad.reportedDown))
  else s

/-! ## Repeat (R107) -/

/-- The typematic repeat of a scan (R107). -/
def Keypad.repeatStep (period : Nat) (k : Keypad) : Keypad :=
  match k.typematic with
  | none => k
  | some (i, due) =>
    if due ≤ k.nowMs then
      { k with
        queue := if k.repeatFits then k.queue ++ [k.event i .autoRepeat] else k.queue
        typematic := some (i, due + period) }
    else k

/-! ## One scan (R96) -/

/-- A scan's work begins: reports wait for its end (R96; log 8). -/
def Keypad.beginScan (k : Keypad) : Keypad := { k with scanning := true }

/-- A scan's work ends: the reports that arrived in it are taken, in order (R96; log 8). -/
def Keypad.endScan (k : Keypad) : Keypad :=
  k.deferred.foldl Keypad.takeReport { k with scanning := false, deferred := [], scans := k.scans + 1 }

/-- Steps 2 and 3 of a scan: the releases, and the re-examination they bring on (R96). -/
def State.scanReleases (releases : List (Fin 64)) (s : State) : State :=
  let s1 := releases.foldl State.applyRelease s
  if releases.isEmpty then s1 else allKeys.foldl State.reexamine s1

/-- The work of one scan (R96). -/
def State.scanOnce (reading : BitVec 64) (s : State) : State :=
  let d := s.params.debounce
  let releases := s.keypad.releases d reading
  let presses := s.keypad.presses d reading
  let s1 := s.onKeypad (fun k => (k.debounceAll d reading).beginScan)
  let s2 := presses.foldl State.applyPress (s1.scanReleases releases)
  let s3 := allKeys.foldl State.stuckCheck s2
  ((s3.onKeypad (Keypad.repeatStep s.params.repeatPeriod)).onKeypad Keypad.endScan).takeReports

end Sys2Proof.Machine
end

