-- ==== Sys2Proof/Machine/Parameters.lean ====
section
/-! DEFINITION. The parameter list (chapter 12, section 12.6): reading and writing a parameter by its number. -/

namespace Sys2Proof.Machine

/-- A parameter number is in the list (R172). -/
def parameterListed (n : Nat) : Bool := decide (1 ≤ n ∧ n ≤ 53)

/-! ## Codes of parameter values (section 12.6) -/

/-- A set-or-clear parameter's code. -/
def flagCode (b : Bool) : Int := if b then 1 else 0

/-- A polarity's code. -/
def Polarity.code : Polarity → Int
  | .activeLow => 0
  | .activeHigh => 1

/-- The mains-return policy's code. -/
def MainsPolicy.code : MainsPolicy → Int
  | .start => 0
  | .stayOff => 1

/-! ## Reading -/

/-- A parameter as stored, by its number (R172). -/
def Params.get (p : Params) : Nat → Int
  | 1 => p.cyclePeriod
  | 2 => p.firstIndex.val
  | 3 => p.lastIndex.val
  | 4 => p.persistence
  | 5 => p.normalBudget
  | 6 => p.brownoutBudget
  | 7 => p.boardReserve
  | 8 => p.fallbackDuty
  | 9 => p.supplyCutLimit
  | 10 => p.supplyLowLimit
  | 11 => p.supplyHysteresis
  | 12 => flagCode p.heatWhileOff
  | 13 => p.twarn
  | 14 => p.thys
  | 15 => p.tshut
  | 16 => p.tresume
  | 17 => p.tdim
  | 18 => p.riseLimit
  | 19 => p.riseHysteresis
  | 20 => p.riseCount
  | 21 => p.mainsPolicy.code
  | 22 => p.preheatLimit
  | 23 => p.powerGoodLimit
  | 24 => p.settleDelay
  | 25 => p.resetPulse
  | 26 => p.offTime
  | 27 => p.shutdownGrace
  | 28 => p.hostOffDelay
  | 29 => p.restartWindow
  | 30 => p.restartLimit
  | 31 => flagCode p.autoResume
  | 32 => p.resetPolarity.code
  | 33 => p.powerGoodPolarity.code
  | 34 => p.bootLimit
  | 35 => p.hbMax
  | 36 => p.hbMin
  | 37 => p.warnGrace
  | 38 => p.debounce
  | 39 => p.stuckTime
  | 40 => p.repeatDelay
  | 41 => p.repeatPeriod
  | 42 => flagCode p.anyKey
  | 43 => p.stepTimeout
  | 44 => p.systemRate
  | 45 => p.displayRate
  | 46 => p.startLimit
  | 47 => p.silenceLimit
  | 48 => p.offTimeRecovery
  | 49 => p.retryLimit
  | 50 => p.waitLimit
  | 51 => p.idlePeriod
  | 52 => flagCode p.idleTimes16
  | 53 => flagCode p.swallow
  | _ => 0

/-! ## Writing (R181): the parameters after, and the status -/

/-- OK if the value stored is the one written, CLAMPED otherwise (R181). -/
def statusOf (written stored : Int) : Status := if written = stored then .ok else .clamped

/-- A numeric parameter stored at the nearest limit of its range (R181). -/
def writeRange (lo hi v : Int) (store : Int → Params) : Params × Status :=
  (store (clampInt lo hi v), statusOf v (clampInt lo hi v))

/-- A numeric parameter of a range without negative values. -/
def writeNat (lo hi : Nat) (v : Int) (store : Nat → Params) : Params × Status :=
  writeRange lo hi v (fun w => store w.toNat)

/-- A set-or-clear parameter: 0 or 1 alone (R181). -/
def writeFlag (p : Params) (v : Int) (store : Bool → Params) : Params × Status :=
  if v = 0 then (store false, .ok) else if v = 1 then (store true, .ok) else (p, .badValue)

/-- A parameter that accepts only the values listed (section 12.6). -/
def writeListed (p : Params) (vs : List Nat) (v : Int) (store : Nat → Params) : Params × Status :=
  match vs.find? (fun (x : Nat) => decide ((x : Int) = v)) with
  | some x => (store x, .ok)
  | none => (p, .badValue)

/-- The four rates (R126). -/
def rates : List Nat := [19200, 57600, 115200, 230400]

/-- The index of a value of 0 to 7. -/
def index8 (n : Nat) : Fin 8 := Fin.ofNat 8 n

/-- The first index written: above the last index it takes the last index with it (R3). -/
def Params.writeFirst (p : Params) (v : Int) : Params × Status :=
  writeNat 0 7 v (fun w => { p with firstIndex := index8 w, lastIndex := max p.lastIndex (index8 w) })

/-- The last index written: below the first index it is stored as the first index (R3). -/
def Params.writeLast (p : Params) (v : Int) : Params × Status :=
  let w := max p.firstIndex.val (clampInt 0 7 v).toNat
  ({ p with lastIndex := index8 w }, statusOf v w)

/-- The normal budget written: the budgets below it follow it down (R24). -/
def Params.writeNormalBudget (p : Params) (v : Int) : Params × Status :=
  writeNat 0 1000 v (fun w =>
    { p with
      normalBudget := w
      brownoutBudget := min p.brownoutBudget w
      boardReserve := min p.boardReserve (min p.brownoutBudget w) })

/-- The brownout budget written: at most the normal budget, and the board reserve follows it down (R24). -/
def Params.writeBrownoutBudget (p : Params) (v : Int) : Params × Status :=
  writeNat 0 p.normalBudget v (fun w => { p with brownoutBudget := w, boardReserve := min p.boardReserve w })

/-- The heartbeat maximum written: the minimum stays below it (R78). -/
def Params.writeHbMax (p : Params) (v : Int) : Params × Status :=
  writeNat 1 255 v (fun w => { p with hbMax := w, hbMin := if w ≤ p.hbMin then w - 1 else p.hbMin })

/-- The heartbeat minimum written: below the stored maximum (R78). -/
def Params.writeHbMin (p : Params) (v : Int) : Params × Status :=
  let w := min (clampInt 0 255 v).toNat (p.hbMax - 1)
  ({ p with hbMin := w }, statusOf v w)

/-- A parameter written by its number: the parameters after, and OK, CLAMPED or BAD_VALUE (R172, R181; R2, R3, R9, R24,
R40, R75, R78, R111, R115, R126, R166). -/
def Params.write (p : Params) (n : Nat) (v : Int) : Params × Status :=
  match n with
  | 1 => writeListed p [250, 500, 1000, 2000] v (fun w => { p with cyclePeriod := w })
  | 2 => p.writeFirst v
  | 3 => p.writeLast v
  | 4 => writeNat 1 8 v (fun w => { p with persistence := w })
  | 5 => p.writeNormalBudget v
  | 6 => p.writeBrownoutBudget v
  | 7 => writeNat 0 p.brownoutBudget v (fun w => { p with boardReserve := w })
  | 8 => writeNat 0 8 v (fun w => { p with fallbackDuty := w })
  | 9 => writeNat 0 600 v (fun w => { p with supplyCutLimit := w })
  | 10 => writeNat 0 600 v (fun w => { p with supplyLowLimit := w })
  | 11 => writeNat 0 100 v (fun w => { p with supplyHysteresis := w })
  | 12 => writeFlag p v (fun b => { p with heatWhileOff := b })
  | 13 => writeRange (-240) 600 v (fun w => { p with twarn := w })
  | 14 => writeNat 0 255 v (fun w => { p with thys := w })
  | 15 => writeRange (-240) 600 v (fun w => { p with tshut := w })
  | 16 => writeRange (-240) 600 v (fun w => { p with tresume := w })
  | 17 => writeRange (-240) 600 v (fun w => { p with tdim := w })
  | 18 => writeNat 0 840 v (fun w => { p with riseLimit := w })
  | 19 => writeNat 0 255 v (fun w => { p with riseHysteresis := w })
  | 20 => writeNat 1 65535 v (fun w => { p with riseCount := w })
  | 21 => writeFlag p v (fun b => { p with mainsPolicy := if b then .stayOff else .start })
  | 22 => writeNat 1 255 v (fun w => { p with preheatLimit := w })
  | 23 => writeNat 100 5000 v (fun w => { p with powerGoodLimit := w })
  | 24 => writeListed p [0, 32, 96, 250] v (fun w => { p with settleDelay := w })
  | 25 => writeNat 1 255 v (fun w => { p with resetPulse := w })
  | 26 => writeNat 1 60 v (fun w => { p with offTime := w })
  | 27 => writeNat 0 255 v (fun w => { p with shutdownGrace := w })
  | 28 => writeNat 0 255 v (fun w => { p with hostOffDelay := w })
  | 29 => writeNat 1 1440 v (fun w => { p with restartWindow := w })
  | 30 => writeNat 1 8 v (fun w => { p with restartLimit := w })
  | 31 => writeFlag p v (fun b => { p with autoResume := b })
  | 32 => writeFlag p v (fun b => { p with resetPolarity := if b then .activeHigh else .activeLow })
  | 33 => writeFlag p v (fun b => { p with powerGoodPolarity := if b then .activeHigh else .activeLow })
  | 34 => writeNat 10 600 v (fun w => { p with bootLimit := w })
  | 35 => p.writeHbMax v
  | 36 => p.writeHbMin v
  | 37 => writeNat 0 255 v (fun w => { p with warnGrace := w })
  | 38 => writeNat 2 15 v (fun w => { p with debounce := w })
  | 39 => writeNat 0 255 v (fun w => { p with stuckTime := w })
  | 40 => writeNat 5 20 v (fun w => { p with repeatDelay := w })
  | 41 => writeNat 33 500 v (fun w => { p with repeatPeriod := w })
  | 42 => writeFlag p v (fun b => { p with anyKey := b })
  | 43 => writeNat 500 5000 v (fun w => { p with stepTimeout := w })
  | 44 => writeListed p rates v (fun w => { p with systemRate := w })
  | 45 => writeListed p rates v (fun w => { p with displayRate := w })
  | 46 => writeNat 1 60 v (fun w => { p with startLimit := w })
  | 47 => writeNat 0 255 v (fun w => { p with silenceLimit := w })
  | 48 => writeNat 1 30 v (fun w => { p with offTimeRecovery := w })
  | 49 => writeNat 0 7 v (fun w => { p with retryLimit := w })
  | 50 => writeNat 1 255 v (fun w => { p with waitLimit := w })
  | 51 => writeNat 0 255 v (fun w => { p with idlePeriod := w })
  | 52 => writeFlag p v (fun b => { p with idleTimes16 := b })
  | 53 => writeFlag p v (fun b => { p with swallow := b })
  | _ => (p, .badIndex)

end Sys2Proof.Machine
end

