-- ==== Sys2Proof/Machine/Profile.lean ====
section
/-! DEFINITION. Writing the working tables' entries, and loading the working tables from the Profile Store (R177). -/

namespace Sys2Proof.Machine

/-! ## Entries as stored -/

/-- A class entry corrected (R142): lengths at most 48, the maximum not below the minimum. -/
def ClassEntry.corrected (e : ClassEntry) : ClassEntry :=
  { e with minLength := min e.minLength 48, maxLength := max (min e.maxLength 48) (min e.minLength 48) }

/-- A slot with its hold time at most 100 (R115). -/
def SeqSlot.corrected (e : SeqSlot) : SeqSlot := { e with hold := min e.hold 100 }

/-- A zone record's numeric fields at the nearest limits of their ranges (R17, R18). -/
def ZoneRecord.corrected (r : ZoneRecord) : ZoneRecord :=
  { r with
    tstart := clampInt (-240) 600 r.tstart
    hyst := clampNat 0 255 r.hyst
    soakTarget := clampNat 0 65535 r.soakTarget
    thold := clampInt (-240) 600 r.thold
    band := clampNat 1 255 r.band
    tcut := clampInt (-240) 600 r.tcut
    tminAbs := clampInt (-240) 600 r.tminAbs
    watts := clampNat 1 255 r.watts
    priority := clampNat 0 2 r.priority }

/-- A calibration at the nearest limits (R1). -/
def Calibration.corrected (c : Calibration) : Calibration :=
  { slope := clampInt (-8192) 8191 c.slope, offset := clampInt (-2048) 2047 c.offset }

/-- A number taken as an injection's class: at the nearest limit of 8 to 63 (R166). -/
def classAtLimit (n : Nat) : Fin 64 := Fin.ofNat 64 (clampNat 8 63 n)

/-- An image's injection with its class at the nearest limit (R166, R177). -/
def ImageInject.corrected (e : ImageInject) : InjectEntry :=
  { enable := e.enable, cls := classAtLimit e.cls, payload := e.payload }

/-! ## Writes of an entry -/

/-- A class entry stored; classes 0 to 7 have none (R142). -/
def Tables.setClass (c : Nat) (e : ClassEntry) (t : Tables) : Tables :=
  if h : 8 ≤ c ∧ c < 64 then { t with classes := t.classes.set (c - 8) e } else t

/-- A zone record stored (R18): the zone that held the written priority takes the record's former one. -/
def swapPriorities (z : ZoneId) (r : ZoneRecord) (t : PerZone ZoneRecord) : PerZone ZoneRecord :=
  let old := (t.get z).priority
  (t.map (fun q => if q.priority = r.priority then { q with priority := old } else q)).set z r

/-! ## The image that a commit writes (R178) -/

/-- The parameters as an image holds them. -/
def Params.values (p : Params) : Vector Int 53 := Vector.ofFn (fun n : Fin 53 => p.get (n.val + 1))

/-- An injection as an image holds it. -/
def InjectEntry.image (e : InjectEntry) : ImageInject :=
  { enable := e.enable, cls := e.cls.val, payload := e.payload }

/-- The working tables as an image holds them (R178). -/
def Tables.image (t : Tables) : ImageTables :=
  { classes := t.classes, keymap := t.keymap, sequences := t.sequences, zones := t.zones, channels := t.channels
    dim := t.dim.image, wake := t.wake.image, params := t.params.values }

/-! ## Loading (R177) -/

/-- An image's parameters taken as writes would store them, in the order of the list (R177; log 5). -/
def loadParams (v : Vector Int 53) : Params :=
  (List.finRange 53).foldl (fun q n => (q.write (n.val + 1) v[n]).1) Params.default

/-- Every parameter of an image that accepts only listed values or codes holds one of them (R177, section 12.6). -/
def paramsKnown (v : Vector Int 53) : Bool :=
  (List.finRange 53).all (fun n => decide ((Params.default.write (n.val + 1) v[n]).2 ≠ .badValue))

/-- An image's zone records taken as writes would store them (R177): corrected, the priorities swapped into a
permutation from the built-in ones (log 5). -/
def normaliseZones (z : PerZone ZoneRecord) : PerZone ZoneRecord :=
  let w (i : ZoneId) (t : PerZone ZoneRecord) : PerZone ZoneRecord := swapPriorities i (z.get i).corrected t
  w .front (w .display (w .board defaultZones))

/-- An image's tables taken as writes would store them (R177). -/
def ImageTables.load (t : ImageTables) : Tables :=
  { classes := t.classes.map ClassEntry.corrected
    keymap := t.keymap
    sequences := t.sequences.map SeqSlot.corrected
    zones := normaliseZones t.zones
    channels := t.channels.map Calibration.corrected
    dim := t.dim.corrected
    wake := t.wake.corrected
    params := loadParams t.params }

/-- The variable lengths of an image are ones a write could store (log 5). -/
def ImageTables.lengthsKnown (t : ImageTables) : Bool :=
  t.sequences.all (fun e => decide (e.steps.length ≤ 10)) && decide (t.dim.payload.length ≤ 16)
    && decide (t.wake.payload.length ≤ 16)

/-- The image is accepted (R177). -/
def StoreImage.accepted (i : StoreImage) : Bool :=
  decide (i.version = 1) && i.crcOk && !i.unknownEnum && paramsKnown i.tables.params && i.tables.lengthsKnown

/-- The working tables a load gives (R177). -/
def StoreImage.load (i : StoreImage) : Tables := if i.accepted then i.tables.load else Tables.default

/-- The profile source a load at cold reset gives (R177). -/
def StoreImage.source (i : StoreImage) : ProfileSource := if i.accepted then .store else .defaults

end Sys2Proof.Machine
end

