-- ==== Sys2Proof/Machine/Resets.lean ====
section
/-! DEFINITION. Cold reset (R53, R56 and each chapter's values after reset), soft reset (R179), and the end of a step. -/

namespace Sys2Proof.Machine

/-! ## Cold reset -/

/-- The reset polarity and the power-good polarity in use while a cold reset holds the part (R53, R54). -/
def heldPolarity (c : ColdCause) (inUse atFirst : Polarity) : Polarity :=
  match c with
  | .standbyArrives => atFirst
  | .partResetInput => inUse

/-- The part is held in cold reset (R53): every block at its cold reset values, the tables the built-in ones until the
load (log 4). A commit in progress is stopped and its image fails its CRC (R178). The input levels stay. -/
def State.holdInReset (c : ColdCause) (s : State) : State :=
  { s with
    held := true
    clockMs := 0
    tables := Tables.default
    store := if s.mgmt.commit = .inProgress then { s.store with crcOk := false } else s.store
    meas := Meas.cold
    heat := Heat.cold Tables.default
    thermal := Thermal.cold
    power := PowerSeq.cold (heldPolarity c s.power.resetPolarity .activeLow)
      (heldPolarity c s.power.pgPolarity .activeHigh) s.power.pgLevel
    live := Liveness.cold
    keypad := Keypad.cold
    matcher := Matcher.cold
    beeper := Beeper.cold
    sys := SysPort.cold Tables.default.params.systemRate s.sys.hostReady
    disp := DispPort.cold Tables.default.params.displayRate
    switch := Switch.cold
    path := DisplayPath.cold
    mgmt := Mgmt.cold .defaults }

/-- The load of a cold reset, and every block's values with the tables loaded (R177, and the "at cold reset" rule of
each chapter). -/
def State.loadProfile (s : State) : State :=
  let t := s.store.load
  let s1 : State :=
    { s with
      held := false
      clockMs := 0
      tables := t
      meas := Meas.cold
      heat := Heat.cold t
      thermal := Thermal.cold
      power := PowerSeq.cold t.params.resetPolarity t.params.powerGoodPolarity s.power.pgLevel
      live := Liveness.cold
      keypad := Keypad.cold
      matcher := Matcher.cold
      beeper := Beeper.cold
      sys := SysPort.cold t.params.systemRate s.sys.hostReady
      disp := DispPort.cold t.params.displayRate
      switch := Switch.cold
      path := DisplayPath.cold
      mgmt := Mgmt.cold s.store.source }
  s1.reportIf (!s.store.accepted) .profileDefaulted

/-- The MAINS_RETURN record and the mains-return policy (R56). -/
def State.mainsReturn (s : State) : State :=
  match s.params.mainsPolicy with
  | .start => s.transition (toPreheat s.params) [(.mainsReturn, none)]
  | .stayOff => s.transition toOff [(.mainsReturn, none)]

/-- The part leaves cold reset (R56), with its first cycle start (R2). The first scan, made at the same moment (R94), is
left to the first SCAN command, which brings the reading and has scan time 0: the model's choice (log 20). -/
def State.leaveReset (s : State) : State :=
  (s.loadProfile.mainsReturn).onMeas (Meas.startCycle s.store.load.params 0)

/-! ## Soft reset (R179) -/

/-- Step 1, with the choice of which flags reported at this moment are taken after it (log 11). -/
def State.clearFlags (s : State) : State :=
  if s.mgmt.justReported = 0 then s.onMgmt (fun m => { m with sticky := 0, overrun := 0 })
  else
    { s.onMgmt (fun m =>
        { m with sticky := m.justReported &&& Config.keptAtSoftReset s.choices, overrun := 0 }) with
      choices := s.choices + 1 }

/-- Step 2: the working tables reloaded (R177, R179). -/
def State.reload (s : State) : State :=
  (s.onTables (fun _ => s.store.load)).reportIf (!s.store.accepted) .profileDefaulted

/-- The classes whose reloaded coalesce flag is set and whose flag in use was clear (R153). -/
def newlyCoalescing (old new : Tables) : List (Fin 64) :=
  allKeys.filter (fun c => new.coalesceOf c && !old.coalesceOf c)

/-- The Display Path Controller's soft reset (R167), and the "coalesce set" of reloaded classes (R153). -/
def DisplayPath.softReset (classes : List (Fin 64)) (p : DisplayPath) : DisplayPath :=
  { classes.foldl (fun q c => q.coalesceSet c) p with dqDiscard := 0 }

/-- Step 3: every block's soft reset (R16, R39, R76, R92, R114, R125, R139, R153, R167), given the tables in use
before. -/
def State.blocksSoftReset (old : Tables) (s : State) : State :=
  let s1 := s.onMeas Meas.softReset
  let s2 := s1.onHeat (Heat.softReset old.zones s.tables.zones)
  let s3 := s2.onPower (fun p => { p with restartList := trimList s.params.restartLimit p.restartList })
  let s4 := s3.livenessSoftReset
  let s5 := s4.onKeypad (fun k => { k with lossCount := 0 })
  let s6 := s5.onMatcher Matcher.clearAll
  let s7 := s6.onSys (fun p => { p with errors := PortErrors.zero, fwdDiscard := 0 })
  let s8 := s7.onDisp (fun d => { d with errors := PortErrors.zero })
  let s9 := (s8.applyRate .system s.params.systemRate).applyRate .display s.params.displayRate
  let s10 := s9.onSwitch (fun _ => Switch.cold)
  s10.onPath (DisplayPath.softReset (newlyCoalescing old s.tables))

/-- A soft reset (R179). -/
def State.softReset (s : State) : State := (s.clearFlags.reload).blocksSoftReset s.tables

/-! ## The end of a step (log 8) -/

/-- "Reply ended" taken: a written rate is put into use (R127), and a pending soft reset is performed (R179). -/
def State.replyEndTaken (s : State) : State :=
  if s.mgmt.pendingSoft then (s.applyRateChange.onMgmt (fun m => { m with pendingSoft := false })).softReset
  else s.applyRateChange

/-- The end of a step: a "reply ended" not yet taken is taken, and the model's own marks of the step are cleared. -/
def State.finish (s : State) : State :=
  let s1 := if s.mgmt.replyEnded then s.replyEndTaken else s
  s1.onMgmt (fun m => { m with replyEnded := false, justReported := 0 })

/-- A command outside cold reset: its work, then the end of the step. A part held in cold reset does nothing
(R2, R53, R94, R139; log 4). -/
def State.perform (work : State → State) (s : State) : State := if s.held then s else (work s).finish

end Sys2Proof.Machine
end

