-- ==== Sys2Proof/Machine/Requests.lean ====
section
/-! DEFINITION. The Management Unit's requests (chapter 11, sections 11.1 to 11.3): overruns, the order of judgement,
and each command's own rule. A request takes the argument bytes and gives the state after, the status and the data. -/

namespace Sys2Proof.Machine

/-- What a request gives. -/
structure Answer where
  state : State
  status : Status
  data : List Byte
  deriving DecidableEq, Repr

/-- A status with no data and no change (R169). -/
def State.turnDown (s : State) (st : Status) : Answer := { state := s, status := st, data := [] }

/-- OK with no data. -/
def State.done (s : State) : Answer := { state := s, status := .ok, data := [] }

/-! ## GET_STATUS (R170, R173) -/

/-- The status record (section 12.4). -/
def State.statusBytes (s : State) : List Byte :=
  let z := s.zoneReports
  [byte s.power.state.code, byte (phaseCode s.power.phase), byte (destCode s.power.dest), byte s.path.state.code,
    byte s.live.stage.code,
    flagByte [z.board.warm, z.display.warm, z.front.warm, z.board.blind, z.display.blind, z.front.blind],
    flagByte [s.heat.brownout, s.thermal.warn, s.thermal.heatDim, s.thermal.filterService, s.meas.adcFault,
      decide (s.mgmt.source = .defaults)],
    byte s.mgmt.commit.code] ++ bytes16 s.mgmt.sticky

/-- GET_STATUS (R170): every flag the reply reports as set is cleared if the clear flag is given. -/
def State.getStatus (args : List Byte) (s : State) : Answer :=
  match args with
  | [c] =>
    { state := if c.getLsbD 0 then s.onMgmt (fun m => { m with sticky := 0 }) else s
      status := .ok
      data := s.statusBytes }
  | _ => s.turnDown .badLength

/-! ## GET_ZONES (R37) and GET_SAMPLES (R13) -/

/-- One zone of the zone report (section 12.4). -/
def zoneReportBytes (target : Nat) (z : ZoneState) : List Byte :=
  s16opt z.cold ++ s16opt z.hot ++ u16 z.soak ++ [flagByte [z.warm target, z.blind], byte z.request, byte z.grant]

/-- The zone report (R37, section 12.4). -/
def State.zonesBytes (s : State) : List Byte :=
  (PerZone.zip (fun r z => zoneReportBytes r.soakTarget z) s.tables.zones s.heat.zones).toList.flatten
    ++ u16 s.heat.budget ++ u16 s.heat.reserve ++ u16 s.heat.a8 ++ [flagByte [s.heat.supplyCut]]

/-- A request that takes no arguments. -/
def State.noArgs (args : List Byte) (s : State) (a : Answer) : Answer :=
  match args with
  | [] => a
  | _ => s.turnDown .badLength

/-- GET_ZONES (R37). -/
def State.getZones (args : List Byte) (s : State) : Answer :=
  s.noArgs args { state := s, status := .ok, data := s.zonesBytes }

/-- The eight sample records (R13). -/
def State.samplesBytes (s : State) : List Byte :=
  (s.meas.samples.mapFinIdx (fun i r _ => sampleBytes i r)).toList.flatten

/-- GET_SAMPLES (R13). -/
def State.getSamples (args : List Byte) (s : State) : Answer :=
  s.noArgs args { state := s, status := .ok, data := s.samplesBytes }

/-! ## GET_ENTRY (R172) -/

/-- The entry of a table by its code (section 12.3) at an index: none if the index is outside the table. -/
def State.readEntry (s : State) (table index : Nat) : Option (List Byte) :=
  match table with
  | 0 =>
    if h : index < 64 then
      some ((match s.tables.classEntry ⟨index, h⟩ with
        | some e => classBytes e
        | none => [byte 255, byte 0, byte 0, byte 0, byte 0])
        ++ u16 s.switch.passed[index] ++ u16 s.switch.dropped[index])
    else none
  | 1 => s.tables.keymap[index]?.map keyBytes
  | 2 => s.tables.sequences[index]?.map slotBytes
  | 3 => s.tables.zones.toList[index]?.map zoneBytes
  | 4 => if index < 8 then some (calibrationBytes (s.tables.calibration index)) else none
  | 5 => if parameterListed index then some (paramBytes (s.params.get index)) else none
  | 6 => [s.tables.dim, s.tables.wake][index]?.map injectBytes
  | _ => none

/-- A table byte names one of the seven tables (R169, section 12.3). -/
def tableKnown (t : Byte) : Bool := decide (t.toNat ≤ 6)

/-- GET_ENTRY (R172): an unknown table before a wrong size (R169). -/
def State.getEntry (args : List Byte) (s : State) : Answer :=
  match args with
  | [] => s.turnDown .badLength
  | t :: rest =>
    if !tableKnown t then s.turnDown .badTable
    else
      match rest with
      | [i] =>
        match s.readEntry t.toNat i.toNat with
        | some d => { state := s, status := .ok, data := d }
        | none => s.turnDown .badIndex
      | _ => s.turnDown .badLength

/-! ## SET_ENTRY (R172) -/

/-- SET_ENTRY, table CLASS (R142, R143). -/
def State.setClass (args : List Byte) (s : State) : Answer :=
  match args with
  | [i, d, a, f, mn, mx] =>
    if h : i.toNat < 64 then
      match s.tables.classEntry ⟨i.toNat, h⟩ with
      | none => s.turnDown .refused
      | some old =>
        match Direction.ofCode d.toNat, ClassAction.ofCode a.toNat with
        | some dir, some act =>
          let e : ClassEntry :=
            { direction := dir, action := act, heartbeat := f.getLsbD 0, activity := f.getLsbD 1
              coalesce := f.getLsbD 2, wake := f.getLsbD 3, minLength := mn.toNat, maxLength := mx.toNat }
          let s1 := s.onTables (Tables.setClass i.toNat e.corrected)
          { state :=
              if e.coalesce && !old.coalesce then s1.onPath (DisplayPath.coalesceSet ⟨i.toNat, h⟩) else s1
            status := if e.corrected = e then .ok else .clamped
            data := classBytes e.corrected }
        | _, _ => s.turnDown .badValue
    else s.turnDown .badIndex
  | _ => s.turnDown .badLength

/-- SET_ENTRY, table KEYMAP (R101). -/
def State.setKeymap (args : List Byte) (s : State) : Answer :=
  match args with
  | [i, c, k, f] =>
    if h : i.toNat < 64 then
      match KeyKind.ofCode k.toNat with
      | none => s.turnDown .badValue
      | some kind =>
        let e : KeyEntry := { code := c, kind := kind, repeats := f.getLsbD 0, click := f.getLsbD 1 }
        { state := s.onTables (fun t => { t with keymap := t.keymap.set i.toNat e })
          status := .ok
          data := keyBytes e }
    else s.turnDown .badIndex
  | _ => s.turnDown .badLength

/-- A step byte: a key number below 64 (R115). -/
def stepKey (b : Byte) : Option (Fin 64) := if h : b.toNat < 64 then some ⟨b.toNat, h⟩ else none

/-- SET_ENTRY, table SEQUENCE (R115, R182). -/
def State.setSequence (args : List Byte) (s : State) : Answer :=
  match args with
  | i :: a :: m0 :: m1 :: h :: n :: steps =>
    if steps.length ≠ n.toNat ∨ 10 < n.toNat then s.turnDown .badLength
    else if hi : i.toNat < 4 then
      match SlotAction.ofCode a.toNat, steps.mapM stepKey with
      | some act, some keys =>
        let e : SeqSlot :=
          { action := act, mask := BitVec.ofNat 9 (readU16 m0 m1), hold := h.toNat, steps := keys }
        { state := (s.onTables (fun t => { t with sequences := t.sequences.set i.toNat e.corrected })).onMatcher
            (Matcher.slotWritten ⟨i.toNat, hi⟩)
          status := if e.corrected = e then .ok else .clamped
          data := slotBytes e.corrected }
      | _, _ => s.turnDown .badValue
    else s.turnDown .badIndex
  | _ => s.turnDown .badLength

/-- A zone's index (R17). -/
def ZoneId.ofIndex : Nat → Option ZoneId
  | 0 => some .board
  | 1 => some .display
  | 2 => some .front
  | _ => none

/-- A first channel byte (R18). -/
def firstChannel (b : Byte) : Option (Fin 6) := if h : b.toNat < 6 then some ⟨b.toNat, h⟩ else none

/-- A second channel byte: 255 is NONE (R18, section 12.5). -/
def secondChannel (b : Byte) : Option (Option (Fin 6)) :=
  if b.toNat = 255 then some none else (firstChannel b).map some

/-- A zone record stored, its soak accumulator cleared if its channels changed (R18). -/
def State.storeZone (z : ZoneId) (r : ZoneRecord) (s : State) : State :=
  (s.onTables (fun t => { t with zones := swapPriorities z r t.zones })).onHeat
    (fun h => { h with zones := h.zones.set z ((h.zones.get z).onRecord (s.tables.zones.get z) r) })

/-- SET_ENTRY, table ZONE (R18). -/
def State.setZone (args : List Byte) (s : State) : Answer :=
  match args with
  | [i, c1, c2, g, ts0, ts1, hy, st0, st1, th0, th1, bd, tc0, tc1, tm0, tm1, w, pr] =>
    match ZoneId.ofIndex i.toNat with
    | none => s.turnDown .badIndex
    | some z =>
      match firstChannel c1, secondChannel c2 with
      | some first, some second =>
        let r : ZoneRecord :=
          { first := first, second := second, boardGate := g.getLsbD 0, displayGate := g.getLsbD 1
            tstart := readS16 ts0 ts1, hyst := hy.toNat, soakTarget := readU16 st0 st1, thold := readS16 th0 th1
            band := bd.toNat, tcut := readS16 tc0 tc1, tminAbs := readS16 tm0 tm1, watts := w.toNat
            priority := pr.toNat }
        { state := s.storeZone z r.corrected
          status := if r.corrected = r then .ok else .clamped
          data := zoneBytes r.corrected }
      | _, _ => s.turnDown .badValue
  | _ => s.turnDown .badLength

/-- SET_ENTRY, table CHANNEL (R1). -/
def State.setChannel (args : List Byte) (s : State) : Answer :=
  match args with
  | [i, s0, s1, o0, o1] =>
    if h : i.toNat < 7 then
      let c : Calibration := { slope := readS16 s0 s1, offset := readS16 o0 o1 }
      { state := s.onTables (fun t => { t with channels := t.channels.set i.toNat c.corrected })
        status := if c.corrected = c then .ok else .clamped
        data := calibrationBytes c.corrected }
    else if i.toNat = 7 then s.turnDown .refused
    else s.turnDown .badIndex
  | _ => s.turnDown .badLength

/-- What else a stored parameter changes at once: a lowered restart limit trims the list (R66), and a port rate waits
for the end of its reply (R127). -/
def State.parameterStored (n : Nat) (s : State) : State :=
  match n with
  | 30 => s.onPower (fun p => { p with restartList := trimList s.params.restartLimit p.restartList })
  | 44 => s.onSys (fun p => { p with rateChange := some (.system, s.params.systemRate) })
  | 45 => s.onSys (fun p => { p with rateChange := some (.display, s.params.displayRate) })
  | _ => s

/-- SET_ENTRY, table PARAMETER (R172). -/
def State.setParameter (args : List Byte) (s : State) : Answer :=
  match args with
  | [i, v0, v1, v2, v3] =>
    if parameterListed i.toNat then
      let w := s.params.write i.toNat (readS32 v0 v1 v2 v3)
      match w.2 with
      | .badValue => s.turnDown .badValue
      | st =>
        { state := (s.onTables (fun t => { t with params := w.1 })).parameterStored i.toNat
          status := st
          data := paramBytes (w.1.get i.toNat) }
    else s.turnDown .badIndex
  | _ => s.turnDown .badLength

/-- A class byte of an injection at the nearest limit of 8 to 63 (R166). -/
def injectClass (c : Byte) : Fin 64 := classAtLimit c.toNat

/-- SET_ENTRY, table INJECT (R166, R182). -/
def State.setInject (args : List Byte) (s : State) : Answer :=
  match args with
  | i :: f :: c :: n :: payload =>
    if payload.length ≠ n.toNat ∨ 16 < n.toNat then s.turnDown .badLength
    else
      let e : InjectEntry := { enable := f.getLsbD 0, cls := injectClass c, payload := payload }
      let st : Status := if (injectClass c).val = c.toNat then .ok else .clamped
      match i.toNat with
      | 0 => { state := s.onTables (fun t => { t with dim := e }), status := st, data := injectBytes e }
      | 1 => { state := s.onTables (fun t => { t with wake := e }), status := st, data := injectBytes e }
      | _ => s.turnDown .badIndex
  | _ => s.turnDown .badLength

/-! ## Counters (R171) -/

/-- The passed and dropped counters of up to 11 classes from a first one (R171). -/
def Switch.groupBytes (w : Switch) (first : Nat) : List Byte :=
  ((List.range 64).drop first |>.take 11).flatMap (fun c => u16 (w.passed[c]?.getD 0) ++ u16 (w.dropped[c]?.getD 0))

/-- The five counters of the QUEUE group (R171, section 12.4). -/
def State.queueCounters (s : State) : List Byte :=
  u16 s.path.dqDiscard ++ u16 s.sys.fwdDiscard ++ u16 s.keypad.lossCount ++ u16 s.mgmt.overrun ++ u16 s.live.early

/-- GET_COUNTERS (R171, R182). -/
def State.getCounters (args : List Byte) (s : State) : Answer :=
  match args with
  | [g, first] =>
    match g.toNat with
    | 0 =>
      if first.toNat < 64 then
        { state := s, status := .ok, data := first :: s.switch.groupBytes first.toNat }
      else s.turnDown .badIndex
    | 1 => { state := s, status := .ok, data := errorBytes s.sys.errors ++ errorBytes s.disp.errors }
    | 2 => { state := s, status := .ok, data := s.queueCounters }
    | _ => s.turnDown .badValue
  | _ => s.turnDown .badLength

/-- Every counter that GET_COUNTERS can return set to 0 (R171). -/
def State.zeroCounters (s : State) : State :=
  ((((((s.onSwitch (fun _ => Switch.cold)).onSys
    (fun p => { p with errors := PortErrors.zero, fwdDiscard := 0 })).onDisp
    (fun d => { d with errors := PortErrors.zero })).onPath (fun p => { p with dqDiscard := 0 })).onKeypad
    (fun k => { k with lossCount := 0 })).onMgmt (fun m => { m with overrun := 0 })).onLive
    (fun l => { l with early := 0 })

/-- CLEAR_COUNTERS (R171). -/
def State.clearCounters (args : List Byte) (s : State) : Answer := s.noArgs args s.zeroCounters.done

/-! ## The log, power, display and overrides -/

/-- GET_LOG (R74). -/
def State.getLog (args : List Byte) (s : State) : Answer :=
  match args with
  | [i] =>
    match s.power.log[i.toNat]? with
    | some r => { state := s, status := .ok, data := logBytes r }
    | none => s.turnDown .badIndex
  | _ => s.turnDown .badLength

/-- An answer of another block, OK or REFUSED (R69, R165). -/
def passedOn (r : State × Status) : Answer := { state := r.1, status := r.2, data := [] }

/-- REQUEST_POWER OFF (R69). -/
def State.powerOff (args : List Byte) (s : State) : Answer := s.noArgs args (passedOn s.requestOff)

/-- REQUEST_POWER RESTART (R69). -/
def State.powerRestart (args : List Byte) (s : State) : Answer := s.noArgs args (passedOn s.requestPowerRestart)

/-- REQUEST_POWER CYCLE (R69). -/
def State.powerCycle (args : List Byte) (s : State) : Answer := s.noArgs args (passedOn s.requestCycle)

/-- REQUEST_DISPLAY DIM (R165). -/
def State.displayDim (args : List Byte) (s : State) : Answer := s.noArgs args (passedOn s.requestDim)

/-- REQUEST_DISPLAY WAKE (R165). -/
def State.displayWake (args : List Byte) (s : State) : Answer := s.noArgs args (passedOn s.requestWake)

/-- REQUEST_DISPLAY RESTART (R165). -/
def State.displayRestart (args : List Byte) (s : State) : Answer := s.noArgs args (passedOn s.requestRestart)

/-- FORCE_SAMPLE SET (R12). -/
def State.forceSet (ch : Byte) (args : List Byte) (s : State) : Answer :=
  match args with
  | [v0, v1] =>
    if h : ch.toNat < 7 then
      let v := readS16 v0 v1
      let w := clampInt (valueRange ch.toNat).1 (valueRange ch.toNat).2 v
      { state := s.onMeas (Meas.setChange ⟨ch.toNat, h⟩ (.set w)), status := statusOf v w, data := [] }
    else s.turnDown .badIndex
  | _ => s.turnDown .badLength

/-- FORCE_SAMPLE RELEASE (R12): the value's bytes are there and ignored (section 12.3). -/
def State.forceRelease (ch : Byte) (args : List Byte) (s : State) : Answer :=
  match args with
  | [_, _] =>
    if h : ch.toNat < 7 then (s.onMeas (Meas.setChange ⟨ch.toNat, h⟩ .release)).done else s.turnDown .badIndex
  | _ => s.turnDown .badLength

/-- FORCE_SAMPLE with an unknown operation: the channel is judged first (R12, R181; log 12). -/
def State.forceUnknown (ch : Byte) (args : List Byte) (s : State) : Answer :=
  match args with
  | [_, _] => if ch.toNat < 7 then s.turnDown .badValue else s.turnDown .badIndex
  | _ => s.turnDown .badLength

/-! ## The profile (R178, R179) -/

/-- COMMIT_PROFILE (R178): the working tables as they stand are being written; until the read-back the image's CRC
fails. -/
def State.beginCommit (s : State) : State :=
  (s.onStore (fun _ => { version := 1, crcOk := false, unknownEnum := false, tables := s.tables.image })).onMgmt
    (fun m => { m with commit := .inProgress })

/-- COMMIT_PROFILE. -/
def State.commitProfile (args : List Byte) (s : State) : Answer := s.noArgs args s.beginCommit.done

/-- RESET_SUPERVISOR (R179). -/
def State.resetSupervisor (args : List Byte) (s : State) : Answer :=
  s.noArgs args (s.onMgmt (fun m => { m with pendingSoft := true })).done

/-- A commit ends (R178). -/
def State.endCommit (ok : Bool) (s : State) : State :=
  if s.mgmt.commit = .inProgress then
    if ok then (s.onStore (fun i => { i with crcOk := true })).onMgmt (fun m => { m with commit := .done })
    else (s.onMgmt (fun m => { m with commit := .failed })).report .commitFailed
  else s

/-! ## The order of judgement (R168, R169) -/

/-- A request answered BUSY while a commit is in progress (R169, R178). -/
def State.unlessCommitting (request : State → Answer) (s : State) : Answer :=
  if s.mgmt.commit = .inProgress then s.turnDown .busy else request s

/-- A request dropped as an overrun (R168). -/
def State.overrun (s : State) : State := (s.onMgmt (fun m => { m with overrun := bump m.overrun })).report .mgmtOverrun

/-- A request taken by the Management Unit (R168): dropped if the reply slot is full, otherwise executed and its reply
placed. -/
def State.serve (command tag : Byte) (request : State → Answer) (s : State) : State :=
  if s.sys.slot.full then s.overrun
  else
    let a := request s
    a.state.placeReply { command := command, tag := tag, status := a.status, data := a.data }

/-- A SET_ENTRY of a table that its first argument names, or BAD_TABLE (R169, section 12.3). -/
def State.setEntry (args : List Byte) (s : State) : Answer :=
  match args with
  | [] => s.turnDown .badLength
  | t :: rest =>
    match t.toNat with
    | 0 => s.setClass rest
    | 1 => s.setKeymap rest
    | 2 => s.setSequence rest
    | 3 => s.setZone rest
    | 4 => s.setChannel rest
    | 5 => s.setParameter rest
    | 6 => s.setInject rest
    | _ => s.turnDown .badTable

/-- REQUEST_POWER by its choice (R69, R182). -/
def State.requestPower (args : List Byte) (s : State) : Answer :=
  match args with
  | [] => s.turnDown .badLength
  | c :: rest =>
    match c.toNat with
    | 0 => s.powerOff rest
    | 1 => s.powerRestart rest
    | 2 => s.powerCycle rest
    | _ => s.noArgs rest (s.turnDown .badValue)

/-- REQUEST_DISPLAY by its choice (R165, R182). -/
def State.requestDisplay (args : List Byte) (s : State) : Answer :=
  match args with
  | [] => s.turnDown .badLength
  | c :: rest =>
    match c.toNat with
    | 0 => s.displayDim rest
    | 1 => s.displayWake rest
    | 2 => s.displayRestart rest
    | _ => s.noArgs rest (s.turnDown .badValue)

/-- FORCE_SAMPLE by its operation (R12, R182). -/
def State.forceSample (args : List Byte) (s : State) : Answer :=
  match args with
  | ch :: op :: rest =>
    match op.toNat with
    | 0 => s.forceSet ch rest
    | 1 => s.forceRelease ch rest
    | _ => s.forceUnknown ch rest
  | _ => s.turnDown .badLength

/-- A command by its code with its arguments, in the order of R169 (section 12.3). -/
def State.command (code : Nat) (args : List Byte) (s : State) : Answer :=
  match code with
  | 1 => s.getStatus args
  | 2 => s.getZones args
  | 3 => s.getSamples args
  | 4 => s.getEntry args
  | 5 => s.unlessCommitting (State.setEntry args)
  | 6 => s.getCounters args
  | 7 => s.clearCounters args
  | 8 => s.getLog args
  | 9 => s.requestPower args
  | 10 => s.requestDisplay args
  | 11 => s.forceSample args
  | 12 => s.unlessCommitting (State.commitProfile args)
  | 13 => s.unlessCommitting (State.resetSupervisor args)
  | _ => s.turnDown .badCommand

/-- The payload of a management request (R168, R169): a payload of 0 or 1 character is answered BAD_LENGTH with the
characters that arrived. -/
def State.manage (payload : List Byte) (s : State) : State :=
  match payload with
  | [] => s.serve 0 0 (fun s => s.turnDown .badLength)
  | [c] => s.serve c 0 (fun s => s.turnDown .badLength)
  | c :: tag :: args => s.serve c tag (State.command c.toNat args)

end Sys2Proof.Machine
end

