-- ==== Sys2Proof/Machine/FrameSwitch.lean ====
section
/-! DEFINITION. The Frame Switch (chapter 9) and the receivers' work on a character (R129). -/

namespace Sys2Proof.Machine

/-! ## Frames from the main board (R140, R144, R145) -/

/-- A frame counted as passed (R150). -/
def State.passed (c : Fin 64) (s : State) : State := s.onSwitch (Switch.pass c)

/-- A frame dropped and counted as dropped (R150). -/
def State.dropped (c : Fin 64) (s : State) : State := s.onSwitch (Switch.drop c)

/-- A reserved class from the system port (R140). -/
def State.reservedFromBoard (f : Frame) (s : State) : State :=
  match f.cls.val with
  | 0 => (s.passed f.cls).manage f.payload
  | 4 => (s.passed f.cls).heartbeat
  | _ => s.dropped f.cls

/-- A frame from the system port passes its entry's checks (R144). -/
def ClassEntry.passesFromBoard (e : ClassEntry) (n : Nat) : Bool :=
  (decide (e.direction = .toDisplay) || decide (e.direction = .both)) && decide (e.minLength ≤ n ∧ n ≤ e.maxLength)

/-- The action of a frame that passed its checks (R145). -/
def State.boardAction (e : ClassEntry) (f : Frame) (s : State) : State :=
  if s.path.state.takes e.action then
    (s.takeFrame { cls := f.cls, payload := f.payload, coalesce := e.coalesce }).passed f.cls
  else s.dropped f.cls

/-- The side events of a frame that passed its checks (R144): the heartbeat, then the activity. -/
def State.boardSideEvents (e : ClassEntry) (s : State) : State :=
  let s1 := if e.heartbeat then s.heartbeat else s
  if e.activity then s1.activity else s1

/-- A loadable class from the system port (R144, R145). -/
def State.loadableFromBoard (f : Frame) (s : State) : State :=
  match s.tables.classEntry f.cls with
  | none => s.dropped f.cls
  | some e =>
    if e.passesFromBoard f.payload.length then (s.boardSideEvents e).boardAction e f else s.dropped f.cls

/-- A good frame from the system port (R140, R144). -/
def State.frameFromBoard (f : Frame) (s : State) : State :=
  if f.cls.val < 8 then s.reservedFromBoard f else s.loadableFromBoard f

/-! ## Frames from the display (R140, R146 to R148) -/

/-- A reserved class from the display port, after "display frame heard" (R140). -/
def State.reservedFromDisplay (f : Frame) (s : State) : State :=
  match f.cls.val with
  | 5 => (s.passed f.cls).displayReady
  | _ => s.dropped f.cls

/-- A frame from the display port passes its entry's checks (R147). -/
def ClassEntry.passesFromDisplay (e : ClassEntry) (n : Nat) : Bool :=
  (decide (e.direction = .toSystem) || decide (e.direction = .both)) && decide (e.minLength ≤ n ∧ n ≤ e.maxLength)

/-- Activity and forwarding (R148). -/
def State.displayForward (e : ClassEntry) (f : Frame) (s : State) : State :=
  let s1 := if e.activity then s.activity else s
  if s1.sys.isLive then (s1.forward f).passed f.cls else s1.dropped f.cls

/-- A loadable class from the display port, after "display frame heard" (R147, R148). -/
def State.loadableFromDisplay (f : Frame) (s : State) : State :=
  match s.tables.classEntry f.cls with
  | none => s.dropped f.cls
  | some e =>
    if e.passesFromDisplay f.payload.length then
      if e.wake then
        if s.wakeOffer.2 then s.wakeOffer.1.dropped f.cls else s.wakeOffer.1.displayForward e f
      else s.displayForward e f
    else s.dropped f.cls

/-- A good frame from the display port: "display frame heard" first (R146). -/
def State.frameFromDisplay (f : Frame) (s : State) : State :=
  if f.cls.val < 8 then s.displayHeard.reservedFromDisplay f else s.displayHeard.loadableFromDisplay f

/-! ## Whole frames arriving (log 2) -/

/-- A good frame arrives on the system port whole: the receiver is left in IDLE (R129). While the port is not live, or
a break holds its line, no frame is received (R130, R133). A line that was watched has returned to 1 (R130). -/
def State.boardFrame (route : State → State) (s : State) : State :=
  if s.sys.receives then route ((s.judgeLow .system).onSys (fun p => { p with rx := .idle })) else s

/-- A good frame arrives on the display port whole: the receiver is left in IDLE (R129) and the consecutive-bad-frame
count is 0 (R132). "Display frame heard" is sent first (R146). A line that was at 0 has returned to 1 (R130). -/
def State.displayFrame (route : State → State) (s : State) : State :=
  route ((s.lineHigh .display).onDisp (fun d => { d with rx := .idle, badRun := 0 })).displayHeard

/-! ## Characters (R129) -/

/-- A character judged on the system port (R129). -/
def State.boardJudgement (j : Judgement) (s : State) : State :=
  let s1 := j.outcomes.foldl State.systemOutcome (s.onSys (fun p => { p with rx := j.rx }))
  match j.good with
  | some f => s1.frameFromBoard f
  | none => s1

/-- A character on the system port, at its stop bit: one whose bits are all 0 leaves the line watched (R129, R130). -/
def State.boardCharacter (data : Byte) (mark stop : Bool) (s : State) : State :=
  if s.sys.receives then
    let s1 := s.judgeLow .system
    if bitsAllZero data mark stop then s1.onSys (fun p => { p with lineLow := true })
    else s1.boardJudgement (s1.sys.rx.judge data mark stop)
  else s

/-- A character judged on the display port (R129, R132). -/
def State.displayJudgement (j : Judgement) (s : State) : State :=
  let s1 := j.outcomes.foldl State.displayOutcome (s.onDisp (fun d => { d with rx := j.rx }))
  match j.good with
  | some f => (s1.onDisp (fun d => { d with badRun := 0 })).frameFromDisplay f
  | none => s1

/-- A character on the display port, at its stop bit: one whose bits are all 0 leaves the line watched (R129, R130). It
begins with a fall of the line, which had therefore returned to 1 (R130). -/
def State.displayCharacter (data : Byte) (mark stop : Bool) (s : State) : State :=
  let s1 := s.lineHigh .display
  if bitsAllZero data mark stop then s1.onDisp (fun d => { d with lineLow := true })
  else s1.displayJudgement (s1.disp.rx.judge data mark stop)

end Sys2Proof.Machine
end

