-- ==== Sys2Proof/Machine/EventCommands.lean ====
section
/-! DEFINITION. The meanings of the resets and of the measurement, heating, power and liveness events. A command whose
event cannot come in the state has no effect (log 2). -/

namespace Sys2Proof.Machine

/-- What a command answers. -/
abbrev Answered := Host.Outcome State Fault Refusal

/-- A timer's expiry: its moment is reached and the work done; a timer that does not run does not expire (R55, R77). -/
def State.onExpiry (t : Option Timer) (work : Timer → State → State) (s : State) : State :=
  match t with
  | none => s
  | some t => work t (s.reach t.due)

/-- A timer's expiry in the state it belongs to. -/
def State.onExpiryIn (here : Bool) (t : Option Timer) (work : State → State) (s : State) : State :=
  if here then s.onExpiry t (fun _ => work) else s

/-! ## Resets -/

/-- COLD_RESET (R53). -/
def execColdReset (cause : ColdCause) (s : State) : Answered := .next (s.holdInReset cause)

/-- COLD_RESET_RELEASE (R56): nothing to leave if the part is not held. -/
def execColdResetRelease (s : State) : Answered := .next (if s.held then s.leaveReset.finish else s)

/-! ## Measurement -/

/-- A cycle start, one period after the previous one; a cycle in progress has not ended (R2). -/
def State.cycleStart (s : State) : State :=
  match s.meas.next with
  | some _ => s
  | none =>
    (s.reach (s.meas.cycleStart + s.meas.period)).onMeas
      (Meas.startCycle s.params (s.meas.cycleStart + s.meas.period))

/-- CYCLE_START (R2, R4, R12). -/
def execCycleStart (s : State) : Answered := .next (s.perform State.cycleStart)

/-- The conversion in progress completes, and the cycle goes on or is complete (R5, R10, R14). -/
def State.conversionDone (code : BitVec 12) (s : State) : State :=
  match s.meas.next with
  | none => s
  | some ch =>
    let s1 := (s.convert ch code).onMeas (Meas.advance ch)
    if s1.meas.next.isNone then s1.cycleComplete else s1

/-- CONVERSION_COMPLETE (R5). -/
def execConversionComplete (code : BitVec 12) (s : State) : Answered := .next (s.perform (State.conversionDone code))

/-! ## Heating -/

/-- A heater slot begins, 250 ms after the previous one (R31). -/
def State.heaterSlot (s : State) : State :=
  (s.reach (s.heat.slotStart + 250)).onHeat (Heat.nextSlot (s.heat.slotStart + 250))

/-- HEATER_SLOT_START (R31). -/
def execHeaterSlotStart (s : State) : Answered := .next (s.perform State.heaterSlot)

/-- RESERVE_GRANTED (R59). -/
def execReserveGranted (s : State) : Answered := .next (s.perform State.reserveGranted)

/-! ## Power -/

/-- PREHEAT_LIMIT_EXPIRY (R58). -/
def execPreheatLimitExpiry (s : State) : Answered :=
  .next (s.perform (State.onExpiryIn (decide (s.power.state = .preheat)) s.power.timer State.preheatExpired))

/-- POWER_GOOD_CHANGE (R54): the level is read as it stands, and while the part is held it only changes. -/
def execPowerGoodChange (high : Bool) (s : State) : Answered :=
  .next (if s.held then s.onPower (fun p => { p with pgLevel := high }) else s.perform (State.powerGoodLevel high))

/-- The sequencer is in a state and a phase. -/
def PowerSeq.inPhase (st : PowerState) (ph : Phase) (p : PowerSeq) : Bool :=
  decide (p.state = st) && decide (p.phase = some ph)

/-- POWER_GOOD_TIMEOUT (R60). -/
def execPowerGoodTimeout (s : State) : Answered :=
  .next (s.perform (State.onExpiryIn (s.power.inPhase .starting .powerWait) s.power.timer
    (State.autoRestart .powerGoodTimeout)))

/-- SETTLE_EXPIRY (R61). -/
def execSettleExpiry (s : State) : Answered :=
  .next (s.perform (State.onExpiryIn (s.power.inPhase .starting .settle) s.power.timer State.settled))

/-- RESET_PULSE_EXPIRY (R63). -/
def execResetPulseExpiry (s : State) : Answered :=
  .next (s.perform (State.onExpiryIn (s.power.inPhase .restarting .pulse) s.power.timer
    (State.transition (toBootWait .restarting) [])))

/-- SHUTDOWN_GRACE_EXPIRY (R68). -/
def execShutdownGraceExpiry (s : State) : Answered :=
  .next (s.perform (State.onExpiryIn (decide (s.power.state = .shutdown)) s.power.timer (State.endShutdown [])))

/-- OFF_TIME_EXPIRY (R71): the sequencer enters PREHEAT, and no record is made. -/
def execOffTimeExpiry (s : State) : Answered :=
  .next (s.perform (State.onExpiryIn (decide (s.power.state = .cycling)) s.power.timer
    (fun s => s.transition (toPreheat s.params) [])))

/-! ## Liveness -/

/-- BOOT_TIMEOUT (R81). -/
def execBootTimeout (s : State) : Answered :=
  .next (s.perform (State.onExpiryIn (decide (s.live.stage = .bootWait) && decide (s.live.outcome = .pending))
    s.live.bootTimer State.bootExpired))

/-- HEARTBEAT_TIMER_EXPIRY (R85). -/
def execHeartbeatTimerExpiry (s : State) : Answered :=
  .next (s.perform (fun s =>
    if s.live.stage = .watching then s.onExpiry s.live.hbTimer State.heartbeatExpired else s))

/-- GRACE_TIMER_EXPIRY (R87). -/
def execGraceTimerExpiry (s : State) : Answered :=
  .next (s.perform (State.onExpiryIn (decide (s.live.stage = .warned)) s.live.graceTimer State.graceExpired))

end Sys2Proof.Machine
end

