-- ==== Sys2Proof/Machine/LinkCommands.lean ====
section
/-! DEFINITION. The meanings of the panel link's events and of frames that arrive whole (chapters 8 and 9). -/

namespace Sys2Proof.Machine

/-- A character of a port at its stop bit (R129). -/
def State.characterAt (port : Port) (data : Byte) (mark stop : Bool) (s : State) : State :=
  match port with
  | .system => s.boardCharacter data mark stop
  | .display => s.displayCharacter data mark stop

/-- A character judged on its port (R129), or the return of the port's line, which judges a character whose bits are all
0 and ends a break (R130). -/
def State.character (port : Port) (data : Byte) (mark : Bool) (stop : StopBit) (s : State) : State :=
  match stop with
  | .one => s.characterAt port data mark true
  | .zero => s.characterAt port data mark false
  | .returned => s.lineHigh port

/-- RECEIVE_CHARACTER (R129, R130). -/
def execReceiveCharacter (port : Port) (data : Byte) (mark : Bool) (stop : StopBit) (s : State) : Answered :=
  .next (s.perform (State.character port data mark stop))

/-- A break on a port (R130): on the system port, only while the port is live (R133) and once for each break. -/
def State.breakOn (port : Port) (s : State) : State :=
  match port with
  | .system => if s.sys.receives then s.linkReset else s
  | .display => s.displayBreak

/-- BREAK (R130, R138). -/
def execLineBreak (port : Port) (s : State) : Answered := .next (s.perform (State.breakOn port))

/-- BREAK_END (R130, R138): the system receive line returns to 1. -/
def execBreakEnd (s : State) : Answered := .next (s.perform (State.lineHigh .system))

/-- A reserved class on a port (R140). -/
def State.reservedFrame (port : Port) (f : Frame) (s : State) : State :=
  match port with
  | .system => s.boardFrame (State.reservedFromBoard f)
  | .display => s.displayFrame (State.reservedFromDisplay f)

/-- RESERVED_FRAME (R140). -/
def execReservedFrame (port : Port) (cls : Fin 64) (payload : List Byte) (s : State) : Answered :=
  .next (s.perform (State.reservedFrame port { cls := cls, payload := payload }))

/-- LOADABLE_SYSTEM_FRAME (R144). -/
def execLoadableSystemFrame (cls : Fin 64) (payload : List Byte) (s : State) : Answered :=
  .next (s.perform (State.boardFrame (State.loadableFromBoard { cls := cls, payload := payload })))

/-- LOADABLE_DISPLAY_FRAME (R147). -/
def execLoadableDisplayFrame (cls : Fin 64) (payload : List Byte) (s : State) : Answered :=
  .next (s.perform (State.displayFrame (State.loadableFromDisplay { cls := cls, payload := payload })))

/-- DISPLAY_MANAGEMENT_FRAME (R140, R146): a class-0 frame from the display port is dropped. -/
def execDisplayManagementFrame (payload : List Byte) (s : State) : Answered :=
  .next (s.perform (State.displayFrame (State.reservedFromDisplay { cls := 0, payload := payload })))

/-- HOST_READY_CHANGE (R134): the level of the host-ready input, also while the part is held. -/
def execHostReadyChange (asserted : Bool) (s : State) : Answered :=
  .next (s.onSys (fun p => { p with hostReady := asserted }))

/-- SYSTEM_TX_BEGIN (R134). -/
def execSystemTxBegin (s : State) : Answered := .next (s.perform State.beginSystemFrame)

/-- SYSTEM_FRAME_SENT (R135). -/
def execSystemFrameSent (s : State) : Answered := .next (s.perform State.systemSent)

/-- The frame in transmission on the display port ends, and the next is released (R161). -/
def State.displaySent (s : State) : State :=
  if s.disp.tx.isSome then (s.onDisp (fun d => { d with tx := none })).displayRelease else s

/-- DISPLAY_FRAME_SENT (R161). -/
def execDisplayFrameSent (s : State) : Answered := .next (s.perform State.displaySent)

end Sys2Proof.Machine
end

