-- ==== Sys2Proof/Machine/PanelCommands.lean ====
section
/-! DEFINITION. The meanings of the display path's timers, the keypad scan, the sequence timers, the beeper's events
and the end of a commit. -/

namespace Sys2Proof.Machine

/-! ## The display path (chapter 10) -/

/-- WAIT_LIMIT_EXPIRY (R155). -/
def execWaitLimitExpiry (s : State) : Answered :=
  .next (s.perform (State.onExpiryIn (decide (s.path.state = .waitWarm)) s.path.waitTimer State.waitExpired))

/-- START_TIMER_EXPIRY (R156). -/
def execStartTimerExpiry (s : State) : Answered :=
  .next (s.perform (State.onExpiryIn (decide (s.path.state = .starting)) s.path.startTimer State.enterRecovering))

/-- SILENCE_TIMER_EXPIRY (R157). -/
def execSilenceTimerExpiry (s : State) : Answered :=
  .next (s.perform (State.onExpiryIn s.path.state.flows s.path.silenceTimer State.silenceExpired))

/-- RECOVERY_OFF_TIME_EXPIRY (R158). -/
def execRecoveryOffTimeExpiry (s : State) : Answered :=
  .next (s.perform (State.onExpiryIn (decide (s.path.state = .recovering)) s.path.startTimer State.enterStarting))

/-- IDLE_TIMER_EXPIRY (R162). -/
def execIdleTimerExpiry (s : State) : Answered :=
  .next (s.perform (State.onExpiryIn (decide (s.path.state = .opened)) s.path.idleTimer
    (fun s => s.dim.displayRelease)))

/-! ## The keypad, the sequences and the beeper (chapters 6 and 7) -/

/-- A scan at its moment, 4 ms after the previous one (R94, R96). -/
def State.scan (reading : BitVec 64) (s : State) : State := (s.reach s.keypad.nowMs).scanOnce reading

/-- SCAN (R96). -/
def execScan (reading : BitVec 64) (s : State) : Answered := .next (s.perform (State.scan reading))

/-- STEP_TIMER_EXPIRY (R119). -/
def execStepTimerExpiry (slot : Fin 4) (s : State) : Answered :=
  .next (s.perform (State.onExpiry s.matcher.slots[slot].stepTimer (fun _ => State.onMatcher (Matcher.stepExpired slot))))

/-- HOLD_TIMER_EXPIRY (R118): the slot's timer, and every one due with it. -/
def execHoldTimerExpiry (slot : Fin 4) (s : State) : Answered :=
  .next (s.perform (State.onExpiry s.matcher.slots[slot].holdTimer (fun t => State.holdExpired t.due)))

/-- BEEPER_SEGMENT_END (R121). -/
def execBeeperSegmentEnd (s : State) : Answered := .next (s.perform (State.beeperEvent s.beeper.segmentEnd))

/-- ONE_SHOT_END (R121). -/
def execOneShotEnd (s : State) : Answered := .next (s.perform (State.beeperEvent s.beeper.oneShotEnd))

/-- BACKGROUND_PERIOD_START (R124). -/
def execBackgroundPeriodStart (s : State) : Answered := .next (s.perform (State.beeperEvent s.beeper.periodStart))

/-! ## The profile (R178) -/

/-- COMMIT_END (R178). -/
def execCommitEnd (readBackMatches : Bool) (s : State) : Answered :=
  .next (s.perform (State.endCommit readBackMatches))

end Sys2Proof.Machine
end

