-- ==== Sys2Proof/Machine/RequestCommands.lean ====
section
/-! DEFINITION. The meanings of the management requests: each arrives as a good class-0 frame from the system port,
counted as passed under class 0 (R140, R150) and served by the Management Unit (R168, R169). -/

namespace Sys2Proof.Machine

/-- A request frame: handed to the Management Unit and counted as passed (R140, R168). -/
def State.requestFrame (code : Nat) (tag : Byte) (request : State → Answer) (s : State) : State :=
  s.boardFrame (fun s => (s.passed 0).serve (byte code) tag request)

/-- UNKNOWN_COMMAND (R169): the payload is judged as it stands. -/
def execUnknownCommand (payload : List Byte) (s : State) : Answered :=
  .next (s.perform (State.boardFrame (fun s => (s.passed 0).manage payload)))

/-- GET_STATUS (R170). -/
def execGetStatus (tag : Byte) (args : List Byte) (s : State) : Answered :=
  .next (s.perform (State.requestFrame 1 tag (State.getStatus args)))

/-- GET_ZONES (R37). -/
def execGetZones (tag : Byte) (args : List Byte) (s : State) : Answered :=
  .next (s.perform (State.requestFrame 2 tag (State.getZones args)))

/-- GET_SAMPLES (R13). -/
def execGetSamples (tag : Byte) (args : List Byte) (s : State) : Answered :=
  .next (s.perform (State.requestFrame 3 tag (State.getSamples args)))

/-- GET_ENTRY (R172). -/
def execGetEntry (tag : Byte) (args : List Byte) (s : State) : Answered :=
  .next (s.perform (State.requestFrame 4 tag (State.getEntry args)))

/-- SET_ENTRY, table CLASS (R142). -/
def execSetEntryClass (tag : Byte) (args : List Byte) (s : State) : Answered :=
  .next (s.perform (State.requestFrame 5 tag (State.unlessCommitting (State.setClass args))))

/-- SET_ENTRY, table KEYMAP (R101). -/
def execSetEntryKeymap (tag : Byte) (args : List Byte) (s : State) : Answered :=
  .next (s.perform (State.requestFrame 5 tag (State.unlessCommitting (State.setKeymap args))))

/-- SET_ENTRY, table SEQUENCE (R115). -/
def execSetEntrySequence (tag : Byte) (args : List Byte) (s : State) : Answered :=
  .next (s.perform (State.requestFrame 5 tag (State.unlessCommitting (State.setSequence args))))

/-- SET_ENTRY, table ZONE (R18). -/
def execSetEntryZone (tag : Byte) (args : List Byte) (s : State) : Answered :=
  .next (s.perform (State.requestFrame 5 tag (State.unlessCommitting (State.setZone args))))

/-- SET_ENTRY, table CHANNEL (R1). -/
def execSetEntryChannel (tag : Byte) (args : List Byte) (s : State) : Answered :=
  .next (s.perform (State.requestFrame 5 tag (State.unlessCommitting (State.setChannel args))))

/-- SET_ENTRY, table PARAMETER (R172). -/
def execSetEntryParameter (tag : Byte) (args : List Byte) (s : State) : Answered :=
  .next (s.perform (State.requestFrame 5 tag (State.unlessCommitting (State.setParameter args))))

/-- SET_ENTRY, table INJECT (R166). -/
def execSetEntryInject (tag : Byte) (args : List Byte) (s : State) : Answered :=
  .next (s.perform (State.requestFrame 5 tag (State.unlessCommitting (State.setInject args))))

/-- GET_COUNTERS (R171). -/
def execGetCounters (tag : Byte) (args : List Byte) (s : State) : Answered :=
  .next (s.perform (State.requestFrame 6 tag (State.getCounters args)))

/-- CLEAR_COUNTERS (R171). -/
def execClearCounters (tag : Byte) (args : List Byte) (s : State) : Answered :=
  .next (s.perform (State.requestFrame 7 tag (State.clearCounters args)))

/-- GET_LOG (R74). -/
def execGetLog (tag : Byte) (args : List Byte) (s : State) : Answered :=
  .next (s.perform (State.requestFrame 8 tag (State.getLog args)))

/-- REQUEST_POWER OFF (R69). -/
def execRequestPowerOff (tag : Byte) (args : List Byte) (s : State) : Answered :=
  .next (s.perform (State.requestFrame 9 tag (State.powerOff args)))

/-- REQUEST_POWER RESTART (R69). -/
def execRequestPowerRestart (tag : Byte) (args : List Byte) (s : State) : Answered :=
  .next (s.perform (State.requestFrame 9 tag (State.powerRestart args)))

/-- REQUEST_POWER CYCLE (R69). -/
def execRequestPowerCycle (tag : Byte) (args : List Byte) (s : State) : Answered :=
  .next (s.perform (State.requestFrame 9 tag (State.powerCycle args)))

/-- REQUEST_DISPLAY DIM (R165). -/
def execRequestDisplayDim (tag : Byte) (args : List Byte) (s : State) : Answered :=
  .next (s.perform (State.requestFrame 10 tag (State.displayDim args)))

/-- REQUEST_DISPLAY WAKE (R165). -/
def execRequestDisplayWake (tag : Byte) (args : List Byte) (s : State) : Answered :=
  .next (s.perform (State.requestFrame 10 tag (State.displayWake args)))

/-- REQUEST_DISPLAY RESTART (R165). -/
def execRequestDisplayRestart (tag : Byte) (args : List Byte) (s : State) : Answered :=
  .next (s.perform (State.requestFrame 10 tag (State.displayRestart args)))

/-- FORCE_SAMPLE SET (R12). -/
def execForceSampleSet (tag channel : Byte) (args : List Byte) (s : State) : Answered :=
  .next (s.perform (State.requestFrame 11 tag (State.forceSet channel args)))

/-- FORCE_SAMPLE RELEASE (R12). -/
def execForceSampleRelease (tag channel : Byte) (args : List Byte) (s : State) : Answered :=
  .next (s.perform (State.requestFrame 11 tag (State.forceRelease channel args)))

/-- COMMIT_PROFILE (R178). -/
def execCommitProfile (tag : Byte) (args : List Byte) (s : State) : Answered :=
  .next (s.perform (State.requestFrame 12 tag (State.unlessCommitting (State.commitProfile args))))

/-- RESET_SUPERVISOR (R179). -/
def execResetSupervisor (tag : Byte) (args : List Byte) (s : State) : Answered :=
  .next (s.perform (State.requestFrame 13 tag (State.unlessCommitting (State.resetSupervisor args))))

end Sys2Proof.Machine
end

