-- ==== Sys2Proof/Machine/Dispatch.lean ====
section
/-! DEFINITION. One arm for each command. -/

namespace Sys2Proof.Machine

/-- A command's effect on everything but the queue. -/
def exec (i : Instr) (s : State) : Host.Outcome State Fault Refusal :=
  match i with
  | .coldReset cause => Sys2Proof.Machine.execColdReset cause s
  | .coldResetRelease => Sys2Proof.Machine.execColdResetRelease s
  | .cycleStart => Sys2Proof.Machine.execCycleStart s
  | .conversionComplete code => Sys2Proof.Machine.execConversionComplete code s
  | .reserveGranted => Sys2Proof.Machine.execReserveGranted s
  | .heaterSlotStart => Sys2Proof.Machine.execHeaterSlotStart s
  | .preheatLimitExpiry => Sys2Proof.Machine.execPreheatLimitExpiry s
  | .powerGoodChange high => Sys2Proof.Machine.execPowerGoodChange high s
  | .powerGoodTimeout => Sys2Proof.Machine.execPowerGoodTimeout s
  | .settleExpiry => Sys2Proof.Machine.execSettleExpiry s
  | .resetPulseExpiry => Sys2Proof.Machine.execResetPulseExpiry s
  | .bootTimeout => Sys2Proof.Machine.execBootTimeout s
  | .shutdownGraceExpiry => Sys2Proof.Machine.execShutdownGraceExpiry s
  | .offTimeExpiry => Sys2Proof.Machine.execOffTimeExpiry s
  | .heartbeatTimerExpiry => Sys2Proof.Machine.execHeartbeatTimerExpiry s
  | .graceTimerExpiry => Sys2Proof.Machine.execGraceTimerExpiry s
  | .receiveCharacter port data mark stop => Sys2Proof.Machine.execReceiveCharacter port data mark stop s
  | .lineBreak port => Sys2Proof.Machine.execLineBreak port s
  | .reservedFrame port cls payload => Sys2Proof.Machine.execReservedFrame port cls payload s
  | .loadableSystemFrame cls payload => Sys2Proof.Machine.execLoadableSystemFrame cls payload s
  | .loadableDisplayFrame cls payload => Sys2Proof.Machine.execLoadableDisplayFrame cls payload s
  | .hostReadyChange asserted => Sys2Proof.Machine.execHostReadyChange asserted s
  | .systemTxBegin => Sys2Proof.Machine.execSystemTxBegin s
  | .systemFrameSent => Sys2Proof.Machine.execSystemFrameSent s
  | .displayFrameSent => Sys2Proof.Machine.execDisplayFrameSent s
  | .waitLimitExpiry => Sys2Proof.Machine.execWaitLimitExpiry s
  | .startTimerExpiry => Sys2Proof.Machine.execStartTimerExpiry s
  | .silenceTimerExpiry => Sys2Proof.Machine.execSilenceTimerExpiry s
  | .recoveryOffTimeExpiry => Sys2Proof.Machine.execRecoveryOffTimeExpiry s
  | .idleTimerExpiry => Sys2Proof.Machine.execIdleTimerExpiry s
  | .scan reading => Sys2Proof.Machine.execScan reading s
  | .stepTimerExpiry slot => Sys2Proof.Machine.execStepTimerExpiry slot s
  | .holdTimerExpiry slot => Sys2Proof.Machine.execHoldTimerExpiry slot s
  | .beeperSegmentEnd => Sys2Proof.Machine.execBeeperSegmentEnd s
  | .oneShotEnd => Sys2Proof.Machine.execOneShotEnd s
  | .backgroundPeriodStart => Sys2Proof.Machine.execBackgroundPeriodStart s
  | .commitEnd readBackMatches => Sys2Proof.Machine.execCommitEnd readBackMatches s
  | .unknownCommand payload => Sys2Proof.Machine.execUnknownCommand payload s
  | .getStatus tag args => Sys2Proof.Machine.execGetStatus tag args s
  | .getZones tag args => Sys2Proof.Machine.execGetZones tag args s
  | .getSamples tag args => Sys2Proof.Machine.execGetSamples tag args s
  | .getEntry tag args => Sys2Proof.Machine.execGetEntry tag args s
  | .setEntryClass tag args => Sys2Proof.Machine.execSetEntryClass tag args s
  | .setEntryKeymap tag args => Sys2Proof.Machine.execSetEntryKeymap tag args s
  | .setEntrySequence tag args => Sys2Proof.Machine.execSetEntrySequence tag args s
  | .setEntryZone tag args => Sys2Proof.Machine.execSetEntryZone tag args s
  | .setEntryChannel tag args => Sys2Proof.Machine.execSetEntryChannel tag args s
  | .setEntryParameter tag args => Sys2Proof.Machine.execSetEntryParameter tag args s
  | .setEntryInject tag args => Sys2Proof.Machine.execSetEntryInject tag args s
  | .getCounters tag args => Sys2Proof.Machine.execGetCounters tag args s
  | .clearCounters tag args => Sys2Proof.Machine.execClearCounters tag args s
  | .getLog tag args => Sys2Proof.Machine.execGetLog tag args s
  | .requestPowerOff tag args => Sys2Proof.Machine.execRequestPowerOff tag args s
  | .requestPowerRestart tag args => Sys2Proof.Machine.execRequestPowerRestart tag args s
  | .requestPowerCycle tag args => Sys2Proof.Machine.execRequestPowerCycle tag args s
  | .requestDisplayDim tag args => Sys2Proof.Machine.execRequestDisplayDim tag args s
  | .requestDisplayWake tag args => Sys2Proof.Machine.execRequestDisplayWake tag args s
  | .requestDisplayRestart tag args => Sys2Proof.Machine.execRequestDisplayRestart tag args s
  | .forceSampleSet tag channel args => Sys2Proof.Machine.execForceSampleSet tag channel args s
  | .forceSampleRelease tag channel args => Sys2Proof.Machine.execForceSampleRelease tag channel args s
  | .commitProfile tag args => Sys2Proof.Machine.execCommitProfile tag args s
  | .resetSupervisor tag args => Sys2Proof.Machine.execResetSupervisor tag args s
  | .displayManagementFrame payload => Sys2Proof.Machine.execDisplayManagementFrame payload s
  | .breakEnd => Sys2Proof.Machine.execBreakEnd s

end Sys2Proof.Machine
end

