-- ==== Sys2Proof/Safety.lean ====
section
/-! DEFINITION. The words the claims use: the state between commands, a request that is executed, and the invariants of
the block. -/

namespace Sys2Proof.Machine

/-! ## Between commands -/

/-- The model's own marks of a step are clear, as they are between commands (log 8). -/
abbrev State.AtRest (s : State) : Prop :=
  s.mgmt.replyEnded = false ∧ s.mgmt.justReported = 0 ∧ s.keypad.scanning = false ∧ s.keypad.deferred = [] ∧
    s.matcher.deferred = []

/-- The part is out of cold reset, between commands. -/
abbrev State.Ready (s : State) : Prop := s.held = false ∧ s.AtRest

/-- As `Ready`, with no soft reset pending (R179). -/
abbrev State.Quiet (s : State) : Prop := s.Ready ∧ s.mgmt.pendingSoft = false

/-- A frame from the board is received: the system port receives characters (R133, R138), and its line is not watched
for the end of a character whose bits are all 0 (R130). -/
abbrev State.Hears (s : State) : Prop := s.sys.receives = true ∧ s.sys.lineLow = false

/-- The display port's line is at 1: it is neither watched since a character whose bits are all 0 nor in a break
(R130). -/
abbrev State.HearsDisplay (s : State) : Prop := s.disp.lineLow = false ∧ s.disp.breakOn = false

/-- A request frame is received and executed: the system port hears and the reply slot is empty (R168). -/
abbrev State.Served (s : State) : Prop := s.Ready ∧ s.Hears ∧ s.sys.slot = .empty

/-- As `Served`, with no commit in progress (R169). -/
abbrev State.ServedFree (s : State) : Prop := s.Served ∧ s.mgmt.commit ≠ .inProgress

/-- A good frame of a class has been received whole on the system port and counted as passed (R129, R140, R150). -/
def State.received (c : Fin 64) (s : State) : State :=
  { s with sys := { s.sys with rx := .idle }, switch := s.switch.pass c }

/-- A good frame of a class has been received whole on the system port and counted as dropped (R129, R140, R150). -/
def State.refused (c : Fin 64) (s : State) : State :=
  { s with sys := { s.sys with rx := .idle }, switch := s.switch.drop c }

/-- A good frame has been received whole on the display port (R129, R132), and in OPEN and DIMMED the silence timer has
started again (R146, R157). -/
def State.heardDisplay (s : State) : State :=
  { s with
    disp := { s.disp with rx := .idle, badRun := 0 }
    path :=
      if s.path.state = .opened ∨ s.path.state = .dimmed then { s.path with silenceTimer := s.silenceStart }
      else s.path }

/-- A reply waits in the slot (R135). -/
def State.replied (command : Nat) (tag : Byte) (status : Status) (data : List Byte) (s : State) : State :=
  { s with
    sys := { s.sys with slot := .held { command := byte command, tag := tag, status := status, data := data } } }

/-- The payload of a management request row (R169, R182, chapter 12, sections 12.2 and 12.3). -/
def requestPayload : Instr → Option (List Byte)
  | .unknownCommand p => some p
  | .getStatus tag a => some (1 :: tag :: a)
  | .getZones tag a => some (2 :: tag :: a)
  | .getSamples tag a => some (3 :: tag :: a)
  | .getEntry tag a => some (4 :: tag :: a)
  | .setEntryClass tag a => some (5 :: tag :: 0 :: a)
  | .setEntryKeymap tag a => some (5 :: tag :: 1 :: a)
  | .setEntrySequence tag a => some (5 :: tag :: 2 :: a)
  | .setEntryZone tag a => some (5 :: tag :: 3 :: a)
  | .setEntryChannel tag a => some (5 :: tag :: 4 :: a)
  | .setEntryParameter tag a => some (5 :: tag :: 5 :: a)
  | .setEntryInject tag a => some (5 :: tag :: 6 :: a)
  | .getCounters tag a => some (6 :: tag :: a)
  | .clearCounters tag a => some (7 :: tag :: a)
  | .getLog tag a => some (8 :: tag :: a)
  | .requestPowerOff tag a => some (9 :: tag :: 0 :: a)
  | .requestPowerRestart tag a => some (9 :: tag :: 1 :: a)
  | .requestPowerCycle tag a => some (9 :: tag :: 2 :: a)
  | .requestDisplayDim tag a => some (10 :: tag :: 0 :: a)
  | .requestDisplayWake tag a => some (10 :: tag :: 1 :: a)
  | .requestDisplayRestart tag a => some (10 :: tag :: 2 :: a)
  | .forceSampleSet tag ch a => some (11 :: tag :: ch :: 0 :: a)
  | .forceSampleRelease tag ch a => some (11 :: tag :: ch :: 1 :: a)
  | .commitProfile tag a => some (12 :: tag :: a)
  | .resetSupervisor tag a => some (13 :: tag :: a)
  | _ => none

/-- The row that stands for a good frame arriving on a port (R140, R144, R147). A class-0 frame of the system port is a
request, whatever its payload. -/
def Frame.row : Port → Frame → Instr
  | .system, f =>
    if f.cls.val = 0 then .unknownCommand f.payload
    else if f.cls.val < 8 then .reservedFrame .system f.cls f.payload
    else .loadableSystemFrame f.cls f.payload
  | .display, f =>
    if f.cls.val = 0 then .displayManagementFrame f.payload
    else if f.cls.val < 8 then .reservedFrame .display f.cls f.payload
    else .loadableDisplayFrame f.cls f.payload

/-- Commands performed one after another. -/
def performAll : List Instr → State → Host.Outcome State Fault Refusal
  | [], s => .next s
  | c :: cs, s =>
    match exec c s with
    | .next t => performAll cs t
    | .fault f => .fault f
    | .refused r => .refused r

/-! ## Samples -/

/-- The value a sample gives the other blocks: its value while it is VALID, CLAMPED, SUSPECT or FORCED (R13). -/
def Sample.usableValue (r : Sample) : Option Int :=
  if r.state = .valid ∨ r.state = .clamped ∨ r.state = .suspect ∨ r.state = .forced then r.value else none

/-- The usable values of a zone's first channel and, when its second is not NONE, of its second (R20). -/
def ZoneRecord.usableValues (samples : Vector Sample 8) (r : ZoneRecord) : List Int :=
  samples[r.first.val].usableValue.toList ++
    (match r.second with | none => [] | some c => samples[c.val].usableValue.toList)

/-! ## The CRC-8 -/

/-- Some bytes as one polynomial over the integers modulo 2, a coefficient a bit: the first byte's most significant bit
is the highest coefficient (R128). -/
def polynomialOf (bs : List Byte) : Nat := bs.foldl (fun n b => 256 * n + b.toNat) 0

/-- A polynomial times the generator x⁸ + x² + x + 1, the coefficients modulo 2 (R128). -/
def timesGenerator (q : Nat) : Nat := (q <<< 8) ^^^ (q <<< 2) ^^^ (q <<< 1) ^^^ q

/-! ## Power -/

/-- No grant and no active grant (R30, R32). -/
abbrev Heat.NoGrants (h : Heat) : Prop := ∀ z, (h.zones.get z).grant = 0 ∧ (h.zones.get z).active = 0

/-- A state is the soft reset (R179) of another, whose sticky flags are those reported on the same event: every block
as its soft reset rule has it (R16, R39, R76, R92, R114, R125, R139, R153, R167), the rest as it was. The argument that
comes first is the state after. -/
abbrev State.SoftResets (t u : State) : Prop :=
  let merged (p : DisplayPath) : DisplayPath :=
    ((List.finRange 64).filter (fun c => t.tables.coalesceOf c && !u.tables.coalesceOf c)).foldl
      (fun q c => q.coalesceSet c) p
  t =
    { u with
      tables := u.store.load
      choices := if u.mgmt.sticky = 0 then u.choices else u.choices + 1
      mgmt :=
        { u.mgmt with
          pendingSoft := false, overrun := 0
          sticky := (u.mgmt.sticky &&& Config.keptAtSoftReset u.choices) |||
            (if u.store.accepted then 0 else StickyFlag.profileDefaulted.mask) }
      power :=
        { u.power with
          restartList := u.power.restartList.drop (u.power.restartList.length - t.params.restartLimit) }
      meas :=
        { u.meas with
          changes := u.meas.overrides.map (fun o => if o.isSome then PendingChange.release else .none) }
      matcher := { u.matcher with slots := Vector.replicate 4 SlotProgress.clear }
      keypad := { u.keypad with lossCount := 0 }
      sys :=
        { u.sys with
          errors := PortErrors.zero, fwdDiscard := 0, rate := t.params.systemRate
          rx := if u.sys.rate = t.params.systemRate then u.sys.rx else .discard }
      disp :=
        { u.disp with
          errors := PortErrors.zero, rate := t.params.displayRate
          rx := if u.disp.rate = t.params.displayRate then u.disp.rx else .discard }
      switch := { passed := Vector.replicate 64 0, dropped := Vector.replicate 64 0 }
      path := { merged u.path with dqDiscard := 0 }
      live :=
        if u.live.stage = .watching ∨ u.live.stage = .warned then
          { u.live with
            stage := .watching, graceTimer := none, last := some u.clockMs, early := 0
            hbTimer := some { start := u.clockMs, dur := t.params.hbMax * 100 } }
        else { u.live with early := 0 }
      heat := { u.heat with zones := t.heat.zones } } ∧
  ∀ z, t.heat.zones.get z =
    { u.heat.zones.get z with
      soak := if (u.tables.zones.get z).first ≠ (t.tables.zones.get z).first ∨
                  (u.tables.zones.get z).second ≠ (t.tables.zones.get z).second then 0
              else (u.heat.zones.get z).soak }

/-- The liveness stage that a power state and phase set (R77). -/
def stageIn (st : PowerState) (ph : Option Phase) : Stage :=
  if (st = .starting ∨ st = .restarting) ∧ ph = some .bootWait then .bootWait
  else if st = .running then .watching
  else if st = .shutdown then .suspended
  else .idle

/-- What the reports of a power transition do in the neighbouring blocks (R55): the Thermal Limit Monitor (R41), the
Liveness Monitor (R77), the Sequence Matcher (R116), the Beeper Driver (R124), the notice queue (R176), the Keypad
Scanner that kept the former state (R110), the display path (R154) and the System Port (R133). A transition that ends a
grace of 0 at once passes through SHUTDOWN, whose report also clears slots. -/
abbrev State.Reported (s t : State) : Prop :=
  let st := t.power.state
  let bootOrWatch := t.live.stage = .bootWait ∨ t.live.stage = .watching
  let boardOff := s.power.boardPower = true ∧ t.power.boardPower = false
  t.thermal =
    { s.thermal with
      kept := st
      filterCount := if s.thermal.kept = .running ∧ st ≠ .running then 0 else s.thermal.filterCount
      resumeCount := if st = .hotOff ∨ s.thermal.kept = .hotOff then 0 else s.thermal.resumeCount
      blindGiven := if st = .running ∧ s.thermal.kept ≠ .running then false else s.thermal.blindGiven } ∧
    t.live.stage = stageIn st t.power.phase ∧ t.live.graceTimer = none ∧
    (¬bootOrWatch → t.live.bootTimer = none ∧ t.live.hbTimer = none ∧ t.live.last = none) ∧
    (∀ n : Fin 4,
      (s.tables.sequences[n].mask.getLsbD st.code = false → t.matcher.slots[n] = SlotProgress.clear) ∧
      (s.tables.sequences[n].mask.getLsbD st.code = true → t.matcher.slots[n] = s.matcher.slots[n] ∨
        (s.tables.sequences[n].mask.getLsbD PowerState.shutdown.code = false ∧
          t.matcher.slots[n] = SlotProgress.clear))) ∧
    (s.beeper.background = none → t.beeper = s.beeper.onReport st t.clockMs) ∧
    (st ≠ .serviceHold → st ≠ .hotOff → t.beeper.background = none) ∧
    (st ≠ .running → st ≠ .shutdown → t.mgmt.queue = []) ∧
    (s.keypad.kept = s.power.state →
      st = .running ∨ st = .shutdown ∨ (s.power.state ≠ .running ∧ s.power.state ≠ .shutdown) →
      t.keypad = { s.keypad with kept := st }) ∧
    (s.power.boardPower = t.power.boardPower → t.power.boardPower = true ∨ s.power.state ≠ .running →
      t.path = s.path ∧ t.disp.tx = s.disp.tx) ∧
    (boardOff → t.disp.tx = none ∧ t.path =
      { s.path with
        state := .off, power := false, queue := [], waitTimer := none, startTimer := none, silenceTimer := none
        idleTimer := none
        dqDiscard :=
          min (s.path.dqDiscard + (if s.disp.tx.isSome then 1 else 0) + s.path.queue.length) 65535 }) ∧
    t.sys.isLive = (t.power.boardPower && !t.power.resetAsserted) ∧
    (s.sys.isLive = true → t.sys.isLive = false →
      t.sys.rx = .discard ∧ t.sys.lineLow = false ∧ t.sys.breakOn = false ∧ t.sys.slot = .empty ∧ t.sys.fwd = [] ∧
      t.sys.tx = none ∧
      t.sys.fwdDiscard = min (s.sys.fwdDiscard + (if s.sys.sendsForwarded then 1 else 0) + s.sys.fwd.length) 65535)

/-- The two states differ at most in what a power transition's records, outputs and reports touch (R55), and every
block's kept power state is the new one. The grants are 0 in HOT_OFF, and in OFF without heat-while-off (R30); elsewhere
they stay, but for the allocation of a reserve request (R33, R34). -/
abbrev State.SameOutsidePower (s t : State) : Prop :=
  t.held = s.held ∧ t.choices = s.choices ∧ t.tables = s.tables ∧ t.store = s.store ∧ t.meas = s.meas ∧
    t.switch = s.switch ∧ t.pending = s.pending ∧
    t.heat = { s.heat with
      kept := t.power.state, zones := t.heat.zones, budget := t.heat.budget, reserve := t.heat.reserve
      a8 := t.heat.a8, reserveHeld := t.heat.reserveHeld } ∧
    (t.power.phase ≠ some .reserve → t.heat.budget = s.heat.budget ∧ t.heat.a8 = s.heat.a8 ∧
      (t.power.state = .hotOff ∨ (t.power.state = .off ∧ s.heat.heatWhileOff = false) → t.heat.NoGrants) ∧
      (t.power.state ≠ .hotOff → t.power.state ≠ .off ∨ s.heat.heatWhileOff = true → t.heat.zones = s.heat.zones)) ∧
    s.Reported t ∧
    t.keypad = { s.keypad with
      kept := t.power.state, queue := t.keypad.queue, reportedDown := t.keypad.reportedDown
      typematic := t.keypad.typematic, suppressed := t.keypad.suppressed } ∧
    t.matcher.kept = t.power.state ∧
    t.mgmt = { s.mgmt with kept := t.power.state, queue := t.mgmt.queue, counter := t.mgmt.counter } ∧
    t.beeper.oneShot = s.beeper.oneShot ∧ t.live.early = s.live.early ∧ t.path.heatDim = s.path.heatDim ∧
    t.sys.errors = s.sys.errors ∧ t.sys.hostReady = s.sys.hostReady ∧ t.disp.errors = s.disp.errors

/-- A Restart Log record of the sequencer's state (R74): its uptime in whole seconds at a moment. -/
def PowerSeq.newRecord (p : PowerSeq) (now : Nat) (hot : Option Int) (c : Cause) (slot : Option SlotField)
    (listLen : Nat) : LogRecord :=
  { seq := p.nextSeq, uptime := BitVec.ofNat 32 (now / 1000), cause := c, stateLeft := p.state, hot := hot
    slot := slot, listLen := listLen }

/-- A record joins the log, the oldest leaving a full one (R74). -/
def PowerSeq.logged (p : PowerSeq) (r : LogRecord) : PowerSeq :=
  { p with log := (r :: p.log).take 16, nextSeq := p.nextSeq + 1 }

/-- The sequencer moved to a state with the board off and in reset (R53, R54). -/
def PowerSeq.boardOff (p : PowerSeq) (st : PowerState) (timer : Option Timer) : PowerSeq :=
  { p with state := st, phase := none, dest := none, timer := timer, boardPower := false, resetAsserted := true
           pgSeen := false }

/-- The sequencer moved to RESTARTING, phase PULSE (R63). -/
def PowerSeq.pulsing (p : PowerSeq) (timer : Timer) : PowerSeq :=
  { p with state := .restarting, phase := some .pulse, dest := none, timer := some timer, boardPower := true
           resetAsserted := true }

/-- The sequencer after an automatic restart of a cause (R65): the list is pruned; at the limit SERVICE_HOLD is entered
with two records, and otherwise the restart is counted and made. -/
def PowerSeq.afterRestart (q : Params) (now : Nat) (hot : Option Int) (c : Cause) (p : PowerSeq) : PowerSeq :=
  let up := BitVec.ofNat 32 (now / 1000)
  let young := p.restartList.dropWhile (fun e => decide (q.restartWindow * 60 < (up - e).toNat))
  if q.restartLimit ≤ young.length then
    { p.boardOff .serviceHold none with
      restartList := young
      log := ({ p.newRecord now hot .serviceHoldEntered none young.length with seq := p.nextSeq + 1 }
        :: p.newRecord now hot c none young.length :: p.log).take 16
      nextSeq := p.nextSeq + 2 }
  else
    let counted := { p.logged (p.newRecord now hot c none (young.length + 1)) with restartList := young ++ [up] }
    if c = .watchdog then counted.pulsing { start := now, dur := q.resetPulse * 10 }
    else counted.boardOff .cycling (some { start := now, dur := q.offTime * 1000 })

/-! ## Flags -/

/-- The sticky flags after a report of one flag (R174). -/
def Mgmt.withFlag (m : Mgmt) (f : StickyFlag) : BitVec 16 := m.sticky ||| f.mask

/-! ## The display path -/

/-- The display path after entering RECOVERING, or at the retry limit FAILED (R158): display power off, every timer
stopped but the recovery off-time, a frame in transmission cut off and counted (R132). -/
def DisplayPath.afterRecovery (q : Params) (now : Nat) (sending : Bool) (p : DisplayPath) : DisplayPath :=
  let cut := if sending then min (p.dqDiscard + 1) 65535 else p.dqDiscard
  let off := { p with power := false, waitTimer := none, startTimer := none, silenceTimer := none, idleTimer := none }
  if q.retryLimit ≤ p.retry then
    { off with state := .failed, queue := [], dqDiscard := min (cut + p.queue.length) 65535 }
  else
    { off with
      state := .recovering, retry := p.retry + 1, dqDiscard := cut
      startTimer := some { start := now, dur := q.offTimeRecovery * 1000 } }

/-- The notices after entering RECOVERING: at the retry limit one of RETRIES_EXHAUSTED (R158). -/
def Mgmt.afterRecovery (q : Params) (retry : Nat) (m : Mgmt) : Mgmt :=
  if q.retryLimit ≤ retry then m.post (.displayFault .retriesExhausted retry q.retryLimit) else m

/-- An Injection Table entry injected: if enabled, its frame is placed in the display queue and counted as passed, an
overflow setting QUEUE_DISCARD (R160, R163). -/
def State.injected (e : InjectEntry) (s : State) : State :=
  let f : QueuedFrame := { cls := e.cls, payload := e.payload, coalesce := s.tables.coalesceOf e.cls }
  if e.enable then
    { s with
      path := s.path.place f
      switch := s.switch.pass e.cls
      mgmt :=
        { s.mgmt with sticky := if overflows f s.path.queue then s.mgmt.withFlag .queueDiscard else s.mgmt.sticky } }
  else s

/-- A bad frame on the display port, its outcome counted and the receiver left in a state (R132): the third in a row
starts a new count and, while display power is on, reports DISPLAY_ALERT and posts BAD_FRAMES (R159). -/
def State.displayBad (rx : RxState) (errors : PortErrors) (s : State) : State :=
  let d := { s.disp with rx := rx, errors := errors }
  if s.disp.badRun + 1 < 3 then { s with disp := { d with badRun := s.disp.badRun + 1 } }
  else
    { s with
      disp := { d with badRun := 0 }
      mgmt :=
        if s.path.power then
          { s.mgmt.post (.displayFault .badFrames s.path.retry s.params.retryLimit) with
            sticky := s.mgmt.withFlag .displayAlert }
        else s.mgmt }

/-- The path dims: DIM is injected, DIMMED entered, and the oldest frame goes out if the transmitter is free (R161 to
R164). -/
def State.dims (s : State) : State :=
  let u := s.injected s.tables.dim
  State.displayRelease { u with path := { u.path with state := .dimmed, idleTimer := none } }

/-- The path wakes: WAKE is injected, OPEN entered, the idle timer started, and the oldest frame goes out if the
transmitter is free (R161 to R163). -/
def State.wakes (s : State) : State :=
  let u := s.injected s.tables.wake
  State.displayRelease { u with path := { u.path with state := .opened, idleTimer := s.idleStart } }

/-- STARTING of the display path (R156). -/
def DisplayPath.started (q : Params) (now : Nat) (p : DisplayPath) : DisplayPath :=
  { p with state := .starting, power := true, waitTimer := none
           startTimer := some { start := now, dur := q.startLimit * 1000 } }

/-! ## The keypad -/

/-- The next scan counts for the debounce (R95): whether the first after a cold reset does is free (R113; log 21). -/
abbrev State.ScanCounts (s : State) : Prop := s.keypad.scans ≠ 0 ∨ Config.firstScanCounts = true

/-- In a scan with this reading exactly one key's debounced condition changes (R95). -/
abbrev State.LoneChange (reading : BitVec 64) (i : Fin 64) (s : State) : Prop :=
  s.ScanCounts ∧ ∀ k : Fin 64, (reading.getLsbD k.val ≠ s.keypad.keys[k].state.physicallyDown ∧
    s.params.debounce ≤ s.keypad.keys[k].count + 1) ↔ k = i

/-- In a scan with this reading no key's debounced condition changes (R95). -/
abbrev State.NoChange (reading : BitVec 64) (s : State) : Prop :=
  s.ScanCounts → ∀ k : Fin 64, reading.getLsbD k.val ≠ s.keypad.keys[k].state.physicallyDown →
    s.keypad.keys[k].count + 1 < s.params.debounce

/-- The next scan finds a key held for the stuck time (R99). -/
abbrev State.Sticks (k : Fin 64) (s : State) : Prop :=
  s.params.stuckTime ≠ 0 ∧ s.keypad.keys[k].state = .down ∧
    s.params.stuckTime * 1000 ≤ 4 * s.keypad.scans - s.keypad.keys[k].entry

/-- No repeat is due at the next scan (R107). -/
abbrev State.RepeatNotDue (s : State) : Prop := ∀ x ∈ s.keypad.typematic, 4 * s.keypad.scans < x.2

/-- A key's two neighbours in its row and column and the fourth corner are down (R97). -/
abbrev InRectangle (down : Fin 64 → Bool) (i : Fin 64) : Prop :=
  ∃ r c : Fin 8, r ≠ keyRow i ∧ c ≠ keyCol i ∧ down (keyAt (keyRow i) c) = true ∧ down (keyAt r (keyCol i)) = true ∧
    down (keyAt r c) = true

/-- A key event of the next scan, with its timestamp (R94, R108). -/
def State.eventNow (i : Fin 64) (code : Byte) (kind : EventKind) (s : State) : KeyEvent :=
  { key := i, code := code, kind := kind, time := BitVec.ofNat 16 (4 * s.keypad.scans) }

/-- A queue without a key's repeats (R105). -/
def withoutRepeats (i : Fin 64) (q : List KeyEvent) : List KeyEvent :=
  q.filter (fun e => !(decide (e.key = i) && decide (e.kind = .autoRepeat)))

/-- The slots after a key has left DOWN: those HOLDING with it are clear (R118). -/
def slotsLeft (i : Fin 64) (slots : Vector SlotProgress 4) : Vector SlotProgress 4 :=
  slots.map (fun p => if p.holding = some i then SlotProgress.clear else p)

/-- A slot's progress that a press is judged at: a slot in HOLDING has just been cancelled (R117). -/
def SlotProgress.judgedAt (p : SlotProgress) : Nat := if p.holding.isSome then 0 else p.progress

/-- The progress a press brings a slot to: advance, restart or miss (R117). -/
def SeqSlot.reaches (e : SeqSlot) (k : Fin 64) (at_ : Nat) : Nat :=
  if e.steps[at_]? = some k then at_ + 1 else if e.steps[0]? = some k then 1 else 0

/-- A slot judges presses in a power state: it has steps and an action, and its mask allows the state (R115, R117). -/
abbrev SeqSlot.JudgesIn (e : SeqSlot) (st : PowerState) : Prop :=
  e.steps ≠ [] ∧ e.action ≠ .none ∧ e.mask.getLsbD st.code = true

/-! ## The parameter list -/

/-- The values that a parameter of listed values, a flag or a coded parameter accepts (chapter 12, section 12.6). -/
def acceptedValues : Nat → Option (List Int)
  | 1 => some [250, 500, 1000, 2000]
  | 24 => some [0, 32, 96, 250]
  | 44 | 45 => some [19200, 57600, 115200, 230400]
  | 12 | 21 | 31 | 32 | 33 | 42 | 52 | 53 => some [0, 1]
  | _ => none

/-- The least and the greatest value of a numeric parameter, given the parameters stored that bound it (chapter 12,
section 12.6; R3, R24, R78). -/
def Params.limits (p : Params) : Nat → Option (Int × Int)
  | 2 => some (0, 7)
  | 3 => some (p.firstIndex.val, 7)
  | 4 | 30 => some (1, 8)
  | 5 => some (0, 1000)
  | 6 => some (0, p.normalBudget)
  | 7 => some (0, p.brownoutBudget)
  | 8 => some (0, 8)
  | 9 | 10 => some (0, 600)
  | 11 => some (0, 100)
  | 13 | 15 | 16 | 17 => some (-240, 600)
  | 14 | 19 | 27 | 28 | 37 | 39 | 47 | 51 => some (0, 255)
  | 18 => some (0, 840)
  | 20 => some (1, 65535)
  | 22 | 25 | 35 | 50 => some (1, 255)
  | 23 => some (100, 5000)
  | 26 | 46 => some (1, 60)
  | 29 => some (1, 1440)
  | 34 => some (10, 600)
  | 36 => some (0, p.hbMax - 1)
  | 38 => some (2, 15)
  | 40 => some (5, 20)
  | 41 => some (33, 500)
  | 43 => some (500, 5000)
  | 48 => some (1, 30)
  | 49 => some (0, 7)
  | _ => none

/-- The parameters in the order of the list, as numbers or codes (chapter 12, section 12.6). -/
def Params.listed (p : Params) : List Int :=
  let code (b : Bool) : Int := if b then 1 else 0
  ([p.cyclePeriod, p.firstIndex.val, p.lastIndex.val, p.persistence, p.normalBudget, p.brownoutBudget, p.boardReserve,
   p.fallbackDuty, p.supplyCutLimit, p.supplyLowLimit, p.supplyHysteresis, code p.heatWhileOff] : List Int) ++
  ([p.twarn, p.thys, p.tshut, p.tresume, p.tdim, p.riseLimit, p.riseHysteresis, p.riseCount,
   code (p.mainsPolicy = .stayOff), p.preheatLimit, p.powerGoodLimit, p.settleDelay, p.resetPulse, p.offTime,
   p.shutdownGrace, p.hostOffDelay, p.restartWindow, p.restartLimit, code p.autoResume] : List Int) ++
  [code (p.resetPolarity = .activeHigh), code (p.powerGoodPolarity = .activeHigh), p.bootLimit, p.hbMax, p.hbMin,
   p.warnGrace, p.debounce, p.stuckTime, p.repeatDelay, p.repeatPeriod, code p.anyKey] ++
  ([p.stepTimeout, p.systemRate, p.displayRate, p.startLimit, p.silenceLimit, p.offTimeRecovery, p.retryLimit,
   p.waitLimit, p.idlePeriod, code p.idleTimes16, code p.swallow] : List Int)

/-- A zone record with every numeric field at the nearest limit of its range (R17, R18). -/
def ZoneRecord.limited (r : ZoneRecord) : ZoneRecord :=
  { r with
    tstart := max (-240) (min 600 r.tstart), hyst := min 255 r.hyst, soakTarget := min 65535 r.soakTarget
    thold := max (-240) (min 600 r.thold), band := max 1 (min 255 r.band), tcut := max (-240) (min 600 r.tcut)
    tminAbs := max (-240) (min 600 r.tminAbs), watts := max 1 (min 255 r.watts), priority := min 2 r.priority }

/-! ## Layouts (chapter 12) -/

/-- The unsigned number of some bytes from an offset on, least significant byte first (R181). -/
def fieldAt (d : List Byte) (k : Nat) : Nat → Nat
  | 0 => 0
  | n + 1 => (d[k]?.getD 0).toNat + 256 * fieldAt d (k + 1) n

/-- A field of some bytes at an offset holds a number, a negative one in two's complement (R181). -/
abbrev Carries (d : List Byte) (k n : Nat) (v : Int) : Prop := (fieldAt d k n : Int) = v % 256 ^ n

/-- The bits of a flag byte at an offset, bit 0 first; bits not named are 0 (R181). -/
abbrev CarriesFlags (d : List Byte) (k : Nat) (bits : List Bool) : Prop :=
  ∀ j : Fin 8, (d[k]?.getD 0).getLsbD j.val = bits[j.val]?.getD false

/-- A value that may be absent as its field holds it: −32,768 when absent (R181). -/
abbrev orAbsent (v : Option Int) : Int := v.getD (-32768)

/-- The code of a value in a list of codes that begins with code 0. -/
abbrev codeIn {α : Type} [DecidableEq α] (codes : List α) (x : α) : Nat := codes.idxOf x

/-- The power states by their codes (section 12.4). -/
def codedPowerStates : List PowerState :=
  [.off, .preheat, .starting, .running, .restarting, .shutdown, .cycling, .hotOff, .serviceHold]

/-- The Restart Log causes by their codes (section 12.4). -/
def codedCauses : List Cause :=
  [.mainsReturn, .degradedStart, .watchdog, .bootTimeout, .powerLost, .powerGoodTimeout, .thermal, .thermalResume,
   .hostOff, .hostRestart, .hostCycle, .keyPowerOn, .keyRestart, .serviceReleased, .serviceHoldEntered]

/-- The sticky flags in the order of their table (R174). -/
def codedFlags : List StickyFlag :=
  [.profileDefaulted, .commitFailed, .sensorFault, .adcFault, .sampleClamped, .brownout, .thermalWarn, .keyLoss,
   .keyStuck, .ghost, .displayAlert, .displayAbsent, .queueDiscard, .mgmtOverrun, .earlyHeartbeat, .linkReset]

/-- A zone is warm by its target as written (R22). -/
abbrev ZoneState.isWarm (target : Nat) (z : ZoneState) : Bool := !z.blind && decide (target ≤ z.soak)

/-- The status record (R170, R173, section 12.4). -/
abbrev StatusLayout (s : State) (d : List Byte) : Prop :=
  let warm (z : ZoneId) := (s.heat.zones.get z).isWarm (s.tables.zones.get z).soakTarget
  let blind (z : ZoneId) := (s.heat.zones.get z).blind
  d.length = 10 ∧ Carries d 0 1 (codeIn codedPowerStates s.power.state) ∧
    Carries d 1 1
      (codeIn [none, some .reserve, some .powerWait, some .settle, some .bootWait, some .pulse] s.power.phase) ∧
    Carries d 2 1 (codeIn [none, some .hotOff, some .off] s.power.dest) ∧
    Carries d 3 1 (codeIn [.off, .waitWarm, .starting, .opened, .dimmed, .recovering, .failed] s.path.state) ∧
    Carries d 4 1 (codeIn [.idle, .bootWait, .watching, .warned, .suspended] s.live.stage) ∧
    CarriesFlags d 5 [warm .board, warm .display, warm .front, blind .board, blind .display, blind .front] ∧
    CarriesFlags d 6 [s.heat.brownout, s.thermal.warn, s.thermal.heatDim, s.thermal.filterService, s.meas.adcFault,
      decide (s.mgmt.source = .defaults)] ∧
    Carries d 7 1 (codeIn [.none, .inProgress, .done, .failed] s.mgmt.commit) ∧
    ∀ (j : Fin 16) (f : StickyFlag), codedFlags[j.val]? = some f → (fieldAt d 8 2).testBit j.val = s.mgmt.hasFlag f

/-- The zone report (R37, section 12.4). -/
abbrev ZonesLayout (s : State) (d : List Byte) : Prop :=
  d.length = 34 ∧
    (∀ z : ZoneId,
      let at_ := 9 * codeIn ZoneId.all z
      let x := s.heat.zones.get z
      Carries d at_ 2 (orAbsent x.cold) ∧ Carries d (at_ + 2) 2 (orAbsent x.hot) ∧ Carries d (at_ + 4) 2 x.soak ∧
        CarriesFlags d (at_ + 6) [x.isWarm (s.tables.zones.get z).soakTarget, x.blind] ∧
        Carries d (at_ + 7) 1 x.request ∧ Carries d (at_ + 8) 1 x.grant) ∧
    Carries d 27 2 s.heat.budget ∧ Carries d 29 2 s.heat.reserve ∧ Carries d 31 2 s.heat.a8 ∧
    CarriesFlags d 33 [s.heat.supplyCut]

/-- The eight sample records (R13, section 12.4). The twelve bits of an absent raw code are free (log 10). -/
abbrev SamplesLayout (s : State) (d : List Byte) : Prop :=
  d.length = 40 ∧ ∀ ch : Fin 8,
    let r := s.meas.samples[ch]
    let word := fieldAt d (5 * ch.val) 2
    (∀ c, r.raw = some c → word % 4096 = c.toNat) ∧
      word / 4096 % 8 = codeIn [.none, .valid, .clamped, .suspect, .fault, .stale, .forced] r.state ∧
      word / 32768 = (if r.raw = none then 1 else 0) ∧ Carries d (5 * ch.val + 2) 2 (orAbsent r.value) ∧
      Carries d (5 * ch.val + 4) 1 r.faults

/-- A log record (R74, section 12.4). -/
abbrev LogLayout (r : LogRecord) (d : List Byte) : Prop :=
  d.length = 12 ∧ Carries d 0 2 r.seq.toNat ∧ Carries d 2 4 r.uptime.toNat ∧
    Carries d 6 1 (codeIn codedCauses r.cause) ∧ Carries d 7 1 (codeIn codedPowerStates r.stateLeft) ∧
    Carries d 8 2 (orAbsent r.hot) ∧
    Carries d 10 1 (match r.slot with | some (.slot n) => n.val | some .anyKey => 4 | none => 255) ∧
    Carries d 11 1 r.listLen

/-- Some 16-bit counters, one after another. -/
abbrev CarriesCounts (d : List Byte) (counts : List Nat) : Prop :=
  d.length = 2 * counts.length ∧ ∀ (j n : Nat), counts[j]? = some n → Carries d (2 * j) 2 n

/-- A port's seven counters in their order (section 12.4). -/
abbrev PortErrors.counts (e : PortErrors) : List Nat :=
  [e.framing, e.truncated, e.header, e.length, e.stray, e.crc, e.lineBreak]

/-- The passed and dropped counters of each class in turn from a first class, up to 11 classes (section 12.4). -/
abbrev Switch.counts (w : Switch) (first : Nat) : List Nat :=
  (List.range' first (min 11 (64 - first))).flatMap (fun c => [w.passed[c]?.getD 0, w.dropped[c]?.getD 0])

/-- A class entry as written (section 12.5). -/
abbrev ClassLayout (e : ClassEntry) (d : List Byte) : Prop :=
  d.length = 5 ∧ Carries d 0 1 (codeIn [.none, .toDisplay, .toSystem, .both] e.direction) ∧
    Carries d 1 1 (codeIn [.hold, .liveOnly, .drop] e.action) ∧
    CarriesFlags d 2 [e.heartbeat, e.activity, e.coalesce, e.wake] ∧ Carries d 3 1 e.minLength ∧
    Carries d 4 1 e.maxLength

/-- A Keymap entry (section 12.5). -/
abbrev KeyLayout (e : KeyEntry) (d : List Byte) : Prop :=
  d.length = 3 ∧ Carries d 0 1 e.code.toNat ∧ Carries d 1 1 (codeIn [.normal, .service, .disabled] e.kind) ∧
    CarriesFlags d 2 [e.repeats, e.click]

/-- A Sequence Table slot (section 12.5). -/
abbrev SlotLayout (e : SeqSlot) (d : List Byte) : Prop :=
  d.length = 5 + e.steps.length ∧
    Carries d 0 1 (codeIn [.none, .powerOn, .restart, .serviceRelease, .notice] e.action) ∧
    (∀ st : PowerState, (fieldAt d 1 2).testBit (codeIn codedPowerStates st) = e.mask.getLsbD st.code) ∧
    fieldAt d 1 2 < 512 ∧ Carries d 3 1 e.hold ∧ Carries d 4 1 e.steps.length ∧
    ∀ (j : Nat) (k : Fin 64), e.steps[j]? = some k → Carries d (5 + j) 1 k.val

/-- A zone record (section 12.5). -/
abbrev ZoneLayout (r : ZoneRecord) (d : List Byte) : Prop :=
  d.length = 17 ∧ Carries d 0 1 r.first.val ∧ Carries d 1 1 ((r.second.map Fin.val).getD 255) ∧
    CarriesFlags d 2 [r.boardGate, r.displayGate] ∧ Carries d 3 2 r.tstart ∧ Carries d 5 1 r.hyst ∧
    Carries d 6 2 r.soakTarget ∧ Carries d 8 2 r.thold ∧ Carries d 10 1 r.band ∧ Carries d 11 2 r.tcut ∧
    Carries d 13 2 r.tminAbs ∧ Carries d 15 1 r.watts ∧ Carries d 16 1 r.priority

/-- A channel entry (section 12.5). -/
abbrev ChannelLayout (c : Calibration) (d : List Byte) : Prop :=
  d.length = 4 ∧ Carries d 0 2 c.slope ∧ Carries d 2 2 c.offset

/-- A parameter value (section 12.5). -/
abbrev ParameterLayout (v : Int) (d : List Byte) : Prop := d.length = 4 ∧ Carries d 0 4 v

/-- An Injection Table entry (section 12.5). -/
abbrev InjectLayout (e : InjectEntry) (d : List Byte) : Prop :=
  CarriesFlags d 0 [e.enable] ∧ Carries d 1 1 e.cls.val ∧ Carries d 2 1 e.payload.length ∧ d.drop 3 = e.payload

/-- The payload of a class-2 frame (R175, section 12.7). -/
abbrev NoticeLayout (n : Notice) (d : List Byte) : Prop :=
  Carries d 0 1 (codeIn [.hello, .watchdogWarn, .thermalWarn, .thermalShutdown, .filterService, .keyStuck,
    .displayFault, .sequence] n.content.kind) ∧ Carries d 1 1 n.seq.toNat ∧
    match n.content with
    | .hello q c len src =>
      d.length = 7 ∧ Carries d 2 2 q.toNat ∧ Carries d 4 1 (codeIn codedCauses c) ∧ Carries d 5 1 len ∧
        Carries d 6 1 (codeIn [.store, .defaults] src)
    | .watchdogWarn m g early => d.length = 6 ∧ Carries d 2 1 m ∧ Carries d 3 1 g ∧ Carries d 4 2 early
    | .thermalWarn blind hot twarn =>
      d.length = 7 ∧ Carries d 2 1 (if blind then 1 else 0) ∧ Carries d 3 2 (orAbsent hot) ∧ Carries d 5 2 twarn
    | .thermalShutdown n => d.length = 3 ∧ Carries d 2 1 n
    | .filterService rise hot air => d.length = 8 ∧ Carries d 2 2 rise ∧ Carries d 4 2 hot ∧ Carries d 6 2 air
    | .keyStuck k c released =>
      d.length = 5 ∧ Carries d 2 1 k.val ∧ Carries d 3 1 c.toNat ∧ CarriesFlags d 4 [released]
    | .displayFault c n limit =>
      d.length = 5 ∧ Carries d 2 1 (codeIn [.silence, .retriesExhausted, .badFrames] c) ∧ Carries d 3 1 n ∧
        Carries d 4 1 limit
    | .sequence n => d.length = 3 ∧ Carries d 2 1 n.val

/-- The payload of a class-3 frame: the records, oldest first (R109, section 12.8). -/
abbrev KeysLayout (events : List KeyEvent) (d : List Byte) : Prop :=
  d.length = 4 * events.length ∧ ∀ (j : Nat) (e : KeyEvent), events[j]? = some e →
    Carries d (4 * j) 1 e.code.toNat ∧
      Carries d (4 * j + 1) 1 (codeIn [.press, .release, .autoRepeat, .stuckRelease] e.kind) ∧
      Carries d (4 * j + 2) 2 e.time.toNat

/-- The payload of a class-1 frame (sections 12.2 and 12.3). -/
abbrev ReplyLayout (r : Reply) (d : List Byte) : Prop :=
  Carries d 0 1 r.command.toNat ∧ Carries d 1 1 r.tag.toNat ∧
    Carries d 2 1 (codeIn [.ok, .clamped, .badCommand, .badTable, .badIndex, .badValue, .badLength, .busy, .refused]
      r.status) ∧ d.drop 3 = r.data ∧ 3 ≤ d.length

/-! ## Invariants -/

/-- The outputs are those of the state and phase: board power on in STARTING phases POWER_WAIT, SETTLE and BOOT_WAIT, in
RUNNING, RESTARTING and SHUTDOWN; board reset released in RUNNING and the two BOOT_WAIT phases, and in SHUTDOWN as it
was (R53). -/
abbrev PowerSeq.OutputsRight (p : PowerSeq) : Prop :=
  (p.boardPower = true ↔
    (p.state = .starting ∧ (p.phase = some .powerWait ∨ p.phase = some .settle ∨ p.phase = some .bootWait)) ∨
      p.state = .running ∨ p.state = .restarting ∨ p.state = .shutdown) ∧
    (p.state ≠ .shutdown → (p.resetAsserted = false ↔
      ((p.state = .starting ∨ p.state = .restarting) ∧ p.phase = some .bootWait) ∨ p.state = .running))

/-- The outputs are right, the reserve is held exactly from phase RESERVE on while board power is not off again, and no
reserve is in force while it is not held (R33, R34, R53, R55). -/
abbrev State.ReserveRight (s : State) : Prop :=
  s.power.OutputsRight ∧
    (s.heat.reserveHeld = true ↔ s.power.boardPower = true ∨
      (s.power.state = .starting ∧ s.power.phase = some .reserve)) ∧
    (s.heat.reserveHeld = false → s.heat.reserve = 0)

/-- The restart window list is never longer than the restart limit (R66), and the Restart Log holds at most 16 records
(R74). -/
abbrev State.ListsBounded (s : State) : Prop :=
  s.power.restartList.length ≤ s.params.restartLimit ∧ s.power.log.length ≤ 16

/-- The orderings that parameter writes keep (R3, R24, R78). -/
abbrev Params.Ordered (p : Params) : Prop :=
  p.firstIndex ≤ p.lastIndex ∧ p.boardReserve ≤ p.brownoutBudget ∧ p.brownoutBudget ≤ p.normalBudget ∧
    1 ≤ p.hbMax ∧ p.hbMax ≤ 255 ∧ p.hbMin < p.hbMax

/-- The priorities of the three zone records are a permutation of 0, 1 and 2 (R17). -/
abbrev PrioritiesPermuted (z : PerZone ZoneRecord) : Prop :=
  z.board.priority < 3 ∧ z.display.priority < 3 ∧ z.front.priority < 3 ∧ z.board.priority ≠ z.display.priority ∧
    z.board.priority ≠ z.front.priority ∧ z.display.priority ≠ z.front.priority

/-- The key event queue's event count plus the reported-down set's size never exceeds 32 (R108). -/
abbrev Keypad.RoomKept (k : Keypad) : Prop := k.queue.length + k.reportedDown.length ≤ 32

/-- The keypad's sets: a key in the reported-down set is DOWN, a key in the suppressed set is physically down, none is
in both, and the typematic key is in the reported-down set (R99, R100, R103 to R107, R110). -/
abbrev Keypad.SetsRight (k : Keypad) : Prop :=
  (∀ i ∈ k.reportedDown, k.keys[i].state = .down ∧ i ∉ k.suppressed) ∧
    (∀ i ∈ k.suppressed, k.keys[i].state.physicallyDown = true) ∧ (∀ x ∈ k.typematic, x.1 ∈ k.reportedDown)

/-- A slot that judges no press in the kept power state is clear (R115, R116). -/
abbrev State.SlotsRight (s : State) : Prop :=
  ∀ n : Fin 4, ¬ s.tables.sequences[n].JudgesIn s.matcher.kept → s.matcher.slots[n] = SlotProgress.clear

/-- At most one notice of each kind, and none outside RUNNING and SHUTDOWN (R176). -/
abbrev Mgmt.QueueRight (m : Mgmt) : Prop :=
  (m.queue.map (fun n => n.content.kind)).Nodup ∧ (m.kept.accepts = false → m.queue = [])

/-- At most 16 frames in the display queue, and at most one of each class whose coalesce flag is set (R160). -/
abbrev State.DisplayQueueRight (s : State) : Prop :=
  s.path.queue.length ≤ 16 ∧
    ∀ c : Fin 64, s.tables.coalesceOf c = true → (s.path.queue.filter (fun f => f.cls = c)).length ≤ 1

/-- The system port is live exactly while board power enable is on and board reset released, and while it is not live
its slot, its forwarded queue and its transmitter are empty; the forwarded queue holds at most 16 frames (R133,
R137). -/
abbrev State.LinkRight (s : State) : Prop :=
  s.sys.isLive = (s.power.boardPower && !s.power.resetAsserted) ∧ s.sys.fwd.length ≤ 16 ∧
    (s.sys.isLive = false → s.sys.slot = .empty ∧ s.sys.fwd = [] ∧ s.sys.tx = none)

/-- The display path is OFF exactly while board power is off, and display power is on exactly in STARTING, OPEN and
DIMMED (R154). -/
abbrev State.PathRight (s : State) : Prop :=
  (s.path.state = .off ↔ s.power.boardPower = false) ∧
    (s.path.power = true ↔ s.path.state = .starting ∨ s.path.state = .opened ∨ s.path.state = .dimmed)

/-- Every block's kept power state is the Power Sequencer's (R55). -/
abbrev State.KeptRight (s : State) : Prop :=
  s.heat.kept = s.power.state ∧ s.thermal.kept = s.power.state ∧ s.keypad.kept = s.power.state ∧
    s.matcher.kept = s.power.state ∧ s.mgmt.kept = s.power.state

/-- One zone's heater: the grant within the request, the active grant within the grant, the output following it, and
the accumulator in range and 0 while blind (R21, R28, R31, R32). -/
abbrev ZoneState.HeaterRight (slot : Fin 8) (z : ZoneState) : Prop :=
  z.active ≤ z.grant ∧ z.grant ≤ z.request ∧ z.output = decide (slot.val < z.active) ∧ z.soak ≤ 65535 ∧
    (z.blind = true → z.soak = 0)

/-- The power granted to the three zones, in eighth-watts (R28). -/
def Heat.granted (h : Heat) : Nat :=
  h.zones.board.grant * h.zones.board.inForce.watts + h.zones.display.grant * h.zones.display.inForce.watts
    + h.zones.front.grant * h.zones.front.inForce.watts

/-- The heaters: each zone's, and the sum of grant times power never above 8 (B − R) (R28). -/
abbrev Heat.Right (h : Heat) : Prop :=
  h.zones.board.HeaterRight h.slot ∧ h.zones.display.HeaterRight h.slot ∧ h.zones.front.HeaterRight h.slot ∧
    h.granted ≤ 8 * (h.budget - h.reserve)

/-- The liveness stage is the one the power state and phase set (R77); WARNED is entered from WATCHING (R85). -/
abbrev State.StageRight (s : State) : Prop :=
  s.live.stage = stageIn s.power.state s.power.phase ∨ (s.live.stage = .warned ∧ s.power.state = .running)

end Sys2Proof.Machine
end

