-- ==== Sys2Proof/Certificates/Slice0/Obligations.lean ====
section
/-! DEFINITION. The statements for the provers. -/

open Sys2Proof Sys2Proof.Machine

/-! ## The queue and the step -/

/-- A step runs the command at the front of the queue on the state with the queue's rest; with no command waiting one
millisecond passes, and nothing while the part is held (the idle step is the model's choice, log 1). -/
def Obligations.StepRunsTheFrontCommandOrTicks : Prop :=
  (∀ (c : Instr) (rest : List Instr) (s : State), s.pending = c :: rest →
    step s = exec c { s with pending := rest }) ∧
  ∀ s : State, s.pending = [] →
    (s.held = false → step s = .next { s with clockMs := s.clockMs + 1 }) ∧ (s.held = true → step s = .next s)

/-- Every command answers a next state in every state, and leaves the queue as it is: the manual describes no condition
that stops the part. A command whose event cannot arise has no effect: an expiry of a timer that does not run, or
outside the state or phase it belongs to (R55, R77), and a start or end where there is nothing to start or end; that
such a command may be sent at all, and then does nothing, is the model's choice (log 2). -/
def Obligations.EveryCommandAnswersAndKeepsTheQueue : Prop :=
  (∀ (c : Instr) (s : State), ∃ t, exec c s = .next t ∧ t.pending = s.pending) ∧
  ∀ s : State, s.Ready →
    let idle (c : Instr) : Prop := exec c s = .next s
    let inPhase (st : PowerState) (ph : Phase) : Prop := s.power.state = st ∧ s.power.phase = some ph
    idle .coldResetRelease ∧ (s.meas.next ≠ none → idle .cycleStart) ∧
    (s.meas.next = none → ∀ code, idle (.conversionComplete code)) ∧
    (s.power.state ≠ .preheat ∨ s.power.timer = none → idle .preheatLimitExpiry) ∧
    (¬inPhase .starting .powerWait ∨ s.power.timer = none → idle .powerGoodTimeout) ∧
    (¬inPhase .starting .settle ∨ s.power.timer = none → idle .settleExpiry) ∧
    (¬inPhase .restarting .pulse ∨ s.power.timer = none → idle .resetPulseExpiry) ∧
    (s.power.state ≠ .shutdown ∨ s.power.timer = none → idle .shutdownGraceExpiry) ∧
    (s.power.state ≠ .cycling ∨ s.power.timer = none → idle .offTimeExpiry) ∧
    (s.live.stage ≠ .bootWait ∨ s.live.outcome ≠ .pending ∨ s.live.bootTimer = none → idle .bootTimeout) ∧
    (s.live.stage ≠ .watching ∨ s.live.hbTimer = none → idle .heartbeatTimerExpiry) ∧
    (s.live.stage ≠ .warned ∨ s.live.graceTimer = none → idle .graceTimerExpiry) ∧
    (s.path.state ≠ .waitWarm ∨ s.path.waitTimer = none → idle .waitLimitExpiry) ∧
    (s.path.state ≠ .starting ∨ s.path.startTimer = none → idle .startTimerExpiry) ∧
    (s.path.state ≠ .recovering ∨ s.path.startTimer = none → idle .recoveryOffTimeExpiry) ∧
    ((s.path.state ≠ .opened ∧ s.path.state ≠ .dimmed) ∨ s.path.silenceTimer = none → idle .silenceTimerExpiry) ∧
    (s.path.state ≠ .opened ∨ s.path.idleTimer = none → idle .idleTimerExpiry) ∧
    (∀ n : Fin 4, (s.matcher.slots[n].stepTimer = none → idle (.stepTimerExpiry n)) ∧
      (s.matcher.slots[n].holdTimer = none → idle (.holdTimerExpiry n))) ∧
    (s.beeper.oneShot = none → idle .oneShotEnd) ∧ (s.beeper.background = none → idle .backgroundPeriodStart) ∧
    (s.beeper.oneShot = none → s.beeper.background = none → idle .beeperSegmentEnd) ∧
    (s.sys.tx = none → idle .systemFrameSent) ∧ (s.disp.tx = none → idle .displayFrameSent)

/-! ## Resets -/

/-- COLD_RESET: the part is held with board power, display power, the heaters and the beeper off and board reset
asserted, the reset polarity by the cause, a commit in progress stopped (R53, R38, R125, R167, R178), and every block at
its values after reset, those of State.reset; the queue, the input levels and the rest of the store stay. While it is
held every command but the two resets and the two input levels leaves it as it is: no cycle starts, no scan is made and
no character is judged (R2, R94, R139). That the other commands do nothing, and that the queue and the input levels
stay, is the model's choice (logs 2 and 4), and so are the values of State.reset that logs 4, 7 and 15 name: the tables
of a held part with the rates and the budget taken from them, the cycle's own values, each zone's record and the
heat-while-off flag in force, the receivers' DISCARD and the power-good polarity. -/
def Obligations.ColdResetHoldsThePart : Prop :=
  (∀ (cause : ColdCause) (s : State), ∃ t, exec (.coldReset cause) s = .next t ∧ t.held = true ∧
    t.power.boardPower = false ∧ t.power.resetAsserted = true ∧ t.path.power = false ∧ t.beeper.output = false ∧
    (∀ z, (t.heat.zones.get z).output = false ∧ (t.heat.zones.get z).grant = 0 ∧ (t.heat.zones.get z).blind = true) ∧
    (cause = .standbyArrives → t.power.resetPolarity = .activeLow) ∧
    (cause = .partResetInput → t.power.resetPolarity = s.power.resetPolarity) ∧
    t.power.state = .off ∧ t.power.restartList = [] ∧ t.power.log = [] ∧ t.sys.isLive = false ∧
    t.keypad.queue = [] ∧ t.mgmt.queue = [] ∧ t.mgmt.commit = .none ∧
    (s.mgmt.commit = .inProgress → t.store.accepted = false) ∧ (s.mgmt.commit ≠ .inProgress → t.store = s.store) ∧
    t = { State.reset with
          choices := s.choices, store := t.store, pending := s.pending
          power := { State.reset.power with
            pgLevel := s.power.pgLevel, resetPolarity := t.power.resetPolarity, pgPolarity := t.power.pgPolarity }
          sys := { State.reset.sys with hostReady := s.sys.hostReady } } ∧
    t.pending = s.pending ∧ t.power.pgLevel = s.power.pgLevel ∧ t.sys.hostReady = s.sys.hostReady) ∧
  ∀ (c : Instr) (s : State), s.held = true →
    (∀ cause, c ≠ .coldReset cause) → c ≠ .coldResetRelease → (∀ l, c ≠ .powerGoodChange l) →
    (∀ l, c ≠ .hostReadyChange l) → exec c s = .next s

/-- COLD_RESET_RELEASE: the image or the defaults supply the tables, the polarities are taken into use, the one
MAINS_RETURN record is made, the mains-return policy is followed and reported, and the first cycle starts (R2, R54, R56,
R177, R180). An image is accepted when its format version is 1, its CRC-16 is correct and every enumerated field holds a
known value; one that is not leaves every table at its built-in values; one that is supplies them, each numeric field at
its nearest limit (R177). How an image holds the tables, that its parameters of listed values are such fields, that one
of a length that no write stores is not accepted, and that its limits and zone priorities are those of writes in the
tables' order over the built-in values is the model's choice (log 5); that the first cycle starts here and the first
scan is left to the first SCAN command is too (logs 4 and 20), and so is that each zone's record in force and the
heat-while-off flag in force are the loaded ones until the first evaluation, and that the system receiver is in DISCARD
(log 7). -/
def Obligations.ColdResetReleaseStartsThePart : Prop :=
  (∀ i : StoreImage, i.accepted = true ↔ i.version = 1 ∧ i.crcOk = true ∧ i.unknownEnum = false ∧
    (∀ (n : Fin 53) (vs : List Int), acceptedValues (n.val + 1) = some vs → i.tables.params[n] ∈ vs) ∧
    (∀ n : Fin 4, i.tables.sequences[n].steps.length ≤ 10) ∧
    i.tables.dim.payload.length ≤ 16 ∧ i.tables.wake.payload.length ≤ 16) ∧
  ∀ s : State, s.held = true → ∃ t, exec .coldResetRelease s = .next t ∧ t.held = false ∧ t.clockMs = 0 ∧
    (s.store.accepted = false → t.tables = Tables.default ∧ t.mgmt.source = .defaults ∧
      t.mgmt.sticky = StickyFlag.profileDefaulted.mask) ∧
    (s.store.accepted = true → t.mgmt.source = .store ∧ t.mgmt.sticky = 0 ∧
      let i := s.store.tables
      (∀ c : Fin 56, t.tables.classes[c] = { i.classes[c] with
        minLength := min i.classes[c].minLength 48
        maxLength := max (min i.classes[c].maxLength 48) (min i.classes[c].minLength 48) }) ∧
      t.tables.keymap = i.keymap ∧
      (∀ n : Fin 4, t.tables.sequences[n] = { i.sequences[n] with hold := min i.sequences[n].hold 100 }) ∧
      (∀ z, t.tables.zones.get z = { (i.zones.get z).limited with priority := (t.tables.zones.get z).priority }) ∧
      PrioritiesPermuted t.tables.zones ∧
      (PrioritiesPermuted i.zones → ∀ z, (t.tables.zones.get z).priority = (i.zones.get z).priority) ∧
      (∀ ch : Fin 7, t.tables.channels[ch] =
        { slope := max (-8192) (min 8191 i.channels[ch].slope)
          offset := max (-2048) (min 2047 i.channels[ch].offset) }) ∧
      (t.tables.dim.enable = i.dim.enable ∧ t.tables.dim.payload = i.dim.payload ∧
        t.tables.dim.cls.val = max 8 (min 63 i.dim.cls)) ∧
      (t.tables.wake.enable = i.wake.enable ∧ t.tables.wake.payload = i.wake.payload ∧
        t.tables.wake.cls.val = max 8 (min 63 i.wake.cls)) ∧
      ∀ n : Fin 53,
        (∀ vs, acceptedValues (n.val + 1) = some vs → t.params.get (n.val + 1) = i.params[n]) ∧
        ∀ lo hi, t.params.limits (n.val + 1) = some (lo, hi) →
          t.params.get (n.val + 1) = max lo (min hi i.params[n])) ∧
    t.tables = s.store.load ∧ t.store = s.store ∧ t.choices = s.choices ∧
    (let r := State.reset
     t.thermal = { r.thermal with kept := t.power.state } ∧ t.keypad = { r.keypad with kept := t.power.state } ∧
     t.matcher = { r.matcher with kept := t.power.state } ∧ t.live = r.live ∧ t.beeper = r.beeper ∧
     t.switch = r.switch ∧ t.path = r.path ∧ t.disp = { r.disp with rate := t.params.displayRate } ∧
     t.sys = { r.sys with rate := t.params.systemRate, hostReady := s.sys.hostReady } ∧
     t.mgmt = { r.mgmt with kept := t.power.state, sticky := t.mgmt.sticky, source := t.mgmt.source } ∧
     t.heat = { r.heat with
      kept := t.power.state, budget := t.params.brownoutBudget, heatWhileOff := t.params.heatWhileOff
      zones := t.heat.zones } ∧
     (∀ z, t.heat.zones.get z = { r.heat.zones.get z with inForce := t.tables.zones.get z }) ∧
     t.meas.overrides = r.meas.overrides ∧ t.meas.changes = r.meas.changes ∧ t.meas.adcFault = false ∧
     t.meas.goodCount = 0 ∧
     ∀ ch : Fin 8, t.meas.samples[ch] =
      { r.meas.samples[ch] with
        state := if t.params.firstIndex ≤ ch ∧ ch ≤ t.params.lastIndex then .none else .stale }) ∧
    t.power.log = [{ seq := 0, uptime := 0, cause := .mainsReturn, stateLeft := .off, hot := none, slot := none,
                     listLen := 0 }] ∧
    t.power.nextSeq = 1 ∧ t.power.restartList = [] ∧ t.power.boardPower = false ∧ t.power.resetAsserted = true ∧
    t.power.resetPolarity = t.params.resetPolarity ∧ t.power.pgPolarity = t.params.powerGoodPolarity ∧
    (t.params.mainsPolicy = .start →
      t.power.state = .preheat ∧ t.power.timer = some { start := 0, dur := t.params.preheatLimit * 60000 }) ∧
    (t.params.mainsPolicy = .stayOff → t.power.state = .off ∧ t.power.timer = none) ∧
    t.KeptRight ∧ t.meas.next = some t.params.firstIndex ∧ t.meas.lastChannel = t.params.lastIndex ∧
    t.meas.period = t.params.cyclePeriod ∧ t.keypad.scans = 0 ∧ t.heat.slot = 0 ∧ t.sys.rate = t.params.systemRate ∧
    t.disp.rate = t.params.displayRate ∧ t.pending = s.pending

/-! ## Measurement -/

/-- CYCLE_START with no cycle in progress: the period and the range are taken, every pending change is applied, and
every channel outside the range is marked, channel 7 always STALE (R2, R4, R12); nothing but the Measurement Unit and
the clock changes. That the clock is moved to the event's moment is the model's choice (log 2). -/
def Obligations.CycleStartAppliesAndMarks : Prop :=
  ∀ s : State, s.Ready → s.meas.next = none → ∃ t, exec .cycleStart s = .next t ∧
    t = { s with clockMs := max s.clockMs (s.meas.cycleStart + s.meas.period), meas := t.meas } ∧
    t.meas.cycleStart = s.meas.cycleStart + s.meas.period ∧ t.meas.period = s.params.cyclePeriod ∧
    t.meas.lastChannel = s.params.lastIndex ∧ t.meas.next = some s.params.firstIndex ∧
    t.meas.adcFault = s.meas.adcFault ∧ t.meas.goodCount = s.meas.goodCount ∧
    t.meas.samples[7] =
      (if s.params.lastIndex.val = 7 then s.meas.samples[7] else { s.meas.samples[7] with state := .stale }) ∧
    ∀ ch : Fin 7,
      t.meas.changes[ch] = .none ∧
      (∀ v, s.meas.changes[ch] = .set v →
        t.meas.overrides[ch] = some v ∧
        t.meas.samples[ch.val] = { s.meas.samples[ch.val] with state := .forced, value := some v }) ∧
      (s.meas.changes[ch] = .release → s.meas.overrides[ch].isSome = true →
        t.meas.overrides[ch] = none ∧
        t.meas.samples[ch.val] =
          { raw := s.meas.samples[ch.val].raw, value := none, faults := 0
            state := if s.meas.adcFault then .fault
                     else if s.params.firstIndex.val ≤ ch.val ∧ ch.val ≤ s.params.lastIndex.val then .none
                     else .stale }) ∧
      (s.meas.changes[ch] = .none ∨ (s.meas.changes[ch] = .release ∧ s.meas.overrides[ch] = none) →
        t.meas.overrides[ch] = s.meas.overrides[ch] ∧
        t.meas.samples[ch.val] =
          (if s.meas.overrides[ch].isSome = true ∨
              (s.params.firstIndex.val ≤ ch.val ∧ ch.val ≤ s.params.lastIndex.val) then s.meas.samples[ch.val]
           else { s.meas.samples[ch.val] with state := if s.meas.adcFault then .fault else .stale }))

/-- CONVERSION_COMPLETE of a channel 0 to 6: the first case of R5 that applies (R5, R7, R8). Before the cycle's last
conversion the cycle goes to the next channel, and nothing but the record and the sticky flags changes; at the last the
record is updated in the same way, nothing else in the Measurement Unit changes but that the cycle is complete, and of
its three sticky flags the same is set (R14), where no soft reset is pending: a pending one, performed on this event
when its thermal shutdown discards the reply, rewrites the pending changes and clears the flags (R16, R135, R179). -/
def Obligations.ConversionUpdatesTheRecord : Prop :=
  ∀ (s : State) (ch : Fin 7) (code : BitVec 12), s.Ready → s.meas.next = some ch.castSucc →
    ∃ t r, exec (.conversionComplete code) s = .next t ∧
    (ch.val < s.meas.lastChannel.val →
      t = { s with meas := { s.meas with samples := s.meas.samples.set ch.val r, next := some ch.succ }
                   mgmt := { s.mgmt with sticky := t.mgmt.sticky } }) ∧
    (s.meas.lastChannel.val ≤ ch.val →
      t.meas = { s.meas with samples := s.meas.samples.set ch.val r, next := none, changes := t.meas.changes } ∧
      (s.mgmt.pendingSoft = false → t.meas.changes = s.meas.changes)) ∧
    r.raw = some code ∧
    let reports (o : Option StickyFlag) : Prop :=
      (ch.val < s.meas.lastChannel.val →
        t.mgmt.sticky = match o with | none => s.mgmt.sticky | some f => s.mgmt.withFlag f) ∧
      (s.meas.lastChannel.val ≤ ch.val → s.mgmt.pendingSoft = false →
        ∀ f ∈ [StickyFlag.sensorFault, .sampleClamped, .adcFault],
          t.mgmt.hasFlag f = (s.mgmt.hasFlag f || decide (o = some f)))
    (∀ v, s.meas.overrides[ch] = some v →
      r.state = .forced ∧ r.value = some v ∧ r.faults = s.meas.samples[ch.val].faults ∧ reports none) ∧
    (s.meas.overrides[ch] = none → s.meas.adcFault = true →
      r.state = .fault ∧ r.value = s.meas.samples[ch.val].value ∧ r.faults = s.meas.samples[ch.val].faults ∧
      reports none) ∧
    (s.meas.overrides[ch] = none → s.meas.adcFault = false → code.toNat < 16 ∨ 4079 < code.toNat →
      r.value = s.meas.samples[ch.val].value ∧ r.faults = min (s.meas.samples[ch.val].faults + 1) 255 ∧
      (r.value.isSome = true → r.faults < s.params.persistence → r.state = .suspect ∧ reports none) ∧
      (r.value = none ∨ s.params.persistence ≤ r.faults → r.state = .fault ∧ reports (some .sensorFault))) ∧
    (s.meas.overrides[ch] = none → s.meas.adcFault = false → 16 ≤ code.toNat → code.toNat ≤ 4079 →
      r.faults = 0 ∧
      r.value = some (max (if ch.val = 6 then 0 else -240) (min 600 (calibrate s.tables.channels[ch] code))) ∧
      (r.value = some (calibrate s.tables.channels[ch] code) → r.state = .valid ∧ reports none) ∧
      (r.value ≠ some (calibrate s.tables.channels[ch] code) →
        r.state = .clamped ∧ reports (some .sampleClamped)))

/-- The calibrated value is the offset plus the quotient of code times slope by 1024, rounded to the nearest integer and
a tie away from zero; with a negative slope it falls as the code rises; a conversion stores it within the channel's
range (R6). -/
def Obligations.CalibrationRoundsToNearest : Prop :=
  (∀ (c : Calibration) (code : BitVec 12), ∃ q : Int, calibrate c code = c.offset + q ∧
    (2 * (1024 * q - code.toNat * c.slope)).natAbs ≤ 1024 ∧
    ((2 * (1024 * q - code.toNat * c.slope)).natAbs = 1024 →
      (code.toNat * c.slope).natAbs < (1024 * q).natAbs)) ∧
  (∀ (c : Calibration) (low high : BitVec 12), c.slope < 0 → low.toNat ≤ high.toNat →
    calibrate c high ≤ calibrate c low) ∧
  ∀ (n : Nat) (c : Calibration) (lo hi : Int) (code : BitVec 12) (r : Sample), 16 ≤ code.toNat → code.toNat ≤ 4079 →
    (convertRecord n false none c (lo, hi) code r).value = some (max lo (min hi (calibrate c code)))

/-- A conversion of channel 7: its record, the good count and ADC_FAULT, and the records that become FAULT when it is
set (R10, R11). Setting ADC_FAULT sets its sticky flag; clearing it leaves the flag, and a conversion that does neither
leaves it too. -/
def Obligations.ReferenceSelfCheck : Prop :=
  ∀ (s : State) (code : BitVec 12), s.Ready → s.meas.next = some 7 → ∃ t,
    exec (.conversionComplete code) s = .next t ∧
    (s.mgmt.pendingSoft = false →
      (s.meas.adcFault = false → t.meas.adcFault = true → t.mgmt.hasFlag .adcFault = true) ∧
      (s.meas.adcFault = true ∨ t.meas.adcFault = false → t.mgmt.hasFlag .adcFault = s.mgmt.hasFlag .adcFault)) ∧
    t.meas.samples[7].raw = some code ∧ t.meas.samples[7].value = some (code.toNat : Int) ∧
    (1900 ≤ code.toNat ∧ code.toNat ≤ 2196 →
      t.meas.samples[7].state = .valid ∧ t.meas.samples[7].faults = 0 ∧
      t.meas.goodCount = min (s.meas.goodCount + 1) 255 ∧
      t.meas.adcFault = (s.meas.adcFault && !decide (s.params.persistence ≤ t.meas.goodCount)) ∧
      ∀ ch : Fin 7, t.meas.samples[ch.val] = s.meas.samples[ch.val]) ∧
    (code.toNat < 1900 ∨ 2196 < code.toNat →
      t.meas.samples[7].state = .fault ∧ t.meas.samples[7].faults = min (s.meas.samples[7].faults + 1) 255 ∧
      t.meas.goodCount = 0 ∧
      t.meas.adcFault = (s.meas.adcFault || decide (s.params.persistence ≤ t.meas.samples[7].faults)) ∧
      ∀ ch : Fin 7, t.meas.samples[ch.val] =
        (if s.meas.adcFault = false ∧ t.meas.adcFault = true ∧ s.meas.overrides[ch] = none
         then { s.meas.samples[ch.val] with state := .fault } else s.meas.samples[ch.val]))

/-! ## Heating -/

/-- The cycle's last conversion: each zone's record in force, blindness, cold and hot values, accumulator and duty
request (R18, R20, R21, R23), from the usable samples of its channels as they then stand (R13). Stages 4 and 5 follow:
the allocation from these requests is what stands afterwards, with its grants handed to the outputs (R19, R28, R32),
unless the power state changes on the event: the reserve request of PREHEAT allocates again with the reserve held (R33),
and a report of HOT_OFF leaves no grant (R30). -/
def Obligations.CycleCompleteEvaluatesTheZones : Prop :=
  ∀ (s : State) (ch : Fin 8) (code : BitVec 12), s.Quiet → s.meas.next = some ch →
    s.meas.lastChannel.val ≤ ch.val → ∃ t, exec (.conversionComplete code) s = .next t ∧ t.meas.next = none ∧
    (∀ z : ZoneId,
      let r := s.tables.zones.get z
      let before := s.heat.zones.get z
      let after := t.heat.zones.get z
      let seen := r.usableValues t.meas.samples
      after.inForce = r ∧ (after.blind = true ↔ seen = []) ∧ after.cold = seen.min? ∧ after.hot = seen.max? ∧
      (∀ c h, after.cold = some c → after.hot = some h →
        (r.tstart ≤ c → (after.soak : Int) = min 65535 (before.soak + min (c - r.tstart + 4) 40)) ∧
        (c < r.tstart → r.tstart - r.hyst ≤ c → after.soak = before.soak) ∧
        (c < r.tstart - r.hyst → after.soak = before.soak / 2) ∧
        (r.tcut ≤ h ∨ r.thold ≤ c → after.request = 0) ∧
        (h < r.tcut → c < r.thold → (after.request : Int) = min 8 ((r.thold - c + r.band - 1) / r.band))) ∧
      (after.blind = true → after.soak = 0 ∧ after.request = s.params.fallbackDuty)) ∧
    (s.KeptRight →
      let judged (z : ZoneId) : ZoneState :=
        { t.heat.zones.get z with
          grant := (s.heat.zones.get z).grant, active := (s.heat.zones.get z).active
          output := (s.heat.zones.get z).output }
      let allocated := Heat.allocate s.params { s.heat with
        heatWhileOff := s.params.heatWhileOff, supplyCut := t.heat.supplyCut, brownout := t.heat.brownout
        supplyCount := t.heat.supplyCount
        zones := { board := judged .board, display := judged .display, front := judged .front } }
      (t.power.state = s.power.state → t.heat = allocated) ∧
      (s.power.state = .running → t.power.state = .shutdown → t.heat = { allocated with kept := .shutdown }) ∧
      (s.power.state = .preheat → t.power.state = .starting →
        t.heat = Heat.allocate s.params { allocated with kept := .starting, reserveHeld := true }) ∧
      (s.power.state = .hotOff ∨ t.power.state = .hotOff → t.heat.NoGrants) ∧
      (s.power.state ≠ .preheat → t.heat.budget = allocated.budget ∧ t.heat.a8 = allocated.a8))

/-- The cycle's last conversion: the supply cut, the brownout condition and its count, and the BROWNOUT flag at each
change of the condition (R25, R26), from the supply sample while it is usable (R13). -/
def Obligations.CycleCompleteJudgesTheSupply : Prop :=
  ∀ (s : State) (ch : Fin 8) (code : BitVec 12), s.Quiet → s.meas.next = some ch →
    s.meas.lastChannel.val ≤ ch.val → ∃ t, exec (.conversionComplete code) s = .next t ∧
    (t.meas.samples[6].usableValue = none →
      t.heat.supplyCut = false ∧ t.heat.brownout = true ∧ t.heat.supplyCount = 0) ∧
    (∀ v, t.meas.samples[6].usableValue = some v →
      t.heat.supplyCut = decide (v < s.params.supplyCutLimit) ∧
      (s.heat.brownout = false → (s.params.supplyLowLimit : Int) ≤ v →
        t.heat.brownout = false ∧ t.heat.supplyCount = 0) ∧
      (s.heat.brownout = false → v < s.params.supplyLowLimit →
        (s.params.persistence ≤ min (s.heat.supplyCount + 1) 255 →
          t.heat.brownout = true ∧ t.heat.supplyCount = 0) ∧
        (min (s.heat.supplyCount + 1) 255 < s.params.persistence →
          t.heat.brownout = false ∧ t.heat.supplyCount = min (s.heat.supplyCount + 1) 255)) ∧
      (s.heat.brownout = true → (s.params.supplyLowLimit : Int) + s.params.supplyHysteresis ≤ v →
        (s.params.persistence ≤ min (s.heat.supplyCount + 1) 255 →
          t.heat.brownout = false ∧ t.heat.supplyCount = 0) ∧
        (min (s.heat.supplyCount + 1) 255 < s.params.persistence →
          t.heat.brownout = true ∧ t.heat.supplyCount = min (s.heat.supplyCount + 1) 255)) ∧
      (s.heat.brownout = true → v < (s.params.supplyLowLimit : Int) + s.params.supplyHysteresis →
        t.heat.brownout = true ∧ t.heat.supplyCount = 0)) ∧
    (t.heat.brownout ≠ s.heat.brownout → t.mgmt.hasFlag .brownout = true)

/-- HEATER_SLOT_START: the next of the eight slots, 250 ms after the one before, the active grants taken at slot 0, and
each output on while the slot is below its active grant; nothing else changes but the clock. While the part is held
every output is off, and it leaves cold reset at slot 0 with every active grant 0 (R31). Where the clock stands is not
stated. -/
def Obligations.HeaterSlotSwitchesTheOutputs : Prop :=
  (∀ s : State, s.Ready → ∃ t, exec .heaterSlotStart s = .next t ∧
    t = { s with clockMs := t.clockMs
                 heat := { s.heat with slot := s.heat.slot + 1, slotStart := s.heat.slotStart + 250
                                       zones := t.heat.zones } } ∧
    ∀ z : ZoneId,
      t.heat.zones.get z =
        { s.heat.zones.get z with
          active := (t.heat.zones.get z).active, output := decide (t.heat.slot.val < (t.heat.zones.get z).active) } ∧
      (t.heat.zones.get z).active =
        (if t.heat.slot = 0 then (s.heat.zones.get z).grant else (s.heat.zones.get z).active)) ∧
  (∀ (cause : ColdCause) (s : State), ∃ t, exec (.coldReset cause) s = .next t ∧ t.held = true ∧
    ∀ z, (t.heat.zones.get z).output = false) ∧
  (∀ (c : Instr) (s : State), s.held = true → (∀ z, (s.heat.zones.get z).output = false) → c ≠ .coldResetRelease →
    ∃ t, exec c s = .next t ∧ t.held = true ∧ ∀ z, (t.heat.zones.get z).output = false) ∧
  ∀ s : State, s.held = true → ∃ t, exec .coldResetRelease s = .next t ∧ t.heat.slot = 0 ∧ t.heat.slotStart = 0 ∧
    ∀ z, (t.heat.zones.get z).active = 0 ∧ (t.heat.zones.get z).output = false

/-- An allocation fixes the budget and the reserve in force (R27); serves the zones in ascending priority, each share
the smaller of the zone's request and the whole eighths that the power left pays for, A8 being the power left after the
third (R28); and forces a grant to 0 under a supply cut, in HOT_OFF, in OFF without heat-while-off, and at or above the
zone's cut-off, passing what that frees to no other zone (R29). Each grant is handed to its output: a lower one becomes
the active grant at once and switches the output off from its slot on, and any other leaves both (R32). A reserve
release clears the reserve at once and leaves the grants and A8, which stay within what the greater budget allows; a
release while the reserve is not held changes nothing; the next evaluation allocates with no reserve (R34). -/
def Obligations.AllocationSharesTheBudget : Prop :=
  (∀ (p : Params) (h : Heat), PrioritiesPermuted (h.zones.map ZoneState.inForce) →
    let a := h.allocate p
    let rank (z : ZoneId) : Nat := (h.zones.get z).inForce.priority
    let power (z : ZoneId) : Nat := (h.zones.get z).inForce.watts
    let forced (z : ZoneId) : Prop :=
      h.supplyCut = true ∨ h.kept = .hotOff ∨ (h.kept = .off ∧ h.heatWhileOff = false) ∨
        ((h.zones.get z).blind = false ∧ ∃ x, (h.zones.get z).hot = some x ∧ (h.zones.get z).inForce.tcut ≤ x)
    a.budget = (if h.brownout then p.brownoutBudget else p.normalBudget) ∧
    a.reserve = (if h.reserveHeld then p.boardReserve else 0) ∧
    (∃ share : ZoneId → Nat,
      (∀ z, share z = min (h.zones.get z).request
        ((8 * (a.budget - a.reserve)
          - ((ZoneId.all.filter (fun o => decide (rank o < rank z))).map (fun o => share o * power o)).sum) / power z)) ∧
      a.a8 + (ZoneId.all.map (fun o => share o * power o)).sum = 8 * (a.budget - a.reserve) ∧
      ∀ z, (forced z → (a.zones.get z).grant = 0) ∧ (¬forced z → (a.zones.get z).grant = share z)) ∧
    ((∀ z, ¬forced z) → a.granted + a.a8 = 8 * (a.budget - a.reserve)) ∧
    a = { h with budget := a.budget, reserve := a.reserve, a8 := a.a8, zones := a.zones } ∧
    ∀ z,
      let g := (a.zones.get z).grant
      g ≤ (h.zones.get z).request ∧
      a.zones.get z =
        { h.zones.get z with
          grant := g, active := min g (h.zones.get z).active
          output := (h.zones.get z).output && decide (g < (h.zones.get z).active → h.slot.val < g) }) ∧
  ∀ h : Heat,
    (h.reserveHeld = true → h.reserveRelease = { h with reserveHeld := false, reserve := 0 }) ∧
    (h.reserveHeld = false → h.reserveRelease = h) ∧
    (h.granted ≤ 8 * (h.budget - h.reserve) →
      h.reserveRelease.granted ≤ 8 * (h.reserveRelease.budget - h.reserveRelease.reserve)) ∧
    ∀ (t : Tables) (samples : Vector Sample 8), (h.reserveRelease.evaluate t samples).reserve = 0

/-! ## Thermal limits -/

/-- The Thermal Limit Monitor after the cycle's last conversion: warn with its flag and its notice (R43, R44), the
shutdown count (R45), heat-dim (R47), the blind-board warning (R48), and in RUNNING the rise and filter-service with its
notice (R49, R50), the air value being that of the air sample while it is usable (R13). -/
def Obligations.CycleCompleteJudgesTheLimits : Prop :=
  ∀ (s : State) (ch : Fin 8) (code : BitVec 12), s.Quiet → s.KeptRight → s.meas.next = some ch →
    s.meas.lastChannel.val ≤ ch.val → ∃ t, exec (.conversionComplete code) s = .next t ∧
    t.thermal.air = t.meas.samples[5].usableValue ∧
    (t.heat.zones.board.hot = none →
      t.thermal.warn = s.thermal.warn ∧ t.thermal.warnCount = 0 ∧ t.thermal.shutdownCount = 0) ∧
    (∀ h, t.heat.zones.board.hot = some h →
      let reached := s.params.persistence ≤ min (s.thermal.warnCount + 1) 255
      t.thermal.shutdownCount =
        (if s.params.tshut ≤ h then min (s.thermal.shutdownCount + 1) 255 else 0) ∧
      (s.thermal.warn = false → s.params.twarn ≤ h → reached → t.thermal.warn = true ∧ t.thermal.warnCount = 0 ∧
        (s.mgmt.kept = .running ∨ s.mgmt.kept = .shutdown → t.mgmt.kept = .running ∨ t.mgmt.kept = .shutdown →
          ∃ n ∈ t.mgmt.queue, n.content = .thermalWarn false (some h) s.params.twarn)) ∧
      (s.thermal.warn = false → s.params.twarn ≤ h → ¬reached →
        t.thermal.warn = false ∧ t.thermal.warnCount = min (s.thermal.warnCount + 1) 255) ∧
      (s.thermal.warn = false → h < s.params.twarn → t.thermal.warn = false ∧ t.thermal.warnCount = 0) ∧
      (s.thermal.warn = true → h ≤ s.params.twarn - s.params.thys → reached →
        t.thermal.warn = false ∧ t.thermal.warnCount = 0) ∧
      (s.thermal.warn = true → h ≤ s.params.twarn - s.params.thys → ¬reached →
        t.thermal.warn = true ∧ t.thermal.warnCount = min (s.thermal.warnCount + 1) 255) ∧
      (s.thermal.warn = true → s.params.twarn - s.params.thys < h →
        t.thermal.warn = true ∧ t.thermal.warnCount = 0) ∧
      (t.thermal.warn = true → s.params.twarn ≤ h → t.mgmt.hasFlag .thermalWarn = true)) ∧
    (t.heat.zones.display.hot = none → t.thermal.heatDim = s.thermal.heatDim ∧ t.thermal.dimCount = 0) ∧
    (∀ h, t.heat.zones.display.hot = some h →
      let reached := s.params.persistence ≤ min (s.thermal.dimCount + 1) 255
      (s.thermal.heatDim = false → s.params.tdim ≤ h → reached →
        t.thermal.heatDim = true ∧ t.thermal.dimCount = 0) ∧
      (s.thermal.heatDim = false → s.params.tdim ≤ h → ¬reached →
        t.thermal.heatDim = false ∧ t.thermal.dimCount = min (s.thermal.dimCount + 1) 255) ∧
      (s.thermal.heatDim = false → h < s.params.tdim → t.thermal.heatDim = false ∧ t.thermal.dimCount = 0) ∧
      (s.thermal.heatDim = true → h ≤ s.params.tdim - 20 → reached →
        t.thermal.heatDim = false ∧ t.thermal.dimCount = 0) ∧
      (s.thermal.heatDim = true → h ≤ s.params.tdim - 20 → ¬reached →
        t.thermal.heatDim = true ∧ t.thermal.dimCount = min (s.thermal.dimCount + 1) 255) ∧
      (s.thermal.heatDim = true → s.params.tdim - 20 < h → t.thermal.heatDim = true ∧ t.thermal.dimCount = 0)) ∧
    (t.heat.zones.board.blind = false → t.thermal.blindGiven = false) ∧
    (t.heat.zones.board.blind = true →
      (s.thermal.blindGiven = true → t.thermal.blindGiven = true) ∧
      (s.thermal.blindGiven = false → s.thermal.kept ≠ .running → s.thermal.kept ≠ .shutdown →
        t.thermal.blindGiven = false) ∧
      (s.thermal.blindGiven = false → s.thermal.kept = .running ∨ s.thermal.kept = .shutdown →
        0 < s.params.persistence →
        t.thermal.blindGiven = true ∧
        t.mgmt.queue = (s.mgmt.post (.thermalWarn true none s.params.twarn)).queue ∧
        t.mgmt.counter = s.mgmt.counter + 1)) ∧
    (s.thermal.kept ≠ .running →
      t.thermal.filterService = s.thermal.filterService ∧ t.thermal.filterCount = s.thermal.filterCount) ∧
    (s.thermal.kept = .running → t.thermal.kept = .running →
      (t.heat.zones.board.hot = none ∨ t.thermal.air = none →
        t.thermal.filterService = s.thermal.filterService ∧ t.thermal.filterCount = 0) ∧
      ∀ h a, t.heat.zones.board.hot = some h → t.thermal.air = some a →
        let count := min (s.thermal.filterCount + 1) 65535
        (s.thermal.filterService = false → h - a ≤ s.params.riseLimit →
          t.thermal.filterService = false ∧ t.thermal.filterCount = 0) ∧
        (s.thermal.filterService = false → s.params.riseLimit < h - a → count < s.params.riseCount →
          t.thermal.filterService = false ∧ t.thermal.filterCount = count) ∧
        (s.thermal.filterService = false → s.params.riseLimit < h - a → s.params.riseCount ≤ count →
          t.thermal.filterService = true ∧ t.thermal.filterCount = 0 ∧
          (s.mgmt.kept = .running → t.mgmt.kept = .running →
            ∃ n ∈ t.mgmt.queue, n.content = .filterService (h - a) h a)) ∧
        (s.thermal.filterService = true → (s.params.riseLimit : Int) - s.params.riseHysteresis < h - a →
          t.thermal.filterService = true ∧ t.thermal.filterCount = 0) ∧
        (s.thermal.filterService = true → h - a ≤ (s.params.riseLimit : Int) - s.params.riseHysteresis →
          (count < s.params.riseCount → t.thermal.filterService = true ∧ t.thermal.filterCount = count) ∧
          (s.params.riseCount ≤ count → t.thermal.filterService = false ∧ t.thermal.filterCount = 0)))

/-- What the zones report, at the event and between events: blindness, cold and hot values, the gates and Tmin_abs of
the record in force, and warm by the target as written (R22, R36). "Zones evaluated" at the cycle's last conversion,
with no shutdown request on it: in PREHEAT, STARTING phase RESERVE is entered and the reserve requested when every
board-gate zone is warm, budget, grants and A8 then being those of an allocation from the zones' requests with the
reserve held (R57, R59, R33); outside PREHEAT and HOT_OFF, a display path in WAIT_WARM enters STARTING when every
display-gate zone is warm (R155, R156), and heat-dim turning on dims an OPEN one (R164). In every power state and path
state, and on a shutdown request too, heat-dim turning on or off sets and clears the path's copy, and nothing else of a
path that is OFF with the board in PREHEAT or HOT_OFF (R47, R164). -/
def Obligations.ZonesEvaluatedMoveTheStates : Prop :=
  (∀ (s : State) (z : ZoneId),
    let x := s.heat.zones.get z
    s.zoneReports.get z =
      { blind := x.blind, cold := x.cold, hot := x.hot, warm := x.isWarm (s.tables.zones.get z).soakTarget
        boardGate := x.inForce.boardGate, displayGate := x.inForce.displayGate, tminAbs := x.inForce.tminAbs }) ∧
  ∀ (s : State) (ch : Fin 8) (code : BitVec 12), s.Quiet → s.KeptRight → s.meas.next = some ch →
    s.meas.lastChannel.val ≤ ch.val → ∃ t, exec (.conversionComplete code) s = .next t ∧
    let dim := if t.thermal.heatDim = s.thermal.heatDim then s.path.heatDim else t.thermal.heatDim
    t.path.heatDim = dim ∧
    (s.power.state = .preheat ∨ s.power.state = .hotOff → s.power.boardPower = false → s.path.state = .off →
      t.path = { s.path with heatDim := dim } ∧ t.disp.tx = s.disp.tx ∧ t.switch = s.switch) ∧
    (t.thermal.shutdownCount < s.params.persistence →
      let boardWarm := ∀ z, (t.zoneReports.get z).boardGate = true → (t.zoneReports.get z).warm = true
      let displayWarm := ∀ z, (t.zoneReports.get z).displayGate = true → (t.zoneReports.get z).warm = true
      (s.power.state = .preheat →
        (boardWarm → t.heat.reserveHeld = true ∧ t.heat.reserve = s.params.boardReserve ∧
          Heat.allocate s.params t.heat = t.heat ∧
          t.power =
            { s.power with
              state := .starting, phase := some .reserve, dest := none, timer := none, boardPower := false
              resetAsserted := true, pgSeen := false }) ∧
        (¬boardWarm → t.power = s.power ∧ t.heat.reserveHeld = s.heat.reserveHeld)) ∧
      (s.power.state ≠ .preheat → s.power.state ≠ .hotOff → t.power = s.power ∧
        (s.path.state = .waitWarm →
          (displayWarm → t.path = { s.path.started s.params s.clockMs with heatDim := dim }) ∧
          (¬displayWarm → t.path = { s.path with heatDim := dim })) ∧
        (s.path.state = .opened → s.thermal.heatDim = false → t.thermal.heatDim = true →
          let u := State.dims { s with path := { s.path with heatDim := true } }
          t.path = u.path ∧ t.disp = u.disp ∧ t.switch = u.switch) ∧
        (s.path.state ≠ .waitWarm →
          s.path.state ≠ .opened ∨ s.thermal.heatDim = true ∨ t.thermal.heatDim = false →
          t.path = { s.path with heatDim := dim } ∧ t.disp = s.disp ∧ t.switch = s.switch)))

/-- The monitor's requests at the cycle's last conversion. A shutdown request enters SHUTDOWN bound for HOT_OFF with its
record and notice in RUNNING, HOT_OFF at once where there is no grace, and changes nothing in SHUTDOWN, HOT_OFF and
SERVICE_HOLD (R45, R67, R68); every grant is 0 in HOT_OFF (R29, R30). In HOT_OFF the resume count and, at N, the resume,
to PREHEAT or OFF with its record (R46, R72). PREHEAT with every board-gate zone warm on the same event is left out:
either recipient may be first (R42; log 6). That a shutdown request of the same event comes before the resume, so that
the resume stands, is the model's reading (log 9). -/
def Obligations.ThermalRequestsActByState : Prop :=
  ∀ (s : State) (ch : Fin 8) (code : BitVec 12), s.Quiet → s.KeptRight → s.meas.next = some ch →
    s.meas.lastChannel.val ≤ ch.val → ∃ t, exec (.conversionComplete code) s = .next t ∧
    let hot := t.heat.zones.board.hot
    let made (c : Cause) : PowerSeq :=
      s.power.logged (s.power.newRecord s.clockMs hot c none s.power.restartList.length)
    (t.power.state = .hotOff → ∀ z, (t.heat.zones.get z).grant = 0) ∧
    (s.params.persistence ≤ t.thermal.shutdownCount →
      (s.power.state = .running → s.params.shutdownGrace ≠ 0 →
        t.power =
          { made .thermal with
            state := .shutdown, phase := none, dest := some .hotOff, boardPower := true
            timer := some { start := s.clockMs, dur := s.params.shutdownGrace * 1000 } } ∧
        ∃ n ∈ t.mgmt.queue, n.content = .thermalShutdown s.params.shutdownGrace) ∧
      ((s.power.state = .running ∧ s.params.shutdownGrace = 0) ∨ s.power.state = .starting ∨
          s.power.state = .restarting ∨ s.power.state = .off ∨ s.power.state = .cycling ∨
          (s.power.state = .preheat ∧
            ∃ z, (t.zoneReports.get z).boardGate = true ∧ (t.zoneReports.get z).warm = false) →
        t.power = (made .thermal).boardOff .hotOff none) ∧
      (s.power.state = .shutdown ∨ s.power.state = .serviceHold → t.power = s.power)) ∧
    (s.power.state = .hotOff →
      (∀ h, hot = some h → h ≤ s.params.tresume →
        (s.params.persistence ≤ min (s.thermal.resumeCount + 1) 255 →
          t.power = (made .thermalResume).boardOff (if s.params.autoResume then .preheat else .off)
            (if s.params.autoResume then some { start := s.clockMs, dur := s.params.preheatLimit * 60000 }
              else none)) ∧
        (min (s.thermal.resumeCount + 1) 255 < s.params.persistence →
          t.power = s.power ∧ t.thermal.resumeCount = min (s.thermal.resumeCount + 1) 255)) ∧
      (hot = none ∨ (∃ h, hot = some h ∧ s.params.tresume < h) → 0 < s.params.persistence →
        t.power = s.power ∧ t.thermal.resumeCount = 0))

/-! ## Power -/

/-- RESERVE_GRANTED in RESERVE: board power turns on and the display path starts waiting, POWER_WAIT is entered, and
with power-good already true SETTLE at once, or with a settle delay of 0 BOOT_WAIT (R59, R60, R61, R154). In any other
state or phase it has no effect (R59). -/
def Obligations.ReserveGrantedTurnsBoardPowerOn : Prop :=
  (∀ s : State, s.Ready → s.power.state ≠ .starting ∨ s.power.phase ≠ some .reserve →
    exec .reserveGranted s = .next s) ∧
  ∀ s : State, s.Quiet → s.power.state = .starting → s.power.phase = some .reserve →
    ∃ t, exec .reserveGranted s = .next t ∧ s.SameOutsidePower t ∧ t.clockMs = s.clockMs ∧
    t.power =
      { s.power with
        phase := some (if s.power.good then (if s.params.settleDelay = 0 then .bootWait else .settle) else .powerWait)
        dest := none
        timer :=
          if s.power.good then
            (if s.params.settleDelay = 0 then none else some { start := s.clockMs, dur := s.params.settleDelay })
          else some { start := s.clockMs, dur := s.params.powerGoodLimit }
        pgSeen := s.power.pgSeen || s.power.good
        boardPower := true
        resetAsserted := !(s.power.good && decide (s.params.settleDelay = 0)) } ∧
    (s.power.boardPower = false → t.path.state = .waitWarm ∧ t.path.retry = 0 ∧
      t.path.waitTimer = some { start := s.clockMs, dur := s.params.waitLimit * 60000 })

/-- PREHEAT_LIMIT_EXPIRY: with every board-gate zone warm or acceptable the reserve is requested, a DEGRADED_START
record being made unless all are warm, and the heaters are those of an allocation with the reserve held from the latest
evaluation's requests; otherwise the limit runs again (R58, R59, R33). That the clock is moved to the event's moment is
the model's choice (log 2). -/
def Obligations.PreheatLimitDecides : Prop :=
  ∀ (s : State) (tm : Timer), s.Quiet → s.power.state = .preheat → s.power.timer = some tm →
    let now := max s.clockMs (tm.start + tm.dur)
    ((∀ z, (s.zoneReports.get z).boardGate = true → (s.zoneReports.get z).warm = true ∨
        (s.zoneReports.get z).blind = true ∨
        ∃ c, (s.zoneReports.get z).cold = some c ∧ (s.zoneReports.get z).tminAbs ≤ c) →
      ∃ t, exec .preheatLimitExpiry s = .next t ∧ s.SameOutsidePower t ∧ t.clockMs = now ∧
        t.heat = Heat.allocate s.params { s.heat with kept := .starting, reserveHeld := true } ∧
        t.heat.reserveHeld = true ∧ t.heat.reserve = s.params.boardReserve ∧
        t.power =
          { (if ∀ z ∈ ZoneId.all, (s.zoneReports.get z).boardGate = true → (s.zoneReports.get z).warm = true
              then s.power
              else s.power.logged (s.power.newRecord now s.heat.zones.board.hot .degradedStart none
                s.power.restartList.length)) with
            state := .starting, phase := some .reserve, dest := none, timer := none, boardPower := false
            resetAsserted := true, pgSeen := false }) ∧
    (∀ z, (s.zoneReports.get z).boardGate = true → (s.zoneReports.get z).warm = false →
      (s.zoneReports.get z).blind = false →
      (∀ c, (s.zoneReports.get z).cold = some c → c < (s.zoneReports.get z).tminAbs) →
      exec .preheatLimitExpiry s = .next { s with
        clockMs := now
        power := { s.power with timer := some { start := now, dur := s.params.preheatLimit * 60000 } } })

/-- POWER_GOOD_CHANGE to good in POWER_WAIT: power-good seen, and SETTLE, or BOOT_WAIT with a settle delay of 0 (R54,
R60, R61). To not good after it was seen: an automatic restart with cause POWER_LOST in SETTLE, BOOT_WAIT, RUNNING and
RESTARTING, the destination at once in SHUTDOWN (R64, R65, R68). Any other change, and any change while the part is
held, is only a new level (R54). The input is read and the reset output driven through the polarities in use (R53, R54).
-/
def Obligations.PowerGoodActsByState : Prop :=
  (∀ p : PowerSeq,
    (p.good = true ↔
      (p.pgPolarity = .activeHigh ∧ p.pgLevel = true) ∨ (p.pgPolarity = .activeLow ∧ p.pgLevel = false)) ∧
    (p.resetLevel = true ↔ (p.resetPolarity = .activeHigh ∧ p.resetAsserted = true) ∨
      (p.resetPolarity = .activeLow ∧ p.resetAsserted = false))) ∧
  (∀ (s : State) (high : Bool), s.Quiet → s.power.state = .starting → s.power.phase = some .powerWait →
    s.power.good = false → ({ s.power with pgLevel := high } : PowerSeq).good = true →
    ∃ t, exec (.powerGoodChange high) s = .next t ∧ s.SameOutsidePower t ∧ t.clockMs = s.clockMs ∧
      t.power =
        { s.power with
          phase := some (if s.params.settleDelay = 0 then .bootWait else .settle)
          dest := none
          timer :=
            if s.params.settleDelay = 0 then none else some { start := s.clockMs, dur := s.params.settleDelay }
          pgSeen := true, pgLevel := high, boardPower := true
          resetAsserted := decide (s.params.settleDelay ≠ 0) }) ∧
  ∀ (s : State) (high : Bool),
    let q := { s.power with pgLevel := high }
    (s.Quiet → s.power.good = true → q.good = false → s.power.pgSeen = true →
      (s.power.state = .running ∨ s.power.state = .restarting ∨
        (s.power.state = .starting ∧ (s.power.phase = some .settle ∨ s.power.phase = some .bootWait)) →
        ∃ t, exec (.powerGoodChange high) s = .next t ∧ s.SameOutsidePower t ∧ t.clockMs = s.clockMs ∧
          t.power = q.afterRestart s.params s.clockMs s.heat.zones.board.hot .powerLost) ∧
      (s.power.state = .shutdown → ∃ t, exec (.powerGoodChange high) s = .next t ∧ s.SameOutsidePower t ∧
        t.clockMs = s.clockMs ∧
        t.power = q.boardOff (if s.power.dest = some .off then .off else .hotOff) none)) ∧
    (s.Ready →
      (q.good = s.power.good ∨
        (q.good = true ∧ ¬(s.power.state = .starting ∧ s.power.phase = some .powerWait)) ∨
        (q.good = false ∧ s.power.pgSeen = false)) →
      exec (.powerGoodChange high) s = .next { s with power := q }) ∧
    (s.held = true → exec (.powerGoodChange high) s = .next { s with power := q })

/-- POWER_GOOD_TIMEOUT in POWER_WAIT, BOOT_TIMEOUT in BOOT_WAIT and GRACE_TIMER_EXPIRY in WARNED: each an automatic
restart with its cause, or SERVICE_HOLD at the restart limit (R60, R62, R65, R66, R81, R87). That the clock is moved to
the event's moment is the model's choice (log 2). -/
def Obligations.AutomaticCausesRestartOrHold : Prop :=
  ∀ (s : State) (tm : Timer), s.Quiet →
    let now := max s.clockMs (tm.start + tm.dur)
    (s.power.state = .starting → s.power.phase = some .powerWait → s.power.timer = some tm →
      ∃ t, exec .powerGoodTimeout s = .next t ∧ s.SameOutsidePower t ∧ t.clockMs = now ∧
        t.power = s.power.afterRestart s.params now s.heat.zones.board.hot .powerGoodTimeout) ∧
    (s.live.stage = .bootWait → s.live.outcome = .pending → s.live.bootTimer = some tm →
      s.power.phase = some .bootWait → s.power.state = .starting ∨ s.power.state = .restarting →
      ∃ t, exec .bootTimeout s = .next t ∧ s.SameOutsidePower t ∧ t.clockMs = now ∧
        t.live.outcome = .timedOut ∧ t.live.bootTimer = none ∧
        t.power = s.power.afterRestart s.params now s.heat.zones.board.hot .bootTimeout) ∧
    (s.live.stage = .warned → s.live.graceTimer = some tm → s.power.state = .running →
      ∃ t, exec .graceTimerExpiry s = .next t ∧ s.SameOutsidePower t ∧ t.clockMs = now ∧
        t.live.graceTimer = none ∧
        t.power = s.power.afterRestart s.params now s.heat.zones.board.hot .watchdog)

/-- SETTLE_EXPIRY and RESET_PULSE_EXPIRY: board reset is released and BOOT_WAIT entered, the boot timer starts and the
system port is live (R61, R62, R63, R77, R133). SHUTDOWN_GRACE_EXPIRY enters the destination and OFF_TIME_EXPIRY enters
PREHEAT, with no record; the board stays or becomes off (R57, R68, R71). That the clock is moved to the event's moment
is the model's choice (log 2). -/
def Obligations.TimedPhasesEnd : Prop :=
  (∀ (s : State) (tm : Timer), s.Quiet → s.power.timer = some tm →
    let now := max s.clockMs (tm.start + tm.dur)
    ∀ c : Instr,
      (c = .settleExpiry ∧ s.power.state = .starting ∧ s.power.phase = some .settle) ∨
        (c = .resetPulseExpiry ∧ s.power.state = .restarting ∧ s.power.phase = some .pulse) →
      ∃ t, exec c s = .next t ∧ s.SameOutsidePower t ∧ t.clockMs = now ∧
        t.power =
          { s.power with
            phase := some .bootWait, dest := none, timer := none, boardPower := true, resetAsserted := false } ∧
        t.live =
          { s.live with
            stage := .bootWait, outcome := .pending, last := none, hbTimer := none, graceTimer := none
            bootTimer := some { start := now, dur := s.params.bootLimit * 1000 } } ∧
        t.sys.isLive = true) ∧
  ∀ (s : State) (tm : Timer), s.Quiet → s.power.timer = some tm →
    let now := max s.clockMs (tm.start + tm.dur)
    (s.power.state = .shutdown →
      ∃ t, exec .shutdownGraceExpiry s = .next t ∧ s.SameOutsidePower t ∧ t.clockMs = now ∧
        t.power = s.power.boardOff (if s.power.dest = some .off then .off else .hotOff) none ∧
        (s.power.boardPower = true → t.path.state = .off ∧ t.path.power = false ∧ t.path.queue = [])) ∧
    (s.power.state = .cycling →
      ∃ t, exec .offTimeExpiry s = .next t ∧ s.SameOutsidePower t ∧ t.clockMs = now ∧
        t.power = s.power.boardOff .preheat (some { start := now, dur := s.params.preheatLimit * 60000 }))

/-! ## Liveness -/

/-- HEARTBEAT_TIMER_EXPIRY in WATCHING: WARNED with its grace timer and the notice; a grace of 0 requests the watchdog
restart at once (R85, R87). That the clock is moved to the event's moment is the model's choice (log 2). -/
def Obligations.HeartbeatTimerExpiryWarns : Prop :=
  ∀ (s : State) (tm : Timer), s.live.stage = .watching → s.live.hbTimer = some tm →
    let now := max s.clockMs (tm.start + tm.dur)
    let notice := NoticeContent.watchdogWarn (tm.dur / 100) s.params.warnGrace s.live.early
    (s.Ready → s.params.warnGrace ≠ 0 → exec .heartbeatTimerExpiry s = .next { s with
      clockMs := now
      live :=
        { s.live with
          stage := .warned, hbTimer := none
          graceTimer := some { start := now, dur := s.params.warnGrace * 1000 } }
      mgmt := s.mgmt.post notice }) ∧
    (s.Quiet → s.params.warnGrace = 0 → s.power.state = .running →
      ∃ t, exec .heartbeatTimerExpiry s = .next t ∧ s.SameOutsidePower t ∧ t.clockMs = now ∧
        t.mgmt.counter = s.mgmt.counter + 1 ∧
        t.power = s.power.afterRestart s.params now s.heat.zones.board.hot .watchdog)

/-- A class-4 frame from the live system port is a heartbeat: without effect in IDLE, SUSPENDED and after a boot
timeout; the first of a boot wait brings RUNNING and its HELLO; early or accepted in WATCHING; accepted in WARNED (R62,
R80, R82, R84, R86, R88, R89, R140). That a frame's command leaves the receiver between frames is the model's choice
(log 2). -/
def Obligations.HeartbeatActsByStage : Prop :=
  ∀ (s : State) (payload : List Byte), s.Quiet → s.Hears →
    let u := s.received 4
    let c := Instr.reservedFrame .system 4 payload
    (s.live.stage = .idle ∨ s.live.stage = .suspended ∨
        (s.live.stage = .bootWait ∧ s.live.outcome = .timedOut) → exec c s = .next u) ∧
    (s.live.stage = .bootWait → s.live.outcome = .heard →
      exec c s = .next { u with live := { s.live with last := some s.clockMs } }) ∧
    (∀ at_, s.live.stage = .watching → s.live.last = some at_ → s.params.hbMin ≠ 0 →
      s.clockMs - at_ < s.params.hbMin * 100 →
      exec c s = .next { u with
        live := { s.live with early := min (s.live.early + 1) 65535 }
        mgmt := { s.mgmt with sticky := s.mgmt.withFlag .earlyHeartbeat } }) ∧
    (s.live.stage = .warned ∨
        (s.live.stage = .watching ∧
          (s.params.hbMin = 0 ∨ ∃ at_, s.live.last = some at_ ∧ s.params.hbMin * 100 ≤ s.clockMs - at_)) →
      exec c s = .next { u with
        live :=
          { s.live with
            stage := .watching, graceTimer := none, last := some s.clockMs
            hbTimer := some { start := s.clockMs, dur := s.params.hbMax * 100 } } }) ∧
    (∀ r rest, s.live.stage = .bootWait → s.live.outcome = .pending → s.power.phase = some .bootWait →
      s.power.state = .starting ∨ s.power.state = .restarting → s.mgmt.queue = [] → s.power.log = r :: rest →
      ∃ t, exec c s = .next t ∧ u.SameOutsidePower t ∧ t.clockMs = s.clockMs ∧
        t.power =
          { s.power with
            state := .running, phase := none, dest := none, timer := none, boardPower := true
            resetAsserted := false } ∧
        t.live =
          { s.live with
            stage := .watching, outcome := .heard, last := some s.clockMs, bootTimer := none, graceTimer := none
            hbTimer := some { start := s.clockMs, dur := s.params.hbMax * 100 } } ∧
        t.mgmt.counter = s.mgmt.counter + 1 ∧
        t.mgmt.queue =
          [{ seq := s.mgmt.counter
             content := .hello r.seq r.cause s.power.restartList.length s.mgmt.source }])

/-! ## The panel link -/

/-- A character on the live system port is judged by the receiver state and its own bits, and its outcome counted (R129,
R131); nothing else changes, except that a frame whose CRC is right arrives. A character whose bits are all 0 is not
judged at its stop bit: the line is watched, and the line's return to 1 makes it FRAMING (R130). That BREAK_END and
RECEIVE_CHARACTER's `returned` tell the return, and a later character or frame implies it, is the model's reading (log
14). A port that is not live, or whose line is in a break, judges no character (R130, R133). -/
def Obligations.SystemCharactersAreJudged : Prop :=
  (∀ rx : RxState, rx.inFrame = true ↔ rx ≠ .idle ∧ rx ≠ .discard) ∧
  (∀ (s : State) (data : Byte), s.Ready → s.Hears →
    let e := s.sys.errors
    (∀ mark, ¬(data = 0 ∧ mark = false) → exec (.receiveCharacter .system data mark .zero) s =
      .next { s with sys := { s.sys with rx := .discard, errors := { e with framing := min (e.framing + 1) 65535 } } }) ∧
    exec (.receiveCharacter .system 0 false .zero) s = .next { s with sys := { s.sys with lineLow := true } } ∧
    (∀ h : data.toNat < 64, exec (.receiveCharacter .system data true .one) s =
      .next { s with sys := { s.sys with
        rx := .length ⟨data.toNat, h⟩
        errors := if s.sys.rx.inFrame then { e with truncated := min (e.truncated + 1) 65535 } else e } }) ∧
    (64 ≤ data.toNat → exec (.receiveCharacter .system data true .one) s =
      .next { s with sys := { s.sys with
        rx := .discard
        errors :=
          { (if s.sys.rx.inFrame then { e with truncated := min (e.truncated + 1) 65535 } else e) with
            header := min (e.header + 1) 65535 } } }) ∧
    (s.sys.rx = .idle → exec (.receiveCharacter .system data false .one) s =
      .next { s with sys := { s.sys with rx := .discard, errors := { e with stray := min (e.stray + 1) 65535 } } }) ∧
    (s.sys.rx = .discard → exec (.receiveCharacter .system data false .one) s = .next s) ∧
    (∀ c, s.sys.rx = .length c →
      (48 < data.toNat → exec (.receiveCharacter .system data false .one) s =
        .next { s with sys := { s.sys with
          rx := .discard, errors := { e with length := min (e.length + 1) 65535 } } }) ∧
      (data = 0 → exec (.receiveCharacter .system data false .one) s =
        .next { s with sys := { s.sys with rx := .check c [] } }) ∧
      (0 < data.toNat → data.toNat ≤ 48 → exec (.receiveCharacter .system data false .one) s =
        .next { s with sys := { s.sys with rx := .payload c data.toNat [] } })) ∧
    (∀ c need got, s.sys.rx = .payload c need got →
      exec (.receiveCharacter .system data false .one) s =
        .next { s with sys := { s.sys with
          rx := if need ≤ got.length + 1 then .check c (got ++ [data]) else .payload c need (got ++ [data]) } }) ∧
    (∀ c got, s.sys.rx = .check c got →
      (data ≠ crc8 (byte c.val :: byte got.length :: got) → exec (.receiveCharacter .system data false .one) s =
        .next { s with sys := { s.sys with rx := .idle, errors := { e with crc := min (e.crc + 1) 65535 } } }) ∧
      (data = crc8 (byte c.val :: byte got.length :: got) → exec (.receiveCharacter .system data false .one) s =
        exec (Frame.row .system { cls := c, payload := got }) s))) ∧
  (∀ (s : State) (data : Byte) (mark : Bool), s.Ready →
    exec (.receiveCharacter .system data mark .returned) s = exec .breakEnd s ∧
    (s.sys.receives = false → exec (.receiveCharacter .system data mark .one) s = .next s ∧
      exec (.receiveCharacter .system data mark .zero) s = .next s)) ∧
  (∀ s : State, s.sys.receives = true ↔ s.sys.isLive = true ∧ s.sys.breakOn = false) ∧
  ∀ (s : State) (c : Instr), s.Ready → s.sys.receives = true → s.sys.lineLow = true →
    let high : State :=
      { s with sys :=
        { s.sys with
          lineLow := false, rx := .discard
          errors := { s.sys.errors with framing := min (s.sys.errors.framing + 1) 65535 } } }
    exec .breakEnd s = .next high ∧
    ((∃ data mark stop, c = .receiveCharacter .system data mark stop) ∨ (∃ f : Frame, c = f.row .system) →
      exec c s = exec c high)

/-- The characters of any frame of at most 48 payload characters, sent one after another to a receiver that is between
frames, its line at 1, do exactly what the frame's own row does: on the live system port and on the display port (R128,
R129, R140). That a frame's command leaves the receiver between frames is the model's choice (log 2). -/
def Obligations.CharactersOfAFrameDeliverIt : Prop :=
  ∀ (s : State) (p : Port) (f : Frame), s.Ready → f.payload.length ≤ 48 →
    (p = .system → s.Hears ∧ (s.sys.rx = .idle ∨ s.sys.rx = .discard)) →
    (p = .display → s.HearsDisplay ∧ (s.disp.rx = .idle ∨ s.disp.rx = .discard)) →
    performAll (f.characters.map (fun x => .receiveCharacter p x.1 x.2 .one)) s = exec (f.row p) s

/-- A character is eleven bits: a start bit 0, the data least significant bit first, the mark bit and a stop bit 1; a
receiver that samples them has the data, the mark and a right stop bit. Each port's transmitter sends the characters of
its frame with no gap, the first alone marked and the last the CRC, and holds the line at 1 when idle and when the frame
has ended (R126, R128). The CRC of some bytes is the one byte that makes them and it together, most significant bit
first, a multiple of x⁸ + x² + x + 1 over the integers modulo 2: the remainder of a division that starts from 0 and
inverts nothing (R128). What the system transmitter takes is carried by a class-1 frame for a reply, a class-2 frame for
a notice, a class-3 frame for key events, each laid out as chapter 12 says, and by the forwarded frame itself (R134,
R175, R181, sections 12.2, 12.3, 12.7 and 12.8). -/
def Obligations.LinesCarryTheFrames : Prop :=
  (∀ (data : Byte) (mark : Bool),
    let b := characterBits data mark
    b.length = 11 ∧ b[0]? = some false ∧ (∀ n : Fin 8, b[n.val + 1]? = some (data.getLsbD n.val)) ∧
      b[9]? = some mark ∧ b[10]? = some true ∧ sampledCharacter b = some (data, mark, true)) ∧
  (∀ (sent : List Byte) (crc : Byte), (∃ q, polynomialOf (sent ++ [crc]) = timesGenerator q) ↔ crc = crc8 sent) ∧
  (∀ f : Frame,
    let sent := byte f.cls.val :: byte f.payload.length :: f.payload
    f.characters.map Prod.fst = sent ++ [crc8 sent] ∧
      f.characters.map Prod.snd = true :: List.replicate (f.payload.length + 2) false) ∧
  (∀ r : Reply, (SysContent.reply r).frame.cls = 1 ∧ ReplyLayout r (SysContent.reply r).frame.payload) ∧
  (∀ n : Notice, (SysContent.notice n).frame.cls = 2 ∧ NoticeLayout n (SysContent.notice n).frame.payload) ∧
  (∀ es : List KeyEvent, (SysContent.keys es).frame.cls = 3 ∧ KeysLayout es (SysContent.keys es).frame.payload) ∧
  (∀ f : Frame, (SysContent.forwarded f).frame = f) ∧
  (∀ (p : SysPort) (n : Nat), p.tx = none → p.outLevel n = true) ∧
  (∀ (d : DispPort) (n : Nat), d.tx = none → d.outLevel n = true) ∧
  (∀ (p : SysPort) (x : SysTx) (i : Nat) (j : Fin 11) (data : Byte) (mark : Bool), p.tx = some x →
    x.content.frame.characters[i]? = some (data, mark) →
    some (p.outLevel (11 * i + j.val)) = (characterBits data mark)[j.val]?) ∧
  (∀ (p : SysPort) (x : SysTx) (n : Nat), p.tx = some x → 11 * x.content.frame.characters.length ≤ n →
    p.outLevel n = true) ∧
  (∀ (d : DispPort) (x : DispTx) (i : Nat) (j : Fin 11) (data : Byte) (mark : Bool), d.tx = some x →
    ({ cls := x.frame.cls, payload := x.frame.payload } : Frame).characters[i]? = some (data, mark) →
    some (d.outLevel (11 * i + j.val)) = (characterBits data mark)[j.val]?) ∧
  ∀ (d : DispPort) (x : DispTx) (n : Nat), d.tx = some x → 11 * (x.frame.payload.length + 3) ≤ n →
    d.outLevel n = true

/-- The row of a management request does what its payload does as a class-0 frame (R169, R182). On a system port that is
not live, or whose line is in a break, no frame is received and no request is executed: every request row leaves the
part as it is (R130, R133). -/
def Obligations.RequestRowsSpellTheirPayloads : Prop :=
  (∀ (c : Instr) (p : List Byte) (s : State), requestPayload c = some p → exec c s = exec (.unknownCommand p) s) ∧
  ∀ (c : Instr) (p : List Byte) (s : State), requestPayload c = some p → s.Ready →
    s.sys.isLive = false ∨ s.sys.breakOn = true → exec c s = .next s

/-- A BREAK on the live system port: BREAK alone counted, also where a character of zeros has left the line watched, the
link reset and LINK_RESET reported (R130, R138), and on a port that is not live, or whose line is in a break already,
none is detected (R130, R133); a rate that waits for the dropped reply takes effect (R127, R135). BREAK_END ends the
break, and HOST_READY_CHANGE gives the input its level, in every state (R134, R138). -/
def Obligations.SystemLineEventsAreFollowed : Prop :=
  (∀ p : SysPort, p.sendsForwarded = true ↔ ∃ f rate, p.tx = some { content := .forwarded f, rate := rate }) ∧
  (∀ s : State, s.Quiet → s.sys.receives = true → ∃ t, exec (.lineBreak .system) s = .next t ∧
    t = { s with sys := t.sys, disp := t.disp, mgmt := { s.mgmt with sticky := s.mgmt.withFlag .linkReset } } ∧
    t.sys =
      { s.sys with
        rx := .discard, lineLow := false, breakOn := true, slot := .empty, tx := none
        errors := { s.sys.errors with lineBreak := min (s.sys.errors.lineBreak + 1) 65535 }
        fwdDiscard := if s.sys.sendsForwarded then min (s.sys.fwdDiscard + 1) 65535 else s.sys.fwdDiscard
        rate := t.sys.rate, rateChange := t.sys.rateChange } ∧
    (s.sys.slot = .empty ∨ s.sys.rateChange = none →
      t.sys.rate = s.sys.rate ∧ t.sys.rateChange = s.sys.rateChange ∧ t.disp = s.disp) ∧
    (∀ r, s.sys.slot ≠ .empty →
      (s.sys.rateChange = some (.system, r) → t.sys.rate = r ∧ t.sys.rateChange = none ∧ t.disp = s.disp) ∧
      (s.sys.rateChange = some (.display, r) → t.sys.rate = s.sys.rate ∧ t.sys.rateChange = none ∧
        t.disp.rate = r ∧ (r = s.disp.rate → t.disp = s.disp) ∧ (r ≠ s.disp.rate → t.disp.rx = .discard)))) ∧
  (∀ s : State, s.Ready → s.sys.isLive = false ∨ s.sys.breakOn = true → exec (.lineBreak .system) s = .next s) ∧
  (∀ s : State, s.Ready → s.sys.lineLow = false →
    exec .breakEnd s = .next { s with sys := { s.sys with breakOn := false } }) ∧
    ∀ (s : State) (b : Bool), exec (.hostReadyChange b) s = .next { s with sys := { s.sys with hostReady := b } }

/-- The display port judges each character as the system port does, each outcome counted; FRAMING, TRUNCATED, LENGTH,
CRC and BREAK also add to the consecutive bad frames, the third of them alerting, and HEADER and STRAY leave that count
(R129, R131, R132, R159); a frame whose CRC is right arrives. A character whose bits are all 0 leaves the line watched:
its return to 1 makes it FRAMING, and a BREAK, counted once for each hold of the line, takes its place (R130). That
RECEIVE_CHARACTER's `returned` tells the return, and a later character or frame implies it, is the model's reading (log
14). -/
def Obligations.DisplayCharactersAreJudged : Prop :=
  (∀ (s : State) (data : Byte), s.Ready → s.HearsDisplay →
    let e := s.disp.errors
    let header := { e with header := min (e.header + 1) 65535 }
    let truncated := { e with truncated := min (e.truncated + 1) 65535 }
    (∀ mark, ¬(data = 0 ∧ mark = false) → exec (.receiveCharacter .display data mark .zero) s =
      .next (s.displayBad .discard { e with framing := min (e.framing + 1) 65535 })) ∧
    exec (.receiveCharacter .display 0 false .zero) s = .next { s with disp := { s.disp with lineLow := true } } ∧
    (s.disp.rx.inFrame = false →
      (∀ h : data.toNat < 64, exec (.receiveCharacter .display data true .one) s =
        .next { s with disp := { s.disp with rx := .length ⟨data.toNat, h⟩ } }) ∧
      (64 ≤ data.toNat → exec (.receiveCharacter .display data true .one) s =
        .next { s with disp := { s.disp with rx := .discard, errors := header } })) ∧
    (s.disp.rx.inFrame = true →
      (∀ h : data.toNat < 64, exec (.receiveCharacter .display data true .one) s =
        .next (s.displayBad (.length ⟨data.toNat, h⟩) truncated)) ∧
      (64 ≤ data.toNat → exec (.receiveCharacter .display data true .one) s =
        .next (s.displayBad .discard { truncated with header := header.header }))) ∧
    (s.disp.rx = .idle → exec (.receiveCharacter .display data false .one) s =
      .next { s with disp := { s.disp with
        rx := .discard, errors := { e with stray := min (e.stray + 1) 65535 } } }) ∧
    (s.disp.rx = .discard → exec (.receiveCharacter .display data false .one) s = .next s) ∧
    (∀ c, s.disp.rx = .length c →
      (48 < data.toNat → exec (.receiveCharacter .display data false .one) s =
        .next (s.displayBad .discard { e with length := min (e.length + 1) 65535 })) ∧
      (data = 0 → exec (.receiveCharacter .display data false .one) s =
        .next { s with disp := { s.disp with rx := .check c [] } }) ∧
      (0 < data.toNat → data.toNat ≤ 48 → exec (.receiveCharacter .display data false .one) s =
        .next { s with disp := { s.disp with rx := .payload c data.toNat [] } })) ∧
    (∀ c need got, s.disp.rx = .payload c need got →
      exec (.receiveCharacter .display data false .one) s =
        .next { s with disp := { s.disp with
          rx := if need ≤ got.length + 1 then .check c (got ++ [data]) else .payload c need (got ++ [data]) } }) ∧
    (∀ c got, s.disp.rx = .check c got →
      (data ≠ crc8 (byte c.val :: byte got.length :: got) → exec (.receiveCharacter .display data false .one) s =
        .next (s.displayBad .idle { e with crc := min (e.crc + 1) 65535 })) ∧
      (data = crc8 (byte c.val :: byte got.length :: got) → exec (.receiveCharacter .display data false .one) s =
        exec (Frame.row .display { cls := c, payload := got }) s))) ∧
  (∀ s : State, s.Ready →
    let e := s.disp.errors
    let at1 : State := { s with disp := { s.disp with lineLow := false, breakOn := false } }
    (s.disp.breakOn = true → exec (.lineBreak .display) s = .next s) ∧
    (s.disp.breakOn = false → exec (.lineBreak .display) s =
      .next ({ s with disp := { s.disp with lineLow := false, breakOn := true } }.displayBad .discard
        { e with lineBreak := min (e.lineBreak + 1) 65535 })) ∧
    (s.disp.lineLow = false → exec (.receiveCharacter .display 0 false .returned) s = .next at1) ∧
    (s.disp.lineLow = true → exec (.receiveCharacter .display 0 false .returned) s =
      .next (at1.displayBad .discard { e with framing := min (e.framing + 1) 65535 }))) ∧
  ∀ (s : State) (c : Instr), s.Ready →
    (∃ data mark stop, c = .receiveCharacter .display data mark stop) ∨ (∃ f : Frame, c = f.row .display) →
    exec c s = performAll [.receiveCharacter .display 0 false .returned, c] s

/-- SYSTEM_TX_BEGIN: an idle transmitter on a live port without a break and with host-ready asserted takes the reply,
else the oldest notice, else the eight oldest key events, else the oldest forwarded frame; otherwise nothing begins
(R134, R135, R136, R137). SYSTEM_FRAME_SENT: the transmitter is idle, a sent reply leaves the slot empty, and a rate
written with it takes effect (R127, R135). -/
def Obligations.TransmitterTakesByPriority : Prop :=
  (∀ s : State, s.Ready →
    let may := s.sys.tx = none ∧ s.sys.isLive = true ∧ s.sys.breakOn = false ∧ s.sys.hostReady = true
    (¬may → exec .systemTxBegin s = .next s) ∧
    (∀ r, may → s.sys.slot = .held r → exec .systemTxBegin s =
      .next { s with sys := { s.sys with slot := .sending r, tx := some { content := .reply r, rate := s.sys.rate } } }) ∧
    (may → (∀ r, s.sys.slot ≠ .held r) →
      (∀ n q, s.mgmt.queue = n :: q → exec .systemTxBegin s =
        .next { s with
          mgmt := { s.mgmt with queue := q }
          sys := { s.sys with tx := some { content := .notice n, rate := s.sys.rate } } }) ∧
      (s.mgmt.queue = [] → s.keypad.queue ≠ [] → exec .systemTxBegin s =
        .next { s with
          keypad := { s.keypad with queue := s.keypad.queue.drop 8 }
          sys := { s.sys with tx := some { content := .keys (s.keypad.queue.take 8), rate := s.sys.rate } } }) ∧
      (s.mgmt.queue = [] → s.keypad.queue = [] → ∀ f q, s.sys.fwd = f :: q → exec .systemTxBegin s =
        .next { s with
          sys := { s.sys with fwd := q, tx := some { content := .forwarded f, rate := s.sys.rate } } }) ∧
      (s.mgmt.queue = [] → s.keypad.queue = [] → s.sys.fwd = [] → exec .systemTxBegin s = .next s))) ∧
  ∀ (s : State) (x : SysTx), s.Quiet → s.sys.tx = some x →
    ((∀ r, x.content ≠ .reply r) → exec .systemFrameSent s = .next { s with sys := { s.sys with tx := none } }) ∧
    (∀ r, x.content = .reply r →
      (s.sys.rateChange = none →
        exec .systemFrameSent s = .next { s with sys := { s.sys with tx := none, slot := .empty } }) ∧
      (∀ rate, s.sys.rateChange = some (.system, rate) →
        exec .systemFrameSent s = .next { s with
          sys :=
            { s.sys with
              tx := none, slot := .empty, rateChange := none, rate := rate
              rx := if s.sys.rate = rate then s.sys.rx else .discard } }) ∧
      (∀ rate, s.sys.rateChange = some (.display, rate) →
        exec .systemFrameSent s = .next { s with
          sys := { s.sys with tx := none, slot := .empty, rateChange := none }
          disp :=
            { s.disp with rate := rate, rx := if s.disp.rate = rate then s.disp.rx else .discard } }))

/-! ## The Frame Switch -/

/-- A frame of a reserved class that the switch does not route is dropped and counted: classes 1 to 3 and 5 to 7 from
the system port, and every class below 8 but 5 from the display port, after it has been heard (R140, R146, R150, R157).
A frame on a system port that does not receive has no effect (R130, R133). A class's passed and dropped counters stop at
65,535 (R150). That a frame's command leaves the receiver between frames is the model's choice (log 2). -/
def Obligations.UnroutedFramesAreDropped : Prop :=
  (∀ (w : Switch) (c k : Fin 64),
    (w.pass c).dropped = w.dropped ∧ (w.drop c).passed = w.passed ∧
    (w.pass c).passed[k] = (if k = c then min (w.passed[k] + 1) 65535 else w.passed[k]) ∧
    (w.drop c).dropped[k] = (if k = c then min (w.dropped[k] + 1) 65535 else w.dropped[k])) ∧
  ∀ (s : State) (c : Fin 64) (payload : List Byte), s.Ready →
    (s.Hears → c.val < 8 → c ≠ 0 → c ≠ 4 →
      exec (.reservedFrame .system c payload) s = .next (s.refused c)) ∧
    (s.sys.receives = false → exec (.reservedFrame .system c payload) s = .next s ∧
      exec (.loadableSystemFrame c payload) s = .next s) ∧
    (s.HearsDisplay →
      (c.val < 8 → c ≠ 5 →
        exec (.reservedFrame .display c payload) s = .next { s.heardDisplay with switch := s.switch.drop c }) ∧
      exec (.displayManagementFrame payload) s = .next { s.heardDisplay with switch := s.switch.drop 0 })

/-- A class-5 frame from the display in STARTING opens the path: its timers start and queued frames begin to leave; with
heat-dim it dims at once, DIM being injected. In any other state the frame is only heard and counted (R140, R156, R161
to R164). DISPLAY_FRAME_SENT: the transmitter is ready, and in OPEN and DIMMED the oldest frame of the queue begins
transmission (R161), and so whenever the transmitter is ready there. The silence and the idle timer start with their
limits in force, and not at all with 0 (R157, R162). That a frame's command leaves the receiver between frames is the
model's choice (log 2). -/
def Obligations.ReadyDisplayTakesFrames : Prop :=
  (∀ s : State,
    (∀ f q, s.path.state = .opened ∨ s.path.state = .dimmed → s.disp.tx = none → s.path.queue = f :: q →
      s.displayRelease = { s with
        disp := { s.disp with tx := some { frame := f, rate := s.disp.rate } }, path := { s.path with queue := q } }) ∧
    ((s.path.state ≠ .opened ∧ s.path.state ≠ .dimmed) ∨ s.disp.tx ≠ none ∨ s.path.queue = [] →
      s.displayRelease = s) ∧
    s.silenceStart =
      (if s.params.silenceLimit = 0 then none else some { start := s.clockMs, dur := s.params.silenceLimit * 1000 }) ∧
    s.idleStart =
      (if s.params.idlePeriod = 0 then none
       else some
        { start := s.clockMs
          dur := s.params.idlePeriod * (if s.params.idleTimes16 = true then 16000 else 1000) })) ∧
  (∀ (s : State) (payload : List Byte), s.Ready → s.HearsDisplay →
    let u := { s.heardDisplay with switch := s.switch.pass 5 }
    let opened : State := { u with
      path :=
        { s.path with
          state := .opened, startTimer := none, silenceTimer := s.silenceStart, idleTimer := s.idleStart } }
    (s.path.state ≠ .starting → exec (.reservedFrame .display 5 payload) s = .next u) ∧
    (s.path.state = .starting → s.path.heatDim = false →
      exec (.reservedFrame .display 5 payload) s = .next opened.displayRelease) ∧
    (s.path.state = .starting → s.path.heatDim = true →
      exec (.reservedFrame .display 5 payload) s = .next opened.dims)) ∧
  ∀ (s : State) (x : DispTx), s.Ready → s.disp.tx = some x →
    (∀ f q, s.path.state = .opened ∨ s.path.state = .dimmed → s.path.queue = f :: q →
      exec .displayFrameSent s = .next { s with
        disp := { s.disp with tx := some { frame := f, rate := s.disp.rate } }, path := { s.path with queue := q } }) ∧
    ((s.path.state ≠ .opened ∧ s.path.state ≠ .dimmed) ∨ s.path.queue = [] →
      exec .displayFrameSent s = .next { s with disp := { s.disp with tx := none } })

/-- A loadable class from the live system port (R144, R145, R150): a frame that its entry's direction or lengths keep
out is dropped; one that the path takes by its action joins the display queue or goes out at once; one that it does not
is dropped. A frame with the heartbeat flag is first a heartbeat, in every stage as a class-4 frame is, and is then
routed in the same way (R79, R88, R144); in WARNED it is an accepted one. That a frame's command leaves the receiver
between frames is the model's choice (log 2). -/
def Obligations.BoardFramesFollowTheirEntry : Prop :=
  ∀ (s : State) (c : Fin 64) (payload : List Byte) (e : ClassEntry), s.Ready → s.Hears →
    s.tables.classEntry c = some e →
    let good := (e.direction = .toDisplay ∨ e.direction = .both) ∧ e.minLength ≤ payload.length ∧
      payload.length ≤ e.maxLength
    let takes (p : DisplayPath) := (e.action ≠ .drop ∧ (p.state = .opened ∨ p.state = .dimmed)) ∨
      (e.action = .hold ∧ (p.state = .waitWarm ∨ p.state = .starting ∨ p.state = .recovering))
    let path (p : DisplayPath) :=
      if e.activity = true ∧ p.state = .opened then { p with idleTimer := s.idleStart } else p
    let f : QueuedFrame := { cls := c, payload := payload, coalesce := e.coalesce }
    let placed (t : State) : State := State.displayRelease { t with
      path := (path t.path).place f, switch := s.switch.pass c
      mgmt :=
        { t.mgmt with sticky := if overflows f t.path.queue then t.mgmt.withFlag .queueDiscard else t.mgmt.sticky } }
    (¬good → exec (.loadableSystemFrame c payload) s = .next (s.refused c)) ∧
    (good → e.heartbeat = false → ¬takes s.path →
      exec (.loadableSystemFrame c payload) s = .next { s.refused c with path := path s.path }) ∧
    (good → e.heartbeat = false → takes s.path →
      exec (.loadableSystemFrame c payload) s = .next (placed (s.received c))) ∧
    (good → e.heartbeat = true → ∃ t, exec (.reservedFrame .system 4 []) s = .next t ∧
      (¬takes t.path → exec (.loadableSystemFrame c payload) s =
        .next { t with path := path t.path, switch := s.switch.drop c }) ∧
      (takes t.path → exec (.loadableSystemFrame c payload) s = .next (placed t))) ∧
    (good → e.heartbeat = true → s.live.stage = .warned →
      ∃ t, exec (.loadableSystemFrame c payload) s = .next t ∧
        t.live =
          { s.live with
            stage := .watching, graceTimer := none, last := some s.clockMs
            hbTimer := some { start := s.clockMs, dur := s.params.hbMax * 100 } })

/-- A loadable class from the display (R146, R147, R148, R163): heard first; dropped where its entry keeps it out;
otherwise appended to the forwarded queue while the system port is live, or dropped; a frame with the wake flag first
wakes a dimmed path, WAKE being injected, which swallows it if the swallow parameter says so. That a frame's command
leaves the receiver between frames is the model's choice (log 2). -/
def Obligations.DisplayFramesAreForwarded : Prop :=
  ∀ (s : State) (c : Fin 64) (payload : List Byte) (e : ClassEntry), s.Ready → s.HearsDisplay →
    s.tables.classEntry c = some e →
    let good := (e.direction = .toSystem ∨ e.direction = .both) ∧ e.minLength ≤ payload.length ∧
      payload.length ≤ e.maxLength
    let u := s.heardDisplay
    let path := if e.activity = true ∧ s.path.state = .opened then { u.path with idleTimer := s.idleStart } else u.path
    let f : Frame := { cls := c, payload := payload }
    (¬good → exec (.loadableDisplayFrame c payload) s = .next { u with switch := s.switch.drop c }) ∧
    (good → e.wake = false ∨ s.path.state ≠ .dimmed ∨ s.path.heatDim = true →
      (s.sys.isLive = false →
        exec (.loadableDisplayFrame c payload) s = .next { u with path := path, switch := s.switch.drop c }) ∧
      (s.sys.isLive = true → s.sys.fwd.length < 16 →
        exec (.loadableDisplayFrame c payload) s = .next { u with
          path := path, switch := s.switch.pass c, sys := { s.sys with fwd := s.sys.fwd ++ [f] } }) ∧
      (s.sys.isLive = true → 16 ≤ s.sys.fwd.length →
        exec (.loadableDisplayFrame c payload) s = .next { u with
          path := path, switch := s.switch.pass c
          sys := { s.sys with fwd := s.sys.fwd.tail ++ [f], fwdDiscard := min (s.sys.fwdDiscard + 1) 65535 }
          mgmt := { s.mgmt with sticky := s.mgmt.withFlag .queueDiscard } })) ∧
    (good → e.wake = true → s.path.state = .dimmed → s.path.heatDim = false →
      let w := u.wakes
      (s.params.swallow = true ∨ s.sys.isLive = false →
        exec (.loadableDisplayFrame c payload) s = .next { w with switch := w.switch.drop c }) ∧
      (s.params.swallow = false → s.sys.isLive = true → s.sys.fwd.length < 16 →
        exec (.loadableDisplayFrame c payload) s = .next { w with
          switch := w.switch.pass c, sys := { s.sys with fwd := s.sys.fwd ++ [f] } }) ∧
      (s.params.swallow = false → s.sys.isLive = true → 16 ≤ s.sys.fwd.length →
        exec (.loadableDisplayFrame c payload) s = .next { w with
          switch := w.switch.pass c
          sys := { s.sys with fwd := s.sys.fwd.tail ++ [f], fwdDiscard := min (s.sys.fwdDiscard + 1) 65535 }
          mgmt := { w.mgmt with sticky := w.mgmt.withFlag .queueDiscard } }))

/-- A posted notice takes the counter's value and joins the queue, or takes the place of the one of its kind, and is
discarded outside RUNNING and SHUTDOWN (R175); a frame placed in the display queue replaces the one of its class, or is
appended, the oldest leaving a full queue. When coalescing is set for a class, its queued frames become one, at the
oldest's place with the newest's content, and none is counted; the others keep their order (R160). -/
def Obligations.QueuesReplaceInPlace : Prop :=
  (∀ (f : QueuedFrame) (q : List QueuedFrame),
    overflows f q = true ↔ 16 ≤ q.length ∧ ¬(f.coalesce = true ∧ ∃ x ∈ q, x.cls = f.cls)) ∧
  (∀ (m : Mgmt) (c : NoticeContent),
    (m.post c).counter = m.counter + 1 ∧
    (m.kept ≠ .running → m.kept ≠ .shutdown → (m.post c).queue = m.queue) ∧
    (m.kept = .running ∨ m.kept = .shutdown →
      ((∀ n ∈ m.queue, n.content.kind ≠ c.kind) →
        (m.post c).queue = m.queue ++ [{ seq := m.counter, content := c }]) ∧
      (∀ before n after, m.queue = before ++ n :: after → n.content.kind = c.kind →
        (∀ x ∈ before ++ after, x.content.kind ≠ c.kind) →
        (m.post c).queue = before ++ { seq := m.counter, content := c } :: after))) ∧
  ∀ (p : DisplayPath) (f : QueuedFrame),
    (∀ before q after, f.coalesce = true → p.queue = before ++ q :: after → q.cls = f.cls →
      (∀ x ∈ before, x.cls ≠ f.cls) → p.place f = { p with queue := before ++ f :: after }) ∧
    (f.coalesce = false ∨ (∀ x ∈ p.queue, x.cls ≠ f.cls) → p.queue.length < 16 →
      p.place f = { p with queue := p.queue ++ [f] }) ∧
    (f.coalesce = false ∨ (∀ x ∈ p.queue, x.cls ≠ f.cls) → ∀ oldest rest, p.queue = oldest :: rest →
      16 ≤ p.queue.length →
      p.place f = { p with queue := rest ++ [f], dqDiscard := min (p.dqDiscard + 1) 65535 }) ∧
    ∀ c : Fin 64,
      ((∀ x ∈ p.queue, x.cls ≠ c) → p.coalesceSet c = p) ∧
      ∀ before oldest after, p.queue = before ++ oldest :: after → oldest.cls = c → (∀ x ∈ before, x.cls ≠ c) →
        ((∀ x ∈ after, x.cls ≠ c) →
          p.coalesceSet c = { p with queue := before ++ { oldest with coalesce := true } :: after }) ∧
        ∀ mid newest rest, after = mid ++ newest :: rest → newest.cls = c → (∀ x ∈ rest, x.cls ≠ c) →
          p.coalesceSet c =
            { p with queue := before ++ { newest with coalesce := true } :: mid.filter (fun x => x.cls ≠ c) ++ rest }

/-! ## The display path -/

/-- WAIT_LIMIT_EXPIRY judges the display-gate zones and enters STARTING or waits again; RECOVERY_OFF_TIME_EXPIRY enters
STARTING; IDLE_TIMER_EXPIRY dims the path (R155, R156, R158, R162, R163). START_TIMER_EXPIRY in STARTING and
SILENCE_TIMER_EXPIRY in OPEN and DIMMED: RECOVERING, or FAILED at the retry limit; the silence also posts its notice and
reports DISPLAY_ABSENT (R156, R157, R158). That the SILENCE notice carries the retry count as R158 leaves it and comes
before RETRIES_EXHAUSTED is the model's reading (log 13); that the clock is moved to the event's moment is its choice
(log 2). -/
def Obligations.DisplayPathTimersExpire : Prop :=
  ∀ (s : State) (tm : Timer), s.Ready →
    let now := max s.clockMs (tm.start + tm.dur)
    let after := s.path.afterRecovery s.params now s.disp.tx.isSome
    (s.path.state = .waitWarm → s.path.waitTimer = some tm →
      ((∀ z, (s.zoneReports.get z).displayGate = true → (s.zoneReports.get z).warm = true ∨
          (s.zoneReports.get z).blind = true ∨
          ∃ c, (s.zoneReports.get z).cold = some c ∧ (s.zoneReports.get z).tminAbs ≤ c) →
        exec .waitLimitExpiry s = .next { s with clockMs := now, path := s.path.started s.params now }) ∧
      (∀ z, (s.zoneReports.get z).displayGate = true → (s.zoneReports.get z).warm = false →
        (s.zoneReports.get z).blind = false →
        (∀ c, (s.zoneReports.get z).cold = some c → c < (s.zoneReports.get z).tminAbs) →
        exec .waitLimitExpiry s = .next { s with
          clockMs := now
          path := { s.path with waitTimer := some { start := now, dur := s.params.waitLimit * 60000 } } })) ∧
    (s.path.state = .recovering → s.path.startTimer = some tm →
      exec .recoveryOffTimeExpiry s = .next { s with clockMs := now, path := s.path.started s.params now }) ∧
    (s.path.state = .opened → s.path.idleTimer = some tm →
      exec .idleTimerExpiry s = .next (State.dims { s with clockMs := now })) ∧
    (s.path.state = .starting → s.path.startTimer = some tm →
      exec .startTimerExpiry s = .next { s with
        clockMs := now, path := after, disp := { s.disp with tx := none }
        mgmt := s.mgmt.afterRecovery s.params s.path.retry }) ∧
    (s.path.state = .opened ∨ s.path.state = .dimmed → s.path.silenceTimer = some tm →
      exec .silenceTimerExpiry s = .next { s with
        clockMs := now, path := after, disp := { s.disp with tx := none }
        mgmt :=
          { (s.mgmt.post (.displayFault .silence after.retry s.params.retryLimit)).afterRecovery s.params
              s.path.retry with
            sticky := s.mgmt.withFlag .displayAbsent } })

/-! ## The keypad, the sequences and the beeper -/

/-- SCAN: a key's debounce count goes up while its reading differs from its debounced condition, and at the debounce
length the condition changes; every other key keeps its condition, with count 0 if its reading agrees (R95); a key is
physically down in every key state but UP. The working tables and the queue stay, and the scan count goes up. A key held
from the first scan after a cold reset is pressed D scans after it, the first not counted, as R113 has it, or at the
D-th scan, as R95 has it: whether the first scan counts is a free value of the model (log 21). That the clock is moved
to the event's moment is the model's choice (log 2). -/
def Obligations.ScanDebouncesEveryKey : Prop :=
  (∀ st : KeyState, st.physicallyDown = true ↔ st ≠ .up) ∧
  (∀ (s : State) (reading : BitVec 64), s.Quiet → ∃ t, exec (.scan reading) s = .next t ∧
    t.tables = s.tables ∧ t.store = s.store ∧ t.meas = s.meas ∧ t.pending = s.pending ∧
    t.keypad.scans = s.keypad.scans + 1 ∧ t.clockMs = max s.clockMs (4 * s.keypad.scans) ∧
    ∀ i : Fin 64,
      let down := s.keypad.keys[i].state.physicallyDown
      let differs := reading.getLsbD i.val ≠ down
      (s.ScanCounts → t.keypad.keys[i].count =
        (if differs ∧ s.keypad.keys[i].count + 1 < s.params.debounce then s.keypad.keys[i].count + 1 else 0)) ∧
      (s.ScanCounts → t.keypad.keys[i].state.physicallyDown =
        (if differs ∧ s.params.debounce ≤ s.keypad.keys[i].count + 1 then !down else down)) ∧
      (¬s.ScanCounts → t.keypad.keys[i].count = s.keypad.keys[i].count ∧
        t.keypad.keys[i].state.physicallyDown = down)) ∧
  ∀ (run : Nat → State) (reading : BitVec 64), (run 0).Quiet → (run 0).keypad.scans = 0 →
    (∀ i : Fin 64, (run 0).keypad.keys[i].state = .up ∧ (run 0).keypad.keys[i].count = 0) →
    0 < (run 0).params.debounce → (∀ n, exec (.scan reading) (run n) = .next (run (n + 1))) →
    let pressScan := (run 0).params.debounce - (if Config.firstScanCounts then 1 else 0)
    ∀ i : Fin 64, (∀ n ≤ pressScan, (run n).keypad.keys[i].state = .up) ∧
      (run (pressScan + 1)).keypad.keys[i].state.physicallyDown = reading.getLsbD i.val

/-- One key's press debounced in a scan, alone and outside every ghost rectangle: the key is DOWN, and by its kind (R97,
R102 to R107) nothing more, or the CLICK and the matcher, or after the offer to the display path also the queue: the
press queued with its entry's code and the scan's time where there is room, else suppressed with KEY_LOSS, not queued
outside RUNNING and SHUTDOWN, swallowed by a waking path with the swallow flag, and with any-key in OFF a POWER_ON. A
DIMMED path wakes also without that flag, and never under heat-dim (R163). No slot of the state kept fires on it. That
the moments of keys and repeats are counted without a bound is the model's reading (log 17); that the clock is moved to
the scan's moment is its choice (log 2). -/
def Obligations.LonePressIsDecided : Prop :=
  ∀ (s : State) (reading : BitVec 64) (i : Fin 64), s.Quiet → s.LoneChange reading i → s.keypad.keys[i].state = .up →
    ¬InRectangle s.keypad.isDown i → (∀ k, ¬s.Sticks k) → s.RepeatNotDue → 0 < s.params.repeatDelay →
    i ∉ s.keypad.reportedDown → i ∉ s.keypad.suppressed → s.matcher.firesOn s.tables.sequences i = none →
    let e := s.tables.keymap[i]
    let now := max s.clockMs (4 * s.keypad.scans)
    let judged := s.matcher.press s.tables.sequences s.params.stepTimeout now i
    let clicked := if e.click then s.beeper.request .click now else s.beeper
    let swallowed := s.path.state = .dimmed ∧ s.path.heatDim = false ∧ s.params.swallow = true
    let accepts := s.keypad.kept = .running ∨ s.keypad.kept = .shutdown
    let anyKey := s.params.anyKey = true ∧ s.keypad.kept = .off
    ∃ t, exec (.scan reading) s = .next t ∧ t.clockMs = now ∧ t.keypad.keys[i].state = .down ∧
      t.keypad.keys[i].entry = 4 * s.keypad.scans ∧
      (∀ k : Fin 64, k ≠ i → t.keypad.keys[k].state = s.keypad.keys[k].state) ∧
      (e.kind = .disabled → t = { s with clockMs := now, keypad := t.keypad }) ∧
      (e.kind = .service → t = { s with clockMs := now, keypad := t.keypad, matcher := judged, beeper := clicked }) ∧
      (e.kind ≠ .normal →
        t.keypad.queue = s.keypad.queue ∧ t.keypad.reportedDown = s.keypad.reportedDown ∧
        t.keypad.suppressed = s.keypad.suppressed ∧ t.keypad.typematic = s.keypad.typematic) ∧
      (e.kind = .normal → swallowed → t = { State.wakes { s with clockMs := now } with keypad := t.keypad } ∧
        t.keypad.queue = s.keypad.queue ∧ t.keypad.reportedDown = s.keypad.reportedDown ∧
        t.keypad.suppressed = s.keypad.suppressed ++ [i] ∧ t.keypad.typematic = s.keypad.typematic) ∧
      (e.kind = .normal → ¬swallowed → accepts → s.keypad.load + 2 ≤ 32 →
        t.keypad.queue = s.keypad.queue ++ [s.eventNow i e.code .press] ∧
        t.keypad.reportedDown = s.keypad.reportedDown ++ [i] ∧ t.keypad.suppressed = s.keypad.suppressed ∧
        t.keypad.keys[i].code = e.code ∧
        t.keypad.typematic =
          (if e.repeats then some (i, 4 * s.keypad.scans + s.params.repeatDelay * 50) else none)) ∧
      (e.kind = .normal → ¬swallowed → accepts → 32 < s.keypad.load + 2 →
        t.keypad.queue = s.keypad.queue ∧ t.keypad.reportedDown = s.keypad.reportedDown ∧
        t.keypad.suppressed = s.keypad.suppressed ++ [i] ∧ t.keypad.typematic = s.keypad.typematic ∧
        t.keypad.lossCount = min (s.keypad.lossCount + 1) 65535 ∧ t.mgmt.hasFlag .keyLoss = true) ∧
      (e.kind = .normal → ¬swallowed → ¬accepts →
        t.keypad.queue = s.keypad.queue ∧ t.keypad.reportedDown = s.keypad.reportedDown ∧
        t.keypad.suppressed = s.keypad.suppressed ∧ t.keypad.typematic = s.keypad.typematic) ∧
      (e.kind = .normal → ¬swallowed → ¬anyKey → t.power = s.power ∧ t.matcher = judged ∧ t.beeper = clicked ∧
        (s.path.state = .opened → t.path = { s.path with idleTimer := State.idleStart { s with clockMs := now } }) ∧
        (s.path.state ≠ .opened → s.path.state ≠ .dimmed ∨ s.path.heatDim = true →
          t.path = s.path ∧ t.disp = s.disp ∧ t.switch = s.switch) ∧
        (s.path.state = .dimmed → s.path.heatDim = false →
          let w := State.wakes { s with clockMs := now }
          t.path = w.path ∧ t.disp = w.disp ∧ t.switch = w.switch)) ∧
      (e.kind = .normal → ¬swallowed → anyKey → s.power.state = .off →
        t.power = (s.power.logged (s.power.newRecord now s.heat.zones.board.hot .keyPowerOn (some .anyKey)
            s.power.restartList.length)).boardOff .preheat
          (some { start := now, dur := s.params.preheatLimit * 60000 }))

/-- One key's release debounced alone in a scan: UP, with no event from BLOCKED and STUCK; from DOWN absorbed if the key
is suppressed, else a RELEASE in place of its repeats if it is reported (R100, R105), and the matcher is told (R118).
One key held for the stuck time: STUCK, its STUCK_RELEASE if it is reported, the matcher told, and unless it is DISABLED
its notice and KEY_STUCK (R99). That the moments of keys are counted without a bound is the model's reading (log 17);
that the clock is moved to the scan's moment is its choice (log 2). -/
def Obligations.LoneReleaseAndStuckKey : Prop :=
  (∀ (s : State) (reading : BitVec 64) (i : Fin 64), s.Quiet → s.LoneChange reading i →
    s.keypad.keys[i].state ≠ .up → (∀ k, k ≠ i → ¬s.Sticks k ∧ s.keypad.keys[k].state ≠ .blocked) → s.RepeatNotDue →
    ∃ t, exec (.scan reading) s = .next t ∧
      t = { s with
            clockMs := max s.clockMs (4 * s.keypad.scans), keypad := t.keypad
            matcher := { s.matcher with
              slots := if s.keypad.keys[i].state = .down then slotsLeft i s.matcher.slots else s.matcher.slots } } ∧
      t.keypad.keys[i].state = .up ∧
      (∀ k : Fin 64, k ≠ i → t.keypad.keys[k].state = s.keypad.keys[k].state) ∧
      (s.keypad.keys[i].state ≠ .down ∨ i ∈ s.keypad.suppressed →
        t.keypad.suppressed = s.keypad.suppressed.filter (· ≠ i) ∧ t.keypad.queue = s.keypad.queue ∧
        t.keypad.reportedDown = s.keypad.reportedDown ∧ t.keypad.typematic = s.keypad.typematic) ∧
      (s.keypad.keys[i].state = .down → i ∉ s.keypad.suppressed → i ∈ s.keypad.reportedDown →
        t.keypad.suppressed = s.keypad.suppressed ∧
        t.keypad.queue =
          withoutRepeats i s.keypad.queue ++ [s.eventNow i s.keypad.keys[i].code .release] ∧
        t.keypad.reportedDown = s.keypad.reportedDown.filter (· ≠ i) ∧
        t.keypad.typematic =
          (if s.keypad.typematic.map Prod.fst = some i then none else s.keypad.typematic)) ∧
      (s.keypad.keys[i].state = .down → i ∉ s.keypad.suppressed → i ∉ s.keypad.reportedDown →
        t.keypad.suppressed = s.keypad.suppressed ∧ t.keypad.queue = s.keypad.queue ∧
        t.keypad.reportedDown = s.keypad.reportedDown ∧ t.keypad.typematic = s.keypad.typematic)) ∧
  ∀ (s : State) (reading : BitVec 64) (i : Fin 64), s.Quiet → s.NoChange reading → (∀ k, s.Sticks k ↔ k = i) →
    s.RepeatNotDue →
    let e := s.tables.keymap[i]
    let reported := i ∈ s.keypad.reportedDown
    ∃ t, exec (.scan reading) s = .next t ∧
      t = { s with
            clockMs := max s.clockMs (4 * s.keypad.scans), keypad := t.keypad
            matcher := { s.matcher with slots := slotsLeft i s.matcher.slots }
            mgmt :=
              if e.kind = .disabled then s.mgmt
              else { s.mgmt.post (.keyStuck i e.code (decide reported)) with
                     sticky := s.mgmt.withFlag .keyStuck } } ∧
      t.keypad.keys[i].state = .stuck ∧ t.keypad.suppressed = s.keypad.suppressed ∧
      (∀ k : Fin 64, k ≠ i → t.keypad.keys[k].state = s.keypad.keys[k].state) ∧
      t.keypad.typematic = (if s.keypad.typematic.map Prod.fst = some i then none else s.keypad.typematic) ∧
      (reported →
        t.keypad.queue =
          withoutRepeats i s.keypad.queue ++ [s.eventNow i s.keypad.keys[i].code .stuckRelease] ∧
        t.keypad.reportedDown = s.keypad.reportedDown.filter (· ≠ i)) ∧
      (¬reported → t.keypad.queue = s.keypad.queue ∧ t.keypad.reportedDown = s.keypad.reportedDown)

/-- A press that completes a ghost rectangle makes its key BLOCKED and reports GHOST, and does nothing else (R97). When
another key is released, the one BLOCKED key stays BLOCKED if a rectangle still holds it; otherwise it is DOWN from this
scan and leaves the suppressed set, and its press is processed: a NORMAL key's in RUNNING or SHUTDOWN with room is
queued last (R98, R102, R104). A key's number is row × 8 + column (R94). That the clock is moved to the scan's moment is
the model's choice (log 2), and that a key's entry time is counted without a bound its reading (log 17). -/
def Obligations.GhostsAreBlocked : Prop :=
  (∀ (k : Keypad) (r c : Fin 8) (i : Fin 64),
    (keyAt r c).val = 8 * r.val + c.val ∧ (keyRow i).val = i.val / 8 ∧ (keyCol i).val = i.val % 8 ∧
    (k.isDown i = true ↔ k.keys[i].state ≠ .up)) ∧
  (∀ (s : State) (reading : BitVec 64) (i : Fin 64), s.Quiet → s.LoneChange reading i →
    s.keypad.keys[i].state = .up → InRectangle s.keypad.isDown i → (∀ k, ¬s.Sticks k) → s.RepeatNotDue →
    ∃ t, exec (.scan reading) s = .next t ∧
      t = { s with
            clockMs := max s.clockMs (4 * s.keypad.scans), keypad := t.keypad
            mgmt := { s.mgmt with sticky := s.mgmt.withFlag .ghost } } ∧
      t.keypad.keys[i].state = .blocked ∧
      (∀ k : Fin 64, k ≠ i → t.keypad.keys[k].state = s.keypad.keys[k].state) ∧
      t.keypad.queue = s.keypad.queue ∧ t.keypad.reportedDown = s.keypad.reportedDown ∧
      t.keypad.suppressed = s.keypad.suppressed ∧ t.keypad.typematic = s.keypad.typematic) ∧
  ∀ (s : State) (reading : BitVec 64) (i j : Fin 64), s.Quiet → s.LoneChange reading j →
    s.keypad.keys[j].state ≠ .up → i ≠ j → (∀ k : Fin 64, s.keypad.keys[k].state = .blocked ↔ k = i ∨ (k = j ∧
      s.keypad.keys[j].state = .blocked)) → (∀ k, k ≠ j → ¬s.Sticks k) →
    let rectangle := InRectangle (fun k => decide (k ≠ j) && s.keypad.isDown k) i
    ∃ t, exec (.scan reading) s = .next t ∧ t.keypad.keys[j].state = .up ∧
      (rectangle → t.keypad.keys[i].state = .blocked ∧
        (i ∈ t.keypad.suppressed ↔ i ∈ s.keypad.suppressed) ∧ t.mgmt = s.mgmt) ∧
      (¬rectangle → t.keypad.keys[i].state = .down ∧ t.keypad.keys[i].entry = 4 * s.keypad.scans ∧
        (s.tables.keymap[i].kind = .disabled → i ∉ t.keypad.suppressed) ∧
        (s.tables.keymap[i].kind = .normal → s.keypad.kept = .running ∨ s.keypad.kept = .shutdown →
          s.path.state ≠ .dimmed → s.keypad.load + 2 ≤ 32 → s.RepeatNotDue → 0 < s.params.repeatDelay →
          (s.matcher.leave j).firesOn s.tables.sequences i = none → s.matcher.firesOn s.tables.sequences i = none →
          i ∉ t.keypad.suppressed ∧ i ∈ t.keypad.reportedDown ∧
          t.keypad.queue.getLast? = some (s.eventNow i s.tables.keymap[i].code .press)))

/-- In a scan that changes no key the typematic key repeats when its repeat is due, if there is room, and the next is
due one period later either way (R107). Whatever command takes the scanner's kept power state out of RUNNING and
SHUTDOWN, the queue and the reported-down set are empty after it, the typematic key is none and every key physically
down is suppressed (R110). Room is judged by the event count plus the reported-down set's size (R108). That due times
are counted without a bound is the model's reading (log 17); that the clock is moved to the scan's moment is its choice
(log 2). -/
def Obligations.RepeatsComeAndFlushesEmpty : Prop :=
  (∀ k : Keypad, k.load = k.queue.length + k.reportedDown.length) ∧
  (∀ (s : State) (reading : BitVec 64) (i : Fin 64) (due : Nat), s.Quiet → s.NoChange reading → (∀ k, ¬s.Sticks k) →
    s.keypad.typematic = some (i, due) →
    ∃ t, exec (.scan reading) s = .next t ∧
      t = { s with clockMs := max s.clockMs (4 * s.keypad.scans), keypad := t.keypad } ∧
      t.keypad.reportedDown = s.keypad.reportedDown ∧ t.keypad.suppressed = s.keypad.suppressed ∧
      (4 * s.keypad.scans < due → t.keypad.queue = s.keypad.queue ∧ t.keypad.typematic = s.keypad.typematic) ∧
      (due ≤ 4 * s.keypad.scans → t.keypad.typematic = some (i, due + s.params.repeatPeriod) ∧
        t.keypad.queue =
          (if s.keypad.load + 1 ≤ 32 then s.keypad.queue ++ [s.eventNow i s.keypad.keys[i].code .autoRepeat]
           else s.keypad.queue))) ∧
  ∀ (s t : State) (c : Instr), exec c s = .next t → s.keypad.kept = .running ∨ s.keypad.kept = .shutdown →
    t.keypad.kept ≠ .running → t.keypad.kept ≠ .shutdown →
    t.keypad.queue = [] ∧ t.keypad.reportedDown = [] ∧ t.keypad.typematic = none ∧
      ∀ k : Fin 64, t.keypad.keys[k].state.physicallyDown = true → k ∈ t.keypad.suppressed

/-- The Sequence Matcher (R116, R117, R118, R120). A press cancels a slot in HOLDING and, where the slot judges,
advances, restarts or misses it; its end with a hold time above 0 is HOLDING. A slot fires on a press when it is the
lowest that reaches its end with hold time 0: the scan of a lone SERVICE press then clears every slot, plays ACCEPT and
delivers the action, here a NOTICE. A leave clears the slots HOLDING with the key, and a report those whose mask does
not allow the state; a press that meets a report of its scan is judged after it or before it, the report then waiting
on, a free choice of the model's (log 22). That the clock is moved to the scan's moment is the model's choice (log 2),
and that a key's entry time is counted without a bound its reading (log 17). -/
def Obligations.MatcherFollowsThePresses : Prop :=
  (∀ (m : Matcher) (slots : Vector SeqSlot 4) (timeout now : Nat) (k : Fin 64) (n : Fin 4),
    let e := slots[n]
    let p := m.slots[n]
    let q := (m.press slots timeout now k).slots[n]
    let at_ := e.reaches k p.judgedAt
    (¬e.JudgesIn m.kept → q = if p.holding.isSome then SlotProgress.clear else p) ∧
    (e.JudgesIn m.kept →
      (at_ = 0 → q = SlotProgress.clear) ∧
      (at_ ≠ 0 → at_ ≠ e.steps.length →
        q = { progress := at_, holding := none, stepTimer := some { start := now, dur := timeout }
              holdTimer := none }) ∧
      (at_ = e.steps.length → e.hold ≠ 0 →
        q = { progress := at_, holding := some k, stepTimer := none
              holdTimer := some { start := now, dur := e.hold * 100 } }))) ∧
  (∀ (m : Matcher) (slots : Vector SeqSlot 4) (k : Fin 64) (n : Fin 4),
    let completes (j : Fin 4) : Prop :=
      slots[j].JudgesIn m.kept ∧ slots[j].hold = 0 ∧ slots[j].reaches k m.slots[j].judgedAt = slots[j].steps.length
    m.firesOn slots k = some n ↔ completes n ∧ ∀ j < n, ¬completes j) ∧
  (∀ (s : State) (reading : BitVec 64) (i : Fin 64) (n : Fin 4), s.Quiet → s.LoneChange reading i →
    s.keypad.keys[i].state = .up → ¬InRectangle s.keypad.isDown i → (∀ k, ¬s.Sticks k) → s.RepeatNotDue →
    s.tables.keymap[i].kind = .service → s.matcher.firesOn s.tables.sequences i = some n →
    s.tables.sequences[n].action = .notice →
    let now := max s.clockMs (4 * s.keypad.scans)
    ∃ t, exec (.scan reading) s = .next t ∧
      t = { s with
            clockMs := now, keypad := t.keypad
            matcher := { s.matcher with slots := Vector.replicate 4 SlotProgress.clear }
            beeper := { s.beeper with
              oneShot := some { pattern := .accept, start := now, seg := 0 }
              silenced := s.beeper.silenced || s.beeper.background.isSome }
            mgmt := s.mgmt.post (.sequence n) }) ∧
  (∀ (m : Matcher) (k : Fin 64), m.leave k = { m with slots := slotsLeft k m.slots }) ∧
  (∀ (s : State) (k : Fin 64) (st : PowerState), s.matcher.deferred = [st] →
    let reported := { s.matcher.onReport s.tables.sequences st with deferred := [] }
    ∃ c, s.matcherPress k = { State.judgePress k { s with matcher := reported } with choices := c } ∨
      s.matcherPress k = { s.judgePress k with choices := c }) ∧
  ∀ (m : Matcher) (slots : Vector SeqSlot 4) (st : PowerState) (n : Fin 4),
    (m.onReport slots st).kept = st ∧
    (slots[n].mask.getLsbD st.code = true → (m.onReport slots st).slots[n] = m.slots[n]) ∧
    (slots[n].mask.getLsbD st.code = false → (m.onReport slots st).slots[n] = SlotProgress.clear)

/-- STEP_TIMER_EXPIRY clears its slot's progress (R119). HOLD_TIMER_EXPIRY fires the lowest slot due at its moment,
whichever of them it names: every slot is cleared, ACCEPT plays, and the action is delivered: NOTICE posts its notice;
POWER_ON in OFF and SERVICE_RELEASE in SERVICE_HOLD enter PREHEAT, the release with the restart window list emptied, and
RESTART in RUNNING pulses board reset, each with its record; elsewhere each is refused with REFUSE (R70, R73, R118,
R120, R122). That the clock is moved to the event's moment is the model's choice (log 2). -/
def Obligations.SequenceTimersExpire : Prop :=
  ∀ (s : State) (n : Fin 4) (tm : Timer), s.Quiet →
    let now := max s.clockMs (tm.start + tm.dur)
    let cleared : Matcher := { s.matcher with slots := Vector.replicate 4 SlotProgress.clear }
    let playing (p : OneShot) : Beeper :=
      { s.beeper with
        oneShot := some { pattern := p, start := now, seg := 0 }
        silenced := s.beeper.silenced || s.beeper.background.isSome }
    let made (c : Cause) (slot : Option SlotField) (p : PowerSeq) : PowerSeq :=
      p.logged (p.newRecord now s.heat.zones.board.hot c slot p.restartList.length)
    let action := s.tables.sequences[n].action
    (s.matcher.slots[n].stepTimer = some tm →
      exec (.stepTimerExpiry n) s = .next { s with
        clockMs := now
        matcher := { s.matcher with
          slots := s.matcher.slots.set n.val { s.matcher.slots[n] with progress := 0, stepTimer := none } } }) ∧
    (s.matcher.slots[n].holdTimer = some tm →
      ∀ (j : Fin 4) (other : Timer), s.matcher.slots[j].holdTimer = some other →
        other.start + other.dur = tm.start + tm.dur →
        exec (.holdTimerExpiry n) s = exec (.holdTimerExpiry j) s) ∧
    (s.matcher.slots[n].holdTimer = some tm →
      (∀ j < n, s.matcher.slots[j].holdTimer.map (fun x => x.start + x.dur) ≠ some (tm.start + tm.dur)) →
      (action = .notice →
        exec (.holdTimerExpiry n) s = .next { s with
          clockMs := now, matcher := cleared, beeper := playing .accept, mgmt := s.mgmt.post (.sequence n) }) ∧
      ((action = .powerOn ∧ s.power.state ≠ .off) ∨ (action = .restart ∧ s.power.state ≠ .running) ∨
          (action = .serviceRelease ∧ s.power.state ≠ .serviceHold) →
        exec (.holdTimerExpiry n) s = .next { s with
          clockMs := now, matcher := cleared, beeper := playing .refuse }) ∧
      ∀ p : PowerSeq,
        (action = .powerOn ∧ s.power.state = .off ∧
            p = (made .keyPowerOn (some (.slot n)) s.power).boardOff .preheat
              (some { start := now, dur := s.params.preheatLimit * 60000 })) ∨
          (action = .restart ∧ s.power.state = .running ∧
            p = (made .keyRestart (some (.slot n)) s.power).pulsing
              { start := now, dur := s.params.resetPulse * 10 }) ∨
          (action = .serviceRelease ∧ s.power.state = .serviceHold ∧
            p = (made .serviceReleased none { s.power with restartList := [] }).boardOff .preheat
              (some { start := now, dur := s.params.preheatLimit * 60000 })) →
        ∃ t, exec (.holdTimerExpiry n) s = .next t ∧ t.clockMs = now ∧ t.matcher.slots = cleared.slots ∧
          t.beeper.oneShot = (playing .accept).oneShot ∧ t.tables = s.tables ∧ t.meas = s.meas ∧ t.power = p)

/-- The beeper's own events (R121, R123, R124): REFUSE's segments end at 60 and 120 ms, SERVICE's every 100 ms up to 500
ms, HOT's at 500 ms; a one-shot ends after 20, 300 or 180 ms; a background period starts again after 8 s or 4 s, silent
if a one-shot is playing. A CLICK is dropped while ACCEPT or REFUSE plays, and any other request plays from its
beginning and silences a background (R122, R123). A report of SERVICE_HOLD or HOT_OFF that changes the background starts
its period, and one of another state ends it (R124). The output is on in a tone (R121). That the clock is moved to the
event's moment is the model's choice (log 2). -/
def Obligations.BeeperKeepsItsPatterns : Prop :=
  (∀ s : State, s.Ready →
    (∀ at_ n, s.beeper.oneShot = some { pattern := .refuse, start := at_, seg := n } → n < 2 →
      exec .beeperSegmentEnd s = .next { s with
        clockMs := max s.clockMs (at_ + 60 * (n + 1))
        beeper := { s.beeper with oneShot := some { pattern := .refuse, start := at_, seg := n + 1 } } }) ∧
    (∀ at_ n, s.beeper.oneShot = none → s.beeper.background = some { pattern := .service, start := at_, seg := n } →
      n < 5 → exec .beeperSegmentEnd s = .next { s with
        clockMs := max s.clockMs (at_ + 100 * (n + 1))
        beeper := { s.beeper with background := some { pattern := .service, start := at_, seg := n + 1 } } }) ∧
    (∀ at_, s.beeper.oneShot = none → s.beeper.background = some { pattern := .hot, start := at_, seg := 0 } →
      exec .beeperSegmentEnd s = .next { s with
        clockMs := max s.clockMs (at_ + 500)
        beeper := { s.beeper with background := some { pattern := .hot, start := at_, seg := 1 } } }) ∧
    (∀ o, s.beeper.oneShot = some o → exec .oneShotEnd s = .next { s with
      clockMs := max s.clockMs (o.start + (match o.pattern with | .click => 20 | .accept => 300 | .refuse => 180))
      beeper := { s.beeper with oneShot := none } }) ∧
    (∀ g, s.beeper.background = some g →
      let again := g.start + (match g.pattern with | .service => 8000 | .hot => 4000)
      exec .backgroundPeriodStart s = .next { s with
        clockMs := max s.clockMs again
        beeper := { s.beeper with
          background := some { pattern := g.pattern, start := again, seg := 0 }
          silenced := s.beeper.oneShot.isSome } })) ∧
  (∀ (b : Beeper) (p : OneShot) (now : Nat),
    (∀ o, b.oneShot = some o → p = .click → o.pattern ≠ .click → b.request p now = b) ∧
    (p ≠ .click ∨ (∀ o, b.oneShot = some o → o.pattern = .click) →
      b.request p now =
        { b with
          oneShot := some { pattern := p, start := now, seg := 0 }
          silenced := b.silenced || b.background.isSome })) ∧
  (∀ (b : Beeper) (st : PowerState) (now : Nat),
    let playsFrom (g : Background) : Beeper :=
      { b with background := some { pattern := g, start := now, seg := 0 }, silenced := b.oneShot.isSome }
    (st ≠ .serviceHold → st ≠ .hotOff → b.onReport st now = { b with background := none }) ∧
    (st = .serviceHold → b.onReport st now =
      if b.background.map BackgroundPlay.pattern = some .service then b else playsFrom .service) ∧
    (st = .hotOff → b.onReport st now =
      if b.background.map BackgroundPlay.pattern = some .hot then b else playsFrom .hot)) ∧
  ∀ b : Beeper,
    (∀ o, b.oneShot = some o →
      b.output = match o.pattern with | .refuse => decide (o.seg % 2 = 0) | .click => true | .accept => true) ∧
    (∀ g, b.oneShot = none → b.background = some g →
      b.output = (!b.silenced &&
        match g.pattern with | .service => decide (g.seg < 5 ∧ g.seg % 2 = 0) | .hot => decide (g.seg = 0))) ∧
    (b.oneShot = none → b.background = none → b.output = false)

/-! ## Management requests -/

/-- A request is dropped and counted as an overrun while the reply slot is full (R168); with the slot empty, BUSY while
a commit is in progress for SET_ENTRY, COMMIT_PROFILE and RESET_SUPERVISOR, BAD_COMMAND for an unknown command, and
BAD_LENGTH for a payload of 0 or 1 character (R169). Requests are turned away, changing nothing else: a payload of a
wrong size, an unknown table, an index or a group that is not there, the entries that cannot be written (classes 0 to 7,
channel 7), and an enumerated byte that is not listed, a choice and an operation among them (R1, R18, R74, R101, R115,
R142, R166, R169, R171, R172, R182). Where two arguments are wrong at once, which is judged first is the model's reading
(log 12); that a frame's command leaves the receiver between frames is its choice (log 2). -/
def Obligations.RequestsTurnedAway : Prop :=
  (∀ (s : State) (c : Instr) (p : List Byte), s.Ready → s.Hears → requestPayload c = some p →
    (s.sys.slot ≠ .empty → exec c s = .next { s.received 0 with
      mgmt :=
        { s.mgmt with
          sticky := s.mgmt.withFlag .mgmtOverrun, overrun := min (s.mgmt.overrun + 1) 65535 } }) ∧
    (s.sys.slot = .empty →
      (p = [] → exec c s = .next ((s.received 0).replied 0 0 .badLength [])) ∧
      (∀ b, p = [b] → exec c s = .next ((s.received 0).replied b.toNat 0 .badLength [])) ∧
      (∀ b tag args, p = b :: tag :: args →
        (b = 0 ∨ 13 < b.toNat → exec c s = .next ((s.received 0).replied b.toNat tag .badCommand [])) ∧
        (b = 5 ∨ b = 12 ∨ b = 13 → s.mgmt.commit = .inProgress →
          exec c s = .next ((s.received 0).replied b.toNat tag .busy []))))) ∧
  (∀ (s : State) (tag : Byte), s.Served →
    let u := s.received 0
    (∀ args : List Byte, args ≠ [] →
      exec (.getZones tag args) s = .next (u.replied 2 tag .badLength []) ∧
      exec (.getSamples tag args) s = .next (u.replied 3 tag .badLength []) ∧
      exec (.clearCounters tag args) s = .next (u.replied 7 tag .badLength [])) ∧
    (∀ args : List Byte, args.length ≠ 1 →
      exec (.getStatus tag args) s = .next (u.replied 1 tag .badLength []) ∧
      exec (.getLog tag args) s = .next (u.replied 8 tag .badLength [])) ∧
    (∀ args : List Byte, args.length ≠ 2 → exec (.getCounters tag args) s = .next (u.replied 6 tag .badLength [])) ∧
    (∀ (table : Byte) (args : List Byte), 6 < table.toNat →
      exec (.getEntry tag (table :: args)) s = .next (u.replied 4 tag .badTable [])) ∧
    (∀ (table : Byte) (args : List Byte), table.toNat ≤ 6 → args.length ≠ 1 →
      exec (.getEntry tag (table :: args)) s = .next (u.replied 4 tag .badLength [])) ∧
    (∀ table index : Byte, table.toNat ≤ 6 →
      ([64, 64, 4, 3, 8, 54, 2][table.toNat]?.getD 0 ≤ index.toNat ∨ (table = 5 ∧ index = 0)) →
      exec (.getEntry tag [table, index]) s = .next (u.replied 4 tag .badIndex [])) ∧
    (∀ first : Byte, 64 ≤ first.toNat →
      exec (.getCounters tag [0, first]) s = .next (u.replied 6 tag .badIndex [])) ∧
    (∀ group first : Byte, 2 < group.toNat →
      exec (.getCounters tag [group, first]) s = .next (u.replied 6 tag .badValue [])) ∧
    (∀ i : Byte, s.power.log.length ≤ i.toNat →
      exec (.getLog tag [i]) s = .next (u.replied 8 tag .badIndex [])) ∧
    exec (.getEntry tag []) s = .next (u.replied 4 tag .badLength []) ∧
    exec (.unknownCommand [9, tag]) s = .next (u.replied 9 tag .badLength []) ∧
    exec (.unknownCommand [10, tag]) s = .next (u.replied 10 tag .badLength []) ∧
    (∀ choice : Byte, 2 < choice.toNat →
      exec (.unknownCommand [9, tag, choice]) s = .next (u.replied 9 tag .badValue []) ∧
      exec (.unknownCommand [10, tag, choice]) s = .next (u.replied 10 tag .badValue []) ∧
      ∀ args : List Byte, args ≠ [] →
        exec (.unknownCommand (9 :: tag :: choice :: args)) s = .next (u.replied 9 tag .badLength []) ∧
        exec (.unknownCommand (10 :: tag :: choice :: args)) s = .next (u.replied 10 tag .badLength [])) ∧
    (∀ args : List Byte, args.length < 2 →
      exec (.unknownCommand (11 :: tag :: args)) s = .next (u.replied 11 tag .badLength [])) ∧
    (∀ (ch op : Byte) (args : List Byte), args.length ≠ 2 →
      exec (.forceSampleSet tag ch args) s = .next (u.replied 11 tag .badLength []) ∧
      exec (.forceSampleRelease tag ch args) s = .next (u.replied 11 tag .badLength []) ∧
      (1 < op.toNat → exec (.unknownCommand (11 :: tag :: ch :: op :: args)) s =
        .next (u.replied 11 tag .badLength []))) ∧
    (∀ ch op b0 b1 : Byte, 1 < op.toNat → exec (.unknownCommand [11, tag, ch, op, b0, b1]) s =
      .next (u.replied 11 tag (if ch.toNat < 7 then .badValue else .badIndex) []))) ∧
  ∀ (s : State) (tag : Byte), s.ServedFree →
    let no (st : Status) := (s.received 0).replied 5 tag st []
    exec (.unknownCommand [5, tag]) s = .next (no .badLength) ∧
    (∀ (table : Byte) (args : List Byte), 6 < table.toNat →
      exec (.unknownCommand (5 :: tag :: table :: args)) s = .next (no .badTable)) ∧
    (∀ args : List Byte, args ≠ [] →
      exec (.commitProfile tag args) s = .next ((s.received 0).replied 12 tag .badLength []) ∧
      exec (.resetSupervisor tag args) s = .next ((s.received 0).replied 13 tag .badLength [])) ∧
    (∀ args : List Byte,
      (args.length ≠ 6 → exec (.setEntryClass tag args) s = .next (no .badLength)) ∧
      (args.length ≠ 4 → exec (.setEntryKeymap tag args) s = .next (no .badLength)) ∧
      (args.length < 6 → exec (.setEntrySequence tag args) s = .next (no .badLength)) ∧
      (args.length ≠ 18 → exec (.setEntryZone tag args) s = .next (no .badLength)) ∧
      (args.length ≠ 5 → exec (.setEntryChannel tag args) s = .next (no .badLength)) ∧
      (args.length ≠ 5 → exec (.setEntryParameter tag args) s = .next (no .badLength)) ∧
      (args.length < 4 → exec (.setEntryInject tag args) s = .next (no .badLength))) ∧
    (∀ i d a f mn mx : Byte,
      (64 ≤ i.toNat → exec (.setEntryClass tag [i, d, a, f, mn, mx]) s = .next (no .badIndex)) ∧
      (i.toNat < 8 → exec (.setEntryClass tag [i, d, a, f, mn, mx]) s = .next (no .refused)) ∧
      (8 ≤ i.toNat → i.toNat < 64 → 3 < d.toNat ∨ 2 < a.toNat →
        exec (.setEntryClass tag [i, d, a, f, mn, mx]) s = .next (no .badValue))) ∧
    (∀ i c k f : Byte,
      (64 ≤ i.toNat → exec (.setEntryKeymap tag [i, c, k, f]) s = .next (no .badIndex)) ∧
      (i.toNat < 64 → 2 < k.toNat → exec (.setEntryKeymap tag [i, c, k, f]) s = .next (no .badValue))) ∧
    (∀ (i a m0 m1 h n : Byte) (steps : List Byte),
      (steps.length ≠ n.toNat ∨ 10 < n.toNat →
        exec (.setEntrySequence tag (i :: a :: m0 :: m1 :: h :: n :: steps)) s = .next (no .badLength)) ∧
      (steps.length = n.toNat → n.toNat ≤ 10 → 4 ≤ i.toNat →
        exec (.setEntrySequence tag (i :: a :: m0 :: m1 :: h :: n :: steps)) s = .next (no .badIndex)) ∧
      (steps.length = n.toNat → n.toNat ≤ 10 → i.toNat < 4 → 4 < a.toNat ∨ (∃ k ∈ steps, 64 ≤ k.toNat) →
        exec (.setEntrySequence tag (i :: a :: m0 :: m1 :: h :: n :: steps)) s = .next (no .badValue))) ∧
    (∀ (i : Byte) (rest : List Byte), rest.length = 17 → 3 ≤ i.toNat →
      exec (.setEntryZone tag (i :: rest)) s = .next (no .badIndex)) ∧
    (∀ (i c1 c2 : Byte) (rest : List Byte), rest.length = 15 → i.toNat < 3 →
      6 ≤ c1.toNat ∨ (6 ≤ c2.toNat ∧ c2 ≠ 255) →
      exec (.setEntryZone tag (i :: c1 :: c2 :: rest)) s = .next (no .badValue)) ∧
    (∀ s0 s1 o0 o1 : Byte,
      exec (.setEntryChannel tag [7, s0, s1, o0, o1]) s = .next (no .refused) ∧
      ∀ i : Byte, 8 ≤ i.toNat → exec (.setEntryChannel tag [i, s0, s1, o0, o1]) s = .next (no .badIndex)) ∧
    (∀ (i f c n : Byte) (payload : List Byte),
      (payload.length ≠ n.toNat ∨ 16 < n.toNat →
        exec (.setEntryInject tag (i :: f :: c :: n :: payload)) s = .next (no .badLength)) ∧
      (payload.length = n.toNat → n.toNat ≤ 16 → 2 ≤ i.toNat →
        exec (.setEntryInject tag (i :: f :: c :: n :: payload)) s = .next (no .badIndex)))

/-- The requests that read answer OK and change nothing but the reply slot: GET_STATUS without the clear flag,
GET_ZONES, GET_SAMPLES, GET_ENTRY of an entry there is, GET_COUNTERS of a group, GET_LOG of a record there is;
GET_STATUS with the clear flag also clears the sticky flags, and CLEAR_COUNTERS every counter (R13, R37, R74, R170,
R171, R172). A report sets its own flag and no other (R174). Each reply, record and entry is laid out as chapter 12 says
(R181, sections 12.4 to 12.6): the entries of classes 0 to 7 read reserved, and that of channel 7 its fixed slope and
offset. That a frame's command leaves the receiver between frames is the model's choice (log 2), and the code bits of an
absent raw code are free (log 10). -/
def Obligations.ReadingRequestsAnswer : Prop :=
  (∀ (s : State) (tag : Byte), s.Served →
    let u := s.received 0
    (∀ f : Byte, f.getLsbD 0 = false →
      exec (.getStatus tag [f]) s = .next (u.replied 1 tag .ok s.statusBytes)) ∧
    (∀ f : Byte, f.getLsbD 0 = true →
      exec (.getStatus tag [f]) s =
        .next { u.replied 1 tag .ok s.statusBytes with mgmt := { s.mgmt with sticky := 0 } }) ∧
    exec (.getZones tag []) s = .next (u.replied 2 tag .ok s.zonesBytes) ∧
    exec (.getSamples tag []) s = .next (u.replied 3 tag .ok s.samplesBytes) ∧
    (∀ c : Fin 64, ∃ counts, CarriesCounts counts [u.switch.passed[c], u.switch.dropped[c]] ∧
      exec (.getEntry tag [0, byte c.val]) s = .next (u.replied 4 tag .ok
        ((match s.tables.classEntry c with | some e => classBytes e | none => [255, 0, 0, 0, 0]) ++ counts))) ∧
    (∀ k : Fin 64, exec (.getEntry tag [1, byte k.val]) s = .next (u.replied 4 tag .ok (keyBytes s.tables.keymap[k]))) ∧
    (∀ n : Fin 4, exec (.getEntry tag [2, byte n.val]) s =
      .next (u.replied 4 tag .ok (slotBytes s.tables.sequences[n]))) ∧
    (∀ z : ZoneId, exec (.getEntry tag [3, byte (codeIn ZoneId.all z)]) s =
      .next (u.replied 4 tag .ok (zoneBytes (s.tables.zones.get z)))) ∧
    (∀ ch : Fin 7, exec (.getEntry tag [4, byte ch.val]) s =
      .next (u.replied 4 tag .ok (calibrationBytes s.tables.channels[ch]))) ∧
    exec (.getEntry tag [4, 7]) s = .next (u.replied 4 tag .ok (calibrationBytes { slope := 1024, offset := 0 })) ∧
    (∀ n : Fin 53, exec (.getEntry tag [5, byte (n.val + 1)]) s =
      .next (u.replied 4 tag .ok (paramBytes (s.params.listed[n.val]?.getD 0)))) ∧
    exec (.getEntry tag [6, 0]) s = .next (u.replied 4 tag .ok (injectBytes s.tables.dim)) ∧
    exec (.getEntry tag [6, 1]) s = .next (u.replied 4 tag .ok (injectBytes s.tables.wake)) ∧
    (∀ first : Byte, first.toNat < 64 →
      exec (.getCounters tag [0, first]) s = .next (u.replied 6 tag .ok (first :: u.switch.groupBytes first.toNat))) ∧
    (∀ x : Byte, exec (.getCounters tag [1, x]) s =
      .next (u.replied 6 tag .ok (errorBytes s.sys.errors ++ errorBytes s.disp.errors))) ∧
    (∀ x : Byte, exec (.getCounters tag [2, x]) s = .next (u.replied 6 tag .ok s.queueCounters)) ∧
    (∀ (i : Byte) (r : LogRecord), s.power.log[i.toNat]? = some r →
      exec (.getLog tag [i]) s = .next (u.replied 8 tag .ok (logBytes r))) ∧
    exec (.clearCounters tag []) s = .next (State.replied 7 tag .ok [] { u with
      switch := { passed := Vector.replicate 64 0, dropped := Vector.replicate 64 0 }
      sys := { u.sys with errors := PortErrors.zero, fwdDiscard := 0 }
      disp := { s.disp with errors := PortErrors.zero }
      path := { s.path with dqDiscard := 0 }
      keypad := { s.keypad with lossCount := 0 }
      mgmt := { s.mgmt with overrun := 0 }
      live := { s.live with early := 0 } })) ∧
  (∀ s : State, StatusLayout s s.statusBytes ∧ ZonesLayout s s.zonesBytes ∧ SamplesLayout s s.samplesBytes ∧
    CarriesCounts s.queueCounters
      [s.path.dqDiscard, s.sys.fwdDiscard, s.keypad.lossCount, s.mgmt.overrun, s.live.early]) ∧
  (∀ (m : Mgmt) (f g : StickyFlag),
    ({ m with sticky := m.withFlag f } : Mgmt).hasFlag g = (m.hasFlag g || decide (g = f))) ∧
  (∀ r : LogRecord, LogLayout r (logBytes r)) ∧ (∀ e : PortErrors, CarriesCounts (errorBytes e) e.counts) ∧
  (∀ (w : Switch) (first : Fin 64), CarriesCounts (w.groupBytes first.val) (w.counts first.val)) ∧
  (∀ (t : Tables) (c : Fin 64),
    (c.val < 8 → t.classEntry c = none) ∧ ∀ i : Fin 56, c.val = i.val + 8 → t.classEntry c = some t.classes[i]) ∧
  (∀ e : ClassEntry, ClassLayout e (classBytes e)) ∧ (∀ e : KeyEntry, KeyLayout e (keyBytes e)) ∧
  (∀ e : SeqSlot, SlotLayout e (slotBytes e)) ∧ (∀ r : ZoneRecord, ZoneLayout r (zoneBytes r)) ∧
  (∀ c : Calibration, ChannelLayout c (calibrationBytes c)) ∧ (∀ v : Int, ParameterLayout v (paramBytes v)) ∧
  ∀ e : InjectEntry, InjectLayout e (injectBytes e)

/-- SET_ENTRY of a class, a key, a channel or an injection with a payload that spells an entry stores it, its numeric
fields taken to their limits, and answers it as stored; a coalesce flag newly set merges the queued frames of its class
at the oldest's place with the newest's content (R1, R101, R142, R143, R160, R166). SET_ENTRY of a sequence slot stores
it with its hold time at most 100 and clears the slot's progress (R115). Of a zone record it stores the record, its
numeric fields at their limits; the zone that held its priority takes the record's former one, and the soak accumulator
is cleared if the channels changed; the record in force stays until the next evaluation (R18). The five bytes of a CLASS
reply are the model's reading (log 12); that a frame's command leaves the receiver between frames is its choice (log 2).
A class byte of an injection above 63 is stored as 63 and answered CLAMPED (R166), and bits of a flag byte that are not
named are ignored (R181). -/
def Obligations.SetEntryStoresTheEntry : Prop :=
  (∀ (s : State) (tag : Byte), s.ServedFree →
    let u := s.received 0
    (∀ (c : Fin 56) (e : ClassEntry), e.minLength < 256 → e.maxLength < 256 →
      let e1 := { e with minLength := min e.minLength 48, maxLength := max (min e.maxLength 48) (min e.minLength 48) }
      ∃ t, exec (.setEntryClass tag (byte (c.val + 8) :: classBytes e)) s = .next t ∧
        t = { u.replied 5 tag (if e.minLength ≤ e.maxLength ∧ e.maxLength ≤ 48 then .ok else .clamped)
                (classBytes e1) with
              tables := { s.tables with classes := s.tables.classes.set c.val e1 }
              path := { s.path with queue := t.path.queue } } ∧
        (e.coalesce = false ∨ s.tables.classes[c].coalesce = true → t.path.queue = s.path.queue) ∧
        (e.coalesce = true → s.tables.classes[c].coalesce = false → ∀ k : Fin 64, k.val = c.val + 8 →
          t.path = s.path.coalesceSet k ∧
          ∀ before oldest after, s.path.queue = before ++ oldest :: after → oldest.cls = k →
            (∀ x ∈ before, x.cls ≠ k) →
            ((∀ x ∈ after, x.cls ≠ k) → t.path.queue = before ++ { oldest with coalesce := true } :: after) ∧
            ∀ mid newest rest, after = mid ++ newest :: rest → newest.cls = k → (∀ x ∈ rest, x.cls ≠ k) →
              t.path.queue =
                before ++ { newest with coalesce := true } :: mid.filter (fun x => x.cls ≠ k) ++ rest)) ∧
    (∀ (k : Fin 64) (e : KeyEntry),
      exec (.setEntryKeymap tag (byte k.val :: keyBytes e)) s = .next { u.replied 5 tag .ok (keyBytes e) with
        tables := { s.tables with keymap := s.tables.keymap.set k.val e } }) ∧
    (∀ (c : Fin 7) (x : Calibration), -32768 ≤ x.slope → x.slope < 32768 → -32768 ≤ x.offset → x.offset < 32768 →
      let y : Calibration :=
        { slope := max (-8192) (min 8191 x.slope), offset := max (-2048) (min 2047 x.offset) }
      exec (.setEntryChannel tag (byte c.val :: calibrationBytes x)) s =
        .next { u.replied 5 tag (if x = y then .ok else .clamped) (calibrationBytes y) with
          tables := { s.tables with channels := s.tables.channels.set c.val y } }) ∧
    (∀ e : InjectEntry, e.payload.length ≤ 16 →
      let e1 := { e with cls := if e.cls.val < 8 then 8 else e.cls }
      let st := if 8 ≤ e.cls.val then Status.ok else .clamped
      exec (.setEntryInject tag (0 :: injectBytes e)) s =
        .next { u.replied 5 tag st (injectBytes e1) with tables := { s.tables with dim := e1 } } ∧
      exec (.setEntryInject tag (1 :: injectBytes e)) s =
        .next { u.replied 5 tag st (injectBytes e1) with tables := { s.tables with wake := e1 } }) ∧
    (∀ (f c n : Byte) (payload : List Byte), 63 < c.toNat → payload.length = n.toNat → n.toNat ≤ 16 →
      let e1 : InjectEntry := { enable := f.getLsbD 0, cls := 63, payload := payload }
      exec (.setEntryInject tag (0 :: f :: c :: n :: payload)) s =
        .next { u.replied 5 tag .clamped (injectBytes e1) with tables := { s.tables with dim := e1 } } ∧
      exec (.setEntryInject tag (1 :: f :: c :: n :: payload)) s =
        .next { u.replied 5 tag .clamped (injectBytes e1) with tables := { s.tables with wake := e1 } }) ∧
    (∀ i a b f c d : Byte,
      exec (.setEntryClass tag [i, a, b, f, c, d]) s = exec (.setEntryClass tag [i, a, b, f &&& 15, c, d]) s ∧
      exec (.setEntryKeymap tag [i, a, b, f]) s = exec (.setEntryKeymap tag [i, a, b, f &&& 3]) s ∧
      ∀ rest : List Byte,
        exec (.setEntryInject tag (i :: f :: rest)) s = exec (.setEntryInject tag (i :: (f &&& 1) :: rest)) s ∧
        exec (.setEntrySequence tag (i :: a :: b :: f :: rest)) s =
          exec (.setEntrySequence tag (i :: a :: b :: (f &&& 1) :: rest)) s ∧
        exec (.setEntryZone tag (i :: a :: b :: f :: rest)) s =
          exec (.setEntryZone tag (i :: a :: b :: (f &&& 3) :: rest)) s)) ∧
  (∀ (s : State) (tag : Byte) (n : Fin 4) (e : SeqSlot), s.ServedFree → e.hold < 256 → e.steps.length ≤ 10 →
    let e1 := { e with hold := min e.hold 100 }
    exec (.setEntrySequence tag (byte n.val :: slotBytes e)) s =
      .next { (s.received 0).replied 5 tag (if e.hold ≤ 100 then .ok else .clamped) (slotBytes e1) with
        tables := { s.tables with sequences := s.tables.sequences.set n.val e1 }
        matcher := { s.matcher with slots := s.matcher.slots.set n.val SlotProgress.clear } }) ∧
  ∀ (s : State) (tag : Byte) (z : ZoneId) (r : ZoneRecord), s.ServedFree → PrioritiesPermuted s.tables.zones →
    -32768 ≤ r.tstart → r.tstart < 32768 → r.hyst ≤ 255 → r.soakTarget ≤ 65535 → -32768 ≤ r.thold →
    r.thold < 32768 → r.band ≤ 255 → -32768 ≤ r.tcut → r.tcut < 32768 → -32768 ≤ r.tminAbs → r.tminAbs < 32768 →
    r.watts ≤ 255 → r.priority ≤ 255 →
    let r1 :=
      { r with
        tstart := max (-240) (min 600 r.tstart), thold := max (-240) (min 600 r.thold), band := max 1 r.band
        tcut := max (-240) (min 600 r.tcut), tminAbs := max (-240) (min 600 r.tminAbs), watts := max 1 r.watts
        priority := min 2 r.priority }
    ∃ t, exec (.setEntryZone tag (byte (match z with | .board => 0 | .display => 1 | .front => 2) :: zoneBytes r)) s
        = .next t ∧
      t = { (s.received 0).replied 5 tag (if r = r1 then .ok else .clamped) (zoneBytes r1) with
            tables := { s.tables with zones := t.tables.zones }, heat := { s.heat with zones := t.heat.zones } } ∧
      t.tables.zones.get z = r1 ∧ PrioritiesPermuted t.tables.zones ∧
      (∀ o, o ≠ z → t.tables.zones.get o =
        { s.tables.zones.get o with
          priority := if (s.tables.zones.get o).priority = r1.priority then (s.tables.zones.get z).priority
                      else (s.tables.zones.get o).priority }) ∧
      (∀ o, t.heat.zones.get o =
        { s.heat.zones.get o with
          soak := if o = z ∧ ((s.tables.zones.get z).first ≠ r.first ∨ (s.tables.zones.get z).second ≠ r.second)
                  then 0 else (s.heat.zones.get o).soak })

/-- A write of a parameter (R172, R181; R3, R24, R78; chapter 12, section 12.6): one of listed values, a flag or a code
takes the values it accepts and turns every other down with BAD_VALUE, changing nothing; a numeric one is stored at the
nearest limit of its range, OK if that is the value written and CLAMPED if not. The parameters that the written one
bounds follow it: the last index to a raised first index, the smaller budgets and the reserve down, hb_min below hb_max.
No other parameter changes. The parameters stand in the list's order, and their built-in values are the list's; those of
the other tables are the ones their rules give (R1, R17, R101, R115, R141, R166). -/
def Obligations.ParameterWritesChangeOneValue : Prop :=
  (∀ (p : Params) (n : Fin 53), p.listed[n.val]? = some (p.get (n.val + 1))) ∧
  Params.default.listed =
    [1000, 0, 7, 3, 120, 60, 60, 4, 360, 420, 20, 1, 280, 20, 340, 240, 280, 100, 12, 300, 0, 30, 1000, 96, 20, 5, 30,
     20, 30, 3, 1, 0, 1, 120, 50, 0, 10, 5, 30, 10, 100, 0, 2000, 115200, 115200, 10, 5, 2, 3, 20, 30, 1, 1] ∧
  (let d := Tables.default
   d.params = Params.default ∧
   (∀ c : Fin 56, d.classes[c] =
    { direction := .both, action := .hold, heartbeat := false, activity := true, coalesce := false, wake := true
      minLength := 0, maxLength := 48 }) ∧
   (∀ k : Fin 64, d.keymap[k] = { code := byte k.val, kind := .normal, repeats := true, click := true }) ∧
   d.sequences.toList.map (fun e => (e.action, e.hold, e.steps)) =
    [(.serviceRelease, 30, [56, 63, 56, 63]), (.restart, 50, [56, 57, 63]), (.powerOn, 20, [56]), (.none, 0, [])] ∧
   (∀ st : PowerState, d.sequences.toList.map (fun e => e.mask.getLsbD (codeIn codedPowerStates st)) =
    [decide (st = .serviceHold), decide (st = .running), decide (st = .off), false]) ∧
   d.zones =
    { board :=
        { first := 0, second := some 1, boardGate := true, displayGate := false, tstart := 0, hyst := 8
          soakTarget := 7200, thold := 40, band := 8, tcut := 240, tminAbs := -40, watts := 30, priority := 1 }
      display :=
        { first := 2, second := some 3, boardGate := false, displayGate := true, tstart := 20, hyst := 8
          soakTarget := 4800, thold := 60, band := 8, tcut := 220, tminAbs := -80, watts := 40, priority := 0 }
      front :=
        { first := 4, second := none, boardGate := false, displayGate := false, tstart := 0, hyst := 8
          soakTarget := 2400, thold := 20, band := 8, tcut := 180, tminAbs := -160, watts := 15, priority := 2 } } ∧
   (∀ ch : Fin 7, d.channels[ch] =
    if ch.val = 6 then { slope := 150, offset := 0 } else { slope := 220, offset := -280 }) ∧
   d.dim = { enable := false, cls := 8, payload := [] } ∧ d.wake = { enable := false, cls := 8, payload := [] }) ∧
  ∀ (p : Params) (n : Nat) (v : Int), p.Ordered → 1 ≤ n → n ≤ 53 →
    let w := p.write n v
    ((acceptedValues n).isSome = true ∨ (p.limits n).isSome = true) ∧
    (∀ vs, acceptedValues n = some vs →
      (v ∈ vs → w.2 = .ok ∧ w.1.get n = v) ∧ (v ∉ vs → w = (p, .badValue))) ∧
    (∀ lo hi, p.limits n = some (lo, hi) →
      w.1.get n = max lo (min hi v) ∧ w.2 = (if lo ≤ v ∧ v ≤ hi then Status.ok else .clamped)) ∧
    (n = 2 → w.1.get 3 = max (p.get 3) (w.1.get 2)) ∧
    (n = 5 → w.1.get 6 = min (p.get 6) (w.1.get 5) ∧ w.1.get 7 = min (p.get 7) (w.1.get 6)) ∧
    (n = 6 → w.1.get 7 = min (p.get 7) (w.1.get 6)) ∧
    (n = 35 → w.1.get 36 = if w.1.get 35 ≤ p.get 36 then w.1.get 35 - 1 else p.get 36) ∧
    ∀ m, m ≠ n →
      ¬(n = 2 ∧ m = 3) → ¬(n = 5 ∧ (m = 6 ∨ m = 7)) → ¬(n = 6 ∧ m = 7) → ¬(n = 35 ∧ m = 36) → w.1.get m = p.get m

/-- SET_ENTRY of a parameter (R66, R127, R172): the number is judged, the value written and answered as stored; a
lowered restart limit trims the restart window list, and a port rate waits for its reply to end. That a frame's command
leaves the receiver between frames is the model's choice (log 2). -/
def Obligations.SetParameterStoresTheValue : Prop :=
  ∀ (s : State) (tag n b0 b1 b2 b3 : Byte), s.ServedFree →
    let u := s.received 0
    let w := s.params.write n.toNat (b3 ++ b2 ++ b1 ++ b0 : BitVec 32).toInt
    let stored := { u.replied 5 tag w.2 (paramBytes (w.1.get n.toNat)) with tables := { s.tables with params := w.1 } }
    (n = 0 ∨ 53 < n.toNat →
      exec (.setEntryParameter tag [n, b0, b1, b2, b3]) s = .next (u.replied 5 tag .badIndex [])) ∧
    (1 ≤ n.toNat → n.toNat ≤ 53 →
      (w.2 = .badValue →
        exec (.setEntryParameter tag [n, b0, b1, b2, b3]) s = .next (u.replied 5 tag .badValue [])) ∧
      (w.2 ≠ .badValue →
        (n ≠ 30 → n ≠ 44 → n ≠ 45 → exec (.setEntryParameter tag [n, b0, b1, b2, b3]) s = .next stored) ∧
        (n = 30 → exec (.setEntryParameter tag [n, b0, b1, b2, b3]) s = .next { stored with
          power := { s.power with
            restartList := s.power.restartList.drop (s.power.restartList.length - w.1.restartLimit) } }) ∧
        (n = 44 → exec (.setEntryParameter tag [n, b0, b1, b2, b3]) s = .next { stored with
          sys := { stored.sys with rateChange := some (.system, w.1.systemRate) } }) ∧
        (n = 45 → exec (.setEntryParameter tag [n, b0, b1, b2, b3]) s = .next { stored with
          sys := { stored.sys with rateChange := some (.display, w.1.displayRate) } })))

/-- REQUEST_POWER in RUNNING: OFF enters SHUTDOWN bound for OFF, or with a delay of 0 OFF at once; RESTART pulses board
reset; CYCLE turns board power off; each makes its record, and a reply whose port dies is discarded. OFF in SHUTDOWN
ends it. In other states, and for RESTART and CYCLE outside RUNNING, REFUSED (R63, R67, R68, R69, R71, R133, R135).
CYCLE also releases the reserve, and the grants stay (R34, R55). That a frame's command leaves the receiver between
frames is the model's choice (log 2). -/
def Obligations.PowerRequestsActByState : Prop :=
  ∀ (s : State) (tag : Byte), s.Served → s.mgmt.pendingSoft = false →
    let u := s.received 0
    let rec_ (c : Cause) := s.power.logged
      (s.power.newRecord s.clockMs s.heat.zones.board.hot c none s.power.restartList.length)
    (s.power.state = .running → s.power.resetAsserted = false →
      (s.params.hostOffDelay ≠ 0 → ∃ t, exec (.requestPowerOff tag []) s = .next t ∧ u.SameOutsidePower t ∧
        t.power =
          { rec_ .hostOff with
            state := .shutdown, phase := none, dest := some .off, boardPower := true
            timer := some { start := s.clockMs, dur := s.params.hostOffDelay * 1000 } } ∧
        t.sys = (u.replied 9 tag .ok []).sys) ∧
      (s.params.hostOffDelay = 0 → ∃ t, exec (.requestPowerOff tag []) s = .next t ∧ u.SameOutsidePower t ∧
        t.power = (rec_ .hostOff).boardOff .off none ∧ t.sys.slot = .empty ∧ t.sys.isLive = false) ∧
      (∃ t, exec (.requestPowerRestart tag []) s = .next t ∧ u.SameOutsidePower t ∧
        t.power = (rec_ .hostRestart).pulsing { start := s.clockMs, dur := s.params.resetPulse * 10 } ∧
        t.sys.slot = .empty ∧ t.sys.isLive = false) ∧
      (∃ t, exec (.requestPowerCycle tag []) s = .next t ∧ u.SameOutsidePower t ∧
        t.power = (rec_ .hostCycle).boardOff .cycling (some { start := s.clockMs, dur := s.params.offTime * 1000 }) ∧
        t.sys.slot = .empty ∧ t.sys.isLive = false ∧
        (s.power.boardPower = true → s.heat.reserveHeld = true →
          t.heat = { s.heat with kept := .cycling, reserveHeld := false, reserve := 0 }))) ∧
    (s.power.state = .shutdown → ∃ t, exec (.requestPowerOff tag []) s = .next t ∧ u.SameOutsidePower t ∧
      t.power = (rec_ .hostOff).boardOff (if s.power.dest = some .off then .off else .hotOff) none ∧
      t.sys.slot = .empty) ∧
    (s.power.state ≠ .running →
      (s.power.state ≠ .shutdown → exec (.requestPowerOff tag []) s = .next (u.replied 9 tag .refused [])) ∧
      exec (.requestPowerRestart tag []) s = .next (u.replied 9 tag .refused []) ∧
      exec (.requestPowerCycle tag []) s = .next (u.replied 9 tag .refused [])) ∧
    (∀ args : List Byte, args ≠ [] →
      exec (.requestPowerOff tag args) s = .next (u.replied 9 tag .badLength []) ∧
      exec (.requestPowerRestart tag args) s = .next (u.replied 9 tag .badLength []) ∧
      exec (.requestPowerCycle tag args) s = .next (u.replied 9 tag .badLength []))

/-- REQUEST_DISPLAY: DIM in OPEN dims the path, DIM being injected, WAKE opens a dimmed path unless heat-dim holds, WAKE
being injected, and RESTART recovers from any state but OFF with the retry count first at 0; elsewhere REFUSED (R158,
R162, R163, R164, R165). That a frame's command leaves the receiver between frames is the model's choice (log 2). -/
def Obligations.DisplayRequestsActByState : Prop :=
  ∀ (s : State) (tag : Byte), s.Served →
    let u := s.received 0
    (s.path.state = .opened → exec (.requestDisplayDim tag []) s = .next (u.replied 10 tag .ok []).dims) ∧
    (s.path.state ≠ .opened → exec (.requestDisplayDim tag []) s = .next (u.replied 10 tag .refused [])) ∧
    (s.path.state = .dimmed → s.path.heatDim = false →
      exec (.requestDisplayWake tag []) s = .next (u.replied 10 tag .ok []).wakes) ∧
    (s.path.state ≠ .dimmed ∨ s.path.heatDim = true →
      exec (.requestDisplayWake tag []) s = .next (u.replied 10 tag .refused [])) ∧
    (s.path.state ≠ .off → exec (.requestDisplayRestart tag []) s = .next { u.replied 10 tag .ok [] with
      path := DisplayPath.afterRecovery s.params s.clockMs s.disp.tx.isSome { s.path with retry := 0 }
      disp := { s.disp with tx := none }
      mgmt := s.mgmt.afterRecovery s.params 0 }) ∧
    (s.path.state = .off → exec (.requestDisplayRestart tag []) s = .next (u.replied 10 tag .refused [])) ∧
    (∀ args : List Byte, args ≠ [] →
      exec (.requestDisplayDim tag args) s = .next (u.replied 10 tag .badLength []) ∧
      exec (.requestDisplayWake tag args) s = .next (u.replied 10 tag .badLength []) ∧
      exec (.requestDisplayRestart tag args) s = .next (u.replied 10 tag .badLength []))

/-- FORCE_SAMPLE stores a pending change of a channel 0 to 6, the value taken to the channel's range; COMMIT_PROFILE
begins to write the tables as they stand, every field and every parameter of them; RESET_SUPERVISOR leaves a soft reset
pending (R12, R178, R179). COMMIT_END: a read-back that matches makes the image whole and the commit DONE; one that does
not makes it FAILED and reports COMMIT_FAILED; with no commit in progress nothing ends (R178). How the image is held,
its version 1, its CRC wrong until the read-back matches and no unknown value in it, is the model's choice (log 5); that
a frame's command leaves the receiver between frames is too (log 2). -/
def Obligations.WaitingWorkIsNotedAndCommitted : Prop :=
  (∀ (s : State) (tag : Byte), s.Served →
    let u := s.received 0
    (∀ (ch : Fin 7) (v : Int), -32768 ≤ v → v < 32768 →
      let lo : Int := if ch.val = 6 then 0 else -240
      (s16 v).length = 2 ∧ Carries (s16 v) 0 2 v ∧
      exec (.forceSampleSet tag (byte ch.val) (s16 v)) s =
        .next { u.replied 11 tag (if lo ≤ v ∧ v ≤ 600 then .ok else .clamped) [] with
          meas := { s.meas with changes := s.meas.changes.set ch.val (.set (max lo (min 600 v))) } }) ∧
    (∀ (ch : Fin 7) (b0 b1 : Byte), exec (.forceSampleRelease tag (byte ch.val) [b0, b1]) s =
      .next { u.replied 11 tag .ok [] with
        meas := { s.meas with changes := s.meas.changes.set ch.val .release } }) ∧
    (∀ ch b0 b1 : Byte, 7 ≤ ch.toNat →
      exec (.forceSampleSet tag ch [b0, b1]) s = .next (u.replied 11 tag .badIndex []) ∧
      exec (.forceSampleRelease tag ch [b0, b1]) s = .next (u.replied 11 tag .badIndex [])) ∧
    (s.mgmt.commit ≠ .inProgress →
      exec (.commitProfile tag []) s = .next { u.replied 12 tag .ok [] with
        store := { version := 1, crcOk := false, unknownEnum := false, tables := s.tables.image }
        mgmt := { s.mgmt with commit := .inProgress } } ∧
      exec (.resetSupervisor tag []) s = .next { u.replied 13 tag .ok [] with
        mgmt := { s.mgmt with pendingSoft := true } })) ∧
  (∀ t : Tables,
    let i := t.image
    i.classes = t.classes ∧ i.keymap = t.keymap ∧ i.sequences = t.sequences ∧ i.zones = t.zones ∧
    i.channels = t.channels ∧
    i.dim = { enable := t.dim.enable, cls := t.dim.cls.val, payload := t.dim.payload } ∧
    i.wake = { enable := t.wake.enable, cls := t.wake.cls.val, payload := t.wake.payload } ∧
    ∀ n : Fin 53, some i.params[n] = t.params.listed[n.val]?) ∧
  ∀ s : State, s.Ready →
    (s.mgmt.commit = .inProgress →
      exec (.commitEnd true) s = .next { s with
        store := { s.store with crcOk := true }, mgmt := { s.mgmt with commit := .done } } ∧
      exec (.commitEnd false) s = .next { s with
        mgmt := { s.mgmt with commit := .failed, sticky := s.mgmt.withFlag .commitFailed } }) ∧
    (s.mgmt.commit ≠ .inProgress → ∀ ok, exec (.commitEnd ok) s = .next s)

/-- When the reply to RESET_SUPERVISOR has been sent the soft reset is performed (R179): the flags and counters are
cleared, the tables reloaded, the restart window list trimmed, the sequence slots cleared, overrides to be released, the
soak of a zone with other channels cleared (R39), a heartbeat accepted in WATCHING and WARNED (R92), the loaded rates in
use, a receiver whose rate changes in DISCARD (R127), and the queued frames of classes that the load makes coalesce
merged (R153); the power state, its outputs, the log, the samples and the notices stay. When the reply ends as DISCARDED
(R135), by a break on the system line or by the port's death on a power or liveness event, the same soft reset is
performed on the state that the event would otherwise leave, with the flags it reports. Whatever command empties the
slot, what the soft reset clears, reloads, accepts and merges is so afterwards. That it comes after all else the command
does is the model's choice (log 8); which flags that the command itself reports are kept is free (log 11). -/
def Obligations.SoftResetFollowsItsReply : Prop :=
  (∀ (s : State) (r : Reply) (rate : Nat), s.Ready → s.mgmt.pendingSoft = true →
    s.sys.tx = some { content := .reply r, rate := rate } → ∃ t, exec .systemFrameSent s = .next t ∧
    State.SoftResets t
      { s with
        mgmt := { s.mgmt with sticky := 0 }, disp := { s.disp with rx := t.disp.rx }
        sys := { s.sys with slot := .empty, tx := none, rateChange := none, rx := t.sys.rx } } ∧
    (s.sys.rateChange = none →
      (s.sys.rate = t.params.systemRate → t.sys.rx = s.sys.rx) ∧
      (s.disp.rate = t.params.displayRate → t.disp.rx = s.disp.rx))) ∧
  (∀ s : State, s.Ready → s.sys.receives = true → ∃ t, exec (.lineBreak .system) s = .next t ∧ t.sys.slot = .empty) ∧
  (∀ (s : State) (c : Instr), s.Ready → s.mgmt.pendingSoft = true → s.sys.slot ≠ .empty →
    c ∈ [.lineBreak .system, .powerGoodChange true, .powerGoodChange false, .bootTimeout, .heartbeatTimerExpiry,
      .graceTimerExpiry, .shutdownGraceExpiry] →
    ∃ t u, exec c s = .next t ∧
      exec c { s with mgmt := { s.mgmt with pendingSoft := false, sticky := 0 } } = .next u ∧
      (t.sys.slot = .empty → State.SoftResets t u)) ∧
  ∀ (s t : State) (c : Instr), s.Ready → s.mgmt.pendingSoft = true → s.sys.slot ≠ .empty → exec c s = .next t →
    t.held = false → t.sys.slot = .empty →
    t.mgmt.pendingSoft = false ∧ t.mgmt.overrun = 0 ∧ t.tables = t.store.load ∧
    (t.store.accepted = false → t.mgmt.hasFlag .profileDefaulted = true) ∧
    (∀ f, t.mgmt.hasFlag f = true → (f = .profileDefaulted ∧ t.store.accepted = false) ∨
      (Config.keptAtSoftReset (t.choices - 1)).getLsbD f.bit.val = true) ∧
    t.meas.changes = t.meas.overrides.map (fun o => if o.isSome then PendingChange.release else .none) ∧
    t.matcher.slots = Vector.replicate 4 SlotProgress.clear ∧ t.keypad.lossCount = 0 ∧
    (t.live.early = 0 ∧ t.live.stage ≠ .warned ∧
      (s.KeptRight → s.StageRight → (t.live.stage = .watching ↔ t.power.state = .running)) ∧
      (t.live.stage = .watching → t.live.graceTimer = none ∧ t.live.last = some t.clockMs ∧
        t.live.hbTimer = some { start := t.clockMs, dur := t.params.hbMax * 100 })) ∧
    (∀ z, (s.tables.zones.get z).first ≠ (t.tables.zones.get z).first ∨
        (s.tables.zones.get z).second ≠ (t.tables.zones.get z).second → (t.heat.zones.get z).soak = 0) ∧
    (∀ k : Fin 64, t.tables.coalesceOf k = true → s.tables.coalesceOf k = false →
      (t.path.queue.filter (fun f => f.cls = k)).length ≤ 1 ∧ ∀ f ∈ t.path.queue, f.cls = k → f.coalesce = true) ∧
    t.power.restartList.length ≤ t.params.restartLimit ∧ t.sys.errors = PortErrors.zero ∧ t.sys.fwdDiscard = 0 ∧
    t.sys.rate = t.params.systemRate ∧ t.disp.errors = PortErrors.zero ∧ t.disp.rate = t.params.displayRate ∧
    t.switch = { passed := Vector.replicate 64 0, dropped := Vector.replicate 64 0 } ∧ t.path.dqDiscard = 0

/-! ## Invariants -/

/-- Every step keeps the model's own marks clear, the power state that each block keeps, and the liveness stage in
agreement with the Power Sequencer (R55, R77; log 8). -/
def Obligations.StepsKeepTheBlocksTogether : Prop :=
  ∀ s t : State, s.AtRest → s.KeptRight → s.StageRight → step s = .next t → t.AtRest ∧ t.KeptRight ∧ t.StageRight

/-- Every step leaves the two outputs as the state and phase say (R53), and the reserve held from phase RESERVE until
board power is off, with none in force while it is not held (R33, R34, R55). It keeps the system port live exactly while
board power is on and board reset released, its sources empty while it is not, and its forwarded queue within 16 frames
(R133, R135, R137); the display path OFF exactly while board power is off, and display power on exactly in STARTING,
OPEN and DIMMED (R154, R156, R158); and the path's copy of heat-dim as the Thermal Limit Monitor has it (R47, R164). -/
def Obligations.StepsKeepTheOutputsAndLinksRight : Prop :=
  ∀ s t : State, step s = .next t →
    (s.power.OutputsRight → t.power.OutputsRight) ∧ (s.ReserveRight → t.ReserveRight) ∧
    (s.LinkRight → t.LinkRight) ∧ (s.PathRight → t.PathRight) ∧
    (s.path.heatDim = s.thermal.heatDim → t.path.heatDim = t.thermal.heatDim)

/-- Every step keeps the restart window list within the restart limit and the Restart Log within 16 records (R66, R74),
the key event count plus the reported-down set's size at most 32 (R108), at most one notice of each kind, none outside
RUNNING and SHUTDOWN (R175, R176), and the display queue within 16 frames, with at most one of each coalescing class
(R153, R160). -/
def Obligations.StepsKeepTheQueuesBounded : Prop :=
  ∀ s t : State, step s = .next t →
    (s.ListsBounded → t.ListsBounded) ∧ (s.keypad.RoomKept → t.keypad.RoomKept) ∧
    (s.mgmt.QueueRight → t.mgmt.QueueRight) ∧ (s.DisplayQueueRight → t.DisplayQueueRight)

/-- Every step keeps the keypad's sets right: reported keys DOWN, suppressed keys physically down, none in both, the
typematic key reported (R99, R100, R103 to R107, R110); and every sequence slot that judges no press in the kept power
state clear (R115, R116). -/
def Obligations.StepsKeepTheKeypadAndSlotsRight : Prop :=
  ∀ s t : State, step s = .next t →
    (s.keypad.SetsRight → t.keypad.SetsRight) ∧ (s.SlotsRight → t.SlotsRight)

/-- Every step keeps the parameters in order and the priorities a permutation (R3, R17, R18, R24, R78, R177). -/
def Obligations.StepsKeepTheTablesOrdered : Prop :=
  ∀ s t : State, s.params.Ordered → PrioritiesPermuted s.tables.zones → step s = .next t →
    t.params.Ordered ∧ PrioritiesPermuted t.tables.zones

/-- Every step keeps each zone's active grant within its grant and its grant within its request, its output following
the active grant, its accumulator in range and 0 while blind, and the sum of grant times power within the budget less
the reserve (R21, R28, R31, R32, R34). -/
def Obligations.StepsKeepTheHeatersRight : Prop :=
  ∀ s t : State, s.heat.Right → step s = .next t → t.heat.Right

/-- HOT_OFF is left only by a cold reset and by a resume at a cycle-complete event, with its record (R72); SERVICE_HOLD
only by a cold reset and by the panel action SERVICE_RELEASE of a press or a hold, which empties the restart window list
and makes its record (R73, R70). -/
def Obligations.HotOffAndServiceHoldAreLeftOnlyAsStated : Prop :=
  ∀ s t : State, s.held = false → step s = .next t → (∀ cause rest, s.pending ≠ .coldReset cause :: rest) →
    (s.power.state = .hotOff → t.power.state = .hotOff ∨
      ((∃ code rest, s.pending = .conversionComplete code :: rest) ∧
        t.power.state = (if s.params.autoResume then .preheat else .off) ∧
        t.power.log.head?.map LogRecord.cause = some .thermalResume)) ∧
    (s.power.state = .serviceHold → t.power.state = .serviceHold ∨
      (((∃ reading rest, s.pending = .scan reading :: rest) ∨ ∃ n rest, s.pending = .holdTimerExpiry n :: rest) ∧
        t.power.state = .preheat ∧ t.power.restartList = [] ∧
        t.power.log.head?.map LogRecord.cause = some .serviceReleased))

/-- The state after reset meets every invariant, holds the part, and lists nothing; and every block has the values that
its chapter gives for cold reset (R15, R38, R51, R53, R56, R91, R113, R125, R139, R152, R167, R180). Values that no rule
gives for reset (log 7) are not stated, but for these, which are the model's: the tables of a part that is held are the
built-in ones, and the rates and the budget are theirs (log 4); its power-good polarity is ACTIVE_HIGH (log 15); and its
display receiver is in DISCARD and its beeper at rest, which R139 and R125 give on leaving cold reset (log 7). -/
def Obligations.ResetMeetsEveryInvariant : Prop :=
  let r := State.reset
  (r.held = true ∧ r.AtRest ∧ r.KeptRight ∧ r.StageRight ∧ r.ReserveRight ∧ r.keypad.SetsRight ∧ r.SlotsRight ∧
    r.ListsBounded ∧ r.keypad.RoomKept ∧ r.mgmt.QueueRight ∧ r.DisplayQueueRight ∧ r.LinkRight ∧ r.PathRight ∧
    r.params.Ordered ∧ PrioritiesPermuted r.tables.zones ∧ r.heat.Right ∧ r.pending = [] ∧
    r.path.heatDim = r.thermal.heatDim) ∧
  r.tables = Tables.default ∧
  (∀ ch : Fin 8, r.meas.samples[ch] = { raw := none, value := none, state := .none, faults := 0 }) ∧
  (∀ ch : Fin 7, r.meas.overrides[ch] = none ∧ r.meas.changes[ch] = .none) ∧
  r.meas = { r.meas with adcFault := false, goodCount := 0, next := none } ∧
  (∀ z, r.heat.zones.get z =
    { r.heat.zones.get z with
      blind := true, cold := none, hot := none, soak := 0, request := 0, grant := 0, active := 0, output := false }) ∧
  r.heat =
    { r.heat with
      budget := r.params.brownoutBudget, reserve := 0, a8 := 0, reserveHeld := false, brownout := true
      supplyCount := 0, supplyCut := false, kept := .off, slot := 0 } ∧
  r.thermal =
    { kept := .off, air := none, warn := false, warnCount := 0, shutdownCount := 0, resumeCount := 0, heatDim := false
      dimCount := 0, blindGiven := false, filterService := false, filterCount := 0 } ∧
  r.power =
    { r.power with
      state := .off, phase := none, dest := none, pgSeen := false, timer := none, restartList := [], log := []
      nextSeq := 0, boardPower := false, resetAsserted := true, resetPolarity := .activeLow
      pgPolarity := .activeHigh } ∧
  r.live =
    { stage := .idle, outcome := .pending, bootTimer := none, hbTimer := none, graceTimer := none, last := none
      early := 0 } ∧
  (∀ k : Fin 64, r.keypad.keys[k].state = .up ∧ r.keypad.keys[k].count = 0) ∧
  r.keypad =
    { r.keypad with
      reportedDown := [], suppressed := [], queue := [], typematic := none, kept := .off, lossCount := 0, scans := 0 } ∧
  (∀ n : Fin 4,
    r.matcher.slots[n] = { progress := 0, holding := none, stepTimer := none, holdTimer := none }) ∧
  r.beeper = { oneShot := none, background := none, silenced := false } ∧
  (let none_ : PortErrors :=
    { framing := 0, truncated := 0, header := 0, length := 0, stray := 0, crc := 0, lineBreak := 0 }
   r.sys =
    { r.sys with
      isLive := false, errors := none_, slot := .empty, fwd := [], fwdDiscard := 0, tx := none
      rate := r.params.systemRate } ∧
   r.disp =
    { r.disp with rx := .discard, errors := none_, badRun := 0, tx := none, rate := r.params.displayRate }) ∧
  (∀ c : Fin 64, r.switch.passed[c] = 0 ∧ r.switch.dropped[c] = 0) ∧
  r.path =
    { state := .off, power := false, queue := [], retry := 0, waitTimer := none, startTimer := none
      silenceTimer := none, idleTimer := none, heatDim := false, dqDiscard := 0 } ∧
  r.mgmt =
    { r.mgmt with
      sticky := 0, queue := [], counter := 0, commit := .none, pendingSoft := false, overrun := 0, kept := .off }
end

