-- ==== Sys2Proof/Laws/State.lean ====
section
/-! SUPPORT. One lemma per field per update of the state, so that no proof unfolds a record update. -/

namespace Sys2Proof.Machine

section
variable (f : Tables → Tables) (s : State)
@[simp] theorem State.onTables_held : (s.onTables f).held = s.held := rfl
@[simp] theorem State.onTables_clockMs : (s.onTables f).clockMs = s.clockMs := rfl
@[simp] theorem State.onTables_choices : (s.onTables f).choices = s.choices := rfl
@[simp] theorem State.onTables_tables : (s.onTables f).tables = f s.tables := rfl
@[simp] theorem State.onTables_store : (s.onTables f).store = s.store := rfl
@[simp] theorem State.onTables_meas : (s.onTables f).meas = s.meas := rfl
@[simp] theorem State.onTables_heat : (s.onTables f).heat = s.heat := rfl
@[simp] theorem State.onTables_thermal : (s.onTables f).thermal = s.thermal := rfl
@[simp] theorem State.onTables_power : (s.onTables f).power = s.power := rfl
@[simp] theorem State.onTables_live : (s.onTables f).live = s.live := rfl
@[simp] theorem State.onTables_keypad : (s.onTables f).keypad = s.keypad := rfl
@[simp] theorem State.onTables_matcher : (s.onTables f).matcher = s.matcher := rfl
@[simp] theorem State.onTables_beeper : (s.onTables f).beeper = s.beeper := rfl
@[simp] theorem State.onTables_sys : (s.onTables f).sys = s.sys := rfl
@[simp] theorem State.onTables_disp : (s.onTables f).disp = s.disp := rfl
@[simp] theorem State.onTables_switch : (s.onTables f).switch = s.switch := rfl
@[simp] theorem State.onTables_path : (s.onTables f).path = s.path := rfl
@[simp] theorem State.onTables_mgmt : (s.onTables f).mgmt = s.mgmt := rfl
@[simp] theorem State.onTables_pending : (s.onTables f).pending = s.pending := rfl
end

section
variable (f : StoreImage → StoreImage) (s : State)
@[simp] theorem State.onStore_held : (s.onStore f).held = s.held := rfl
@[simp] theorem State.onStore_clockMs : (s.onStore f).clockMs = s.clockMs := rfl
@[simp] theorem State.onStore_choices : (s.onStore f).choices = s.choices := rfl
@[simp] theorem State.onStore_tables : (s.onStore f).tables = s.tables := rfl
@[simp] theorem State.onStore_store : (s.onStore f).store = f s.store := rfl
@[simp] theorem State.onStore_meas : (s.onStore f).meas = s.meas := rfl
@[simp] theorem State.onStore_heat : (s.onStore f).heat = s.heat := rfl
@[simp] theorem State.onStore_thermal : (s.onStore f).thermal = s.thermal := rfl
@[simp] theorem State.onStore_power : (s.onStore f).power = s.power := rfl
@[simp] theorem State.onStore_live : (s.onStore f).live = s.live := rfl
@[simp] theorem State.onStore_keypad : (s.onStore f).keypad = s.keypad := rfl
@[simp] theorem State.onStore_matcher : (s.onStore f).matcher = s.matcher := rfl
@[simp] theorem State.onStore_beeper : (s.onStore f).beeper = s.beeper := rfl
@[simp] theorem State.onStore_sys : (s.onStore f).sys = s.sys := rfl
@[simp] theorem State.onStore_disp : (s.onStore f).disp = s.disp := rfl
@[simp] theorem State.onStore_switch : (s.onStore f).switch = s.switch := rfl
@[simp] theorem State.onStore_path : (s.onStore f).path = s.path := rfl
@[simp] theorem State.onStore_mgmt : (s.onStore f).mgmt = s.mgmt := rfl
@[simp] theorem State.onStore_pending : (s.onStore f).pending = s.pending := rfl
end

section
variable (f : Meas → Meas) (s : State)
@[simp] theorem State.onMeas_held : (s.onMeas f).held = s.held := rfl
@[simp] theorem State.onMeas_clockMs : (s.onMeas f).clockMs = s.clockMs := rfl
@[simp] theorem State.onMeas_choices : (s.onMeas f).choices = s.choices := rfl
@[simp] theorem State.onMeas_tables : (s.onMeas f).tables = s.tables := rfl
@[simp] theorem State.onMeas_store : (s.onMeas f).store = s.store := rfl
@[simp] theorem State.onMeas_meas : (s.onMeas f).meas = f s.meas := rfl
@[simp] theorem State.onMeas_heat : (s.onMeas f).heat = s.heat := rfl
@[simp] theorem State.onMeas_thermal : (s.onMeas f).thermal = s.thermal := rfl
@[simp] theorem State.onMeas_power : (s.onMeas f).power = s.power := rfl
@[simp] theorem State.onMeas_live : (s.onMeas f).live = s.live := rfl
@[simp] theorem State.onMeas_keypad : (s.onMeas f).keypad = s.keypad := rfl
@[simp] theorem State.onMeas_matcher : (s.onMeas f).matcher = s.matcher := rfl
@[simp] theorem State.onMeas_beeper : (s.onMeas f).beeper = s.beeper := rfl
@[simp] theorem State.onMeas_sys : (s.onMeas f).sys = s.sys := rfl
@[simp] theorem State.onMeas_disp : (s.onMeas f).disp = s.disp := rfl
@[simp] theorem State.onMeas_switch : (s.onMeas f).switch = s.switch := rfl
@[simp] theorem State.onMeas_path : (s.onMeas f).path = s.path := rfl
@[simp] theorem State.onMeas_mgmt : (s.onMeas f).mgmt = s.mgmt := rfl
@[simp] theorem State.onMeas_pending : (s.onMeas f).pending = s.pending := rfl
end

section
variable (f : Heat → Heat) (s : State)
@[simp] theorem State.onHeat_held : (s.onHeat f).held = s.held := rfl
@[simp] theorem State.onHeat_clockMs : (s.onHeat f).clockMs = s.clockMs := rfl
@[simp] theorem State.onHeat_choices : (s.onHeat f).choices = s.choices := rfl
@[simp] theorem State.onHeat_tables : (s.onHeat f).tables = s.tables := rfl
@[simp] theorem State.onHeat_store : (s.onHeat f).store = s.store := rfl
@[simp] theorem State.onHeat_meas : (s.onHeat f).meas = s.meas := rfl
@[simp] theorem State.onHeat_heat : (s.onHeat f).heat = f s.heat := rfl
@[simp] theorem State.onHeat_thermal : (s.onHeat f).thermal = s.thermal := rfl
@[simp] theorem State.onHeat_power : (s.onHeat f).power = s.power := rfl
@[simp] theorem State.onHeat_live : (s.onHeat f).live = s.live := rfl
@[simp] theorem State.onHeat_keypad : (s.onHeat f).keypad = s.keypad := rfl
@[simp] theorem State.onHeat_matcher : (s.onHeat f).matcher = s.matcher := rfl
@[simp] theorem State.onHeat_beeper : (s.onHeat f).beeper = s.beeper := rfl
@[simp] theorem State.onHeat_sys : (s.onHeat f).sys = s.sys := rfl
@[simp] theorem State.onHeat_disp : (s.onHeat f).disp = s.disp := rfl
@[simp] theorem State.onHeat_switch : (s.onHeat f).switch = s.switch := rfl
@[simp] theorem State.onHeat_path : (s.onHeat f).path = s.path := rfl
@[simp] theorem State.onHeat_mgmt : (s.onHeat f).mgmt = s.mgmt := rfl
@[simp] theorem State.onHeat_pending : (s.onHeat f).pending = s.pending := rfl
end

section
variable (f : Thermal → Thermal) (s : State)
@[simp] theorem State.onThermal_held : (s.onThermal f).held = s.held := rfl
@[simp] theorem State.onThermal_clockMs : (s.onThermal f).clockMs = s.clockMs := rfl
@[simp] theorem State.onThermal_choices : (s.onThermal f).choices = s.choices := rfl
@[simp] theorem State.onThermal_tables : (s.onThermal f).tables = s.tables := rfl
@[simp] theorem State.onThermal_store : (s.onThermal f).store = s.store := rfl
@[simp] theorem State.onThermal_meas : (s.onThermal f).meas = s.meas := rfl
@[simp] theorem State.onThermal_heat : (s.onThermal f).heat = s.heat := rfl
@[simp] theorem State.onThermal_thermal : (s.onThermal f).thermal = f s.thermal := rfl
@[simp] theorem State.onThermal_power : (s.onThermal f).power = s.power := rfl
@[simp] theorem State.onThermal_live : (s.onThermal f).live = s.live := rfl
@[simp] theorem State.onThermal_keypad : (s.onThermal f).keypad = s.keypad := rfl
@[simp] theorem State.onThermal_matcher : (s.onThermal f).matcher = s.matcher := rfl
@[simp] theorem State.onThermal_beeper : (s.onThermal f).beeper = s.beeper := rfl
@[simp] theorem State.onThermal_sys : (s.onThermal f).sys = s.sys := rfl
@[simp] theorem State.onThermal_disp : (s.onThermal f).disp = s.disp := rfl
@[simp] theorem State.onThermal_switch : (s.onThermal f).switch = s.switch := rfl
@[simp] theorem State.onThermal_path : (s.onThermal f).path = s.path := rfl
@[simp] theorem State.onThermal_mgmt : (s.onThermal f).mgmt = s.mgmt := rfl
@[simp] theorem State.onThermal_pending : (s.onThermal f).pending = s.pending := rfl
end

section
variable (f : PowerSeq → PowerSeq) (s : State)
@[simp] theorem State.onPower_held : (s.onPower f).held = s.held := rfl
@[simp] theorem State.onPower_clockMs : (s.onPower f).clockMs = s.clockMs := rfl
@[simp] theorem State.onPower_choices : (s.onPower f).choices = s.choices := rfl
@[simp] theorem State.onPower_tables : (s.onPower f).tables = s.tables := rfl
@[simp] theorem State.onPower_store : (s.onPower f).store = s.store := rfl
@[simp] theorem State.onPower_meas : (s.onPower f).meas = s.meas := rfl
@[simp] theorem State.onPower_heat : (s.onPower f).heat = s.heat := rfl
@[simp] theorem State.onPower_thermal : (s.onPower f).thermal = s.thermal := rfl
@[simp] theorem State.onPower_power : (s.onPower f).power = f s.power := rfl
@[simp] theorem State.onPower_live : (s.onPower f).live = s.live := rfl
@[simp] theorem State.onPower_keypad : (s.onPower f).keypad = s.keypad := rfl
@[simp] theorem State.onPower_matcher : (s.onPower f).matcher = s.matcher := rfl
@[simp] theorem State.onPower_beeper : (s.onPower f).beeper = s.beeper := rfl
@[simp] theorem State.onPower_sys : (s.onPower f).sys = s.sys := rfl
@[simp] theorem State.onPower_disp : (s.onPower f).disp = s.disp := rfl
@[simp] theorem State.onPower_switch : (s.onPower f).switch = s.switch := rfl
@[simp] theorem State.onPower_path : (s.onPower f).path = s.path := rfl
@[simp] theorem State.onPower_mgmt : (s.onPower f).mgmt = s.mgmt := rfl
@[simp] theorem State.onPower_pending : (s.onPower f).pending = s.pending := rfl
end

section
variable (f : Liveness → Liveness) (s : State)
@[simp] theorem State.onLive_held : (s.onLive f).held = s.held := rfl
@[simp] theorem State.onLive_clockMs : (s.onLive f).clockMs = s.clockMs := rfl
@[simp] theorem State.onLive_choices : (s.onLive f).choices = s.choices := rfl
@[simp] theorem State.onLive_tables : (s.onLive f).tables = s.tables := rfl
@[simp] theorem State.onLive_store : (s.onLive f).store = s.store := rfl
@[simp] theorem State.onLive_meas : (s.onLive f).meas = s.meas := rfl
@[simp] theorem State.onLive_heat : (s.onLive f).heat = s.heat := rfl
@[simp] theorem State.onLive_thermal : (s.onLive f).thermal = s.thermal := rfl
@[simp] theorem State.onLive_power : (s.onLive f).power = s.power := rfl
@[simp] theorem State.onLive_live : (s.onLive f).live = f s.live := rfl
@[simp] theorem State.onLive_keypad : (s.onLive f).keypad = s.keypad := rfl
@[simp] theorem State.onLive_matcher : (s.onLive f).matcher = s.matcher := rfl
@[simp] theorem State.onLive_beeper : (s.onLive f).beeper = s.beeper := rfl
@[simp] theorem State.onLive_sys : (s.onLive f).sys = s.sys := rfl
@[simp] theorem State.onLive_disp : (s.onLive f).disp = s.disp := rfl
@[simp] theorem State.onLive_switch : (s.onLive f).switch = s.switch := rfl
@[simp] theorem State.onLive_path : (s.onLive f).path = s.path := rfl
@[simp] theorem State.onLive_mgmt : (s.onLive f).mgmt = s.mgmt := rfl
@[simp] theorem State.onLive_pending : (s.onLive f).pending = s.pending := rfl
end

section
variable (f : Keypad → Keypad) (s : State)
@[simp] theorem State.onKeypad_held : (s.onKeypad f).held = s.held := rfl
@[simp] theorem State.onKeypad_clockMs : (s.onKeypad f).clockMs = s.clockMs := rfl
@[simp] theorem State.onKeypad_choices : (s.onKeypad f).choices = s.choices := rfl
@[simp] theorem State.onKeypad_tables : (s.onKeypad f).tables = s.tables := rfl
@[simp] theorem State.onKeypad_store : (s.onKeypad f).store = s.store := rfl
@[simp] theorem State.onKeypad_meas : (s.onKeypad f).meas = s.meas := rfl
@[simp] theorem State.onKeypad_heat : (s.onKeypad f).heat = s.heat := rfl
@[simp] theorem State.onKeypad_thermal : (s.onKeypad f).thermal = s.thermal := rfl
@[simp] theorem State.onKeypad_power : (s.onKeypad f).power = s.power := rfl
@[simp] theorem State.onKeypad_live : (s.onKeypad f).live = s.live := rfl
@[simp] theorem State.onKeypad_keypad : (s.onKeypad f).keypad = f s.keypad := rfl
@[simp] theorem State.onKeypad_matcher : (s.onKeypad f).matcher = s.matcher := rfl
@[simp] theorem State.onKeypad_beeper : (s.onKeypad f).beeper = s.beeper := rfl
@[simp] theorem State.onKeypad_sys : (s.onKeypad f).sys = s.sys := rfl
@[simp] theorem State.onKeypad_disp : (s.onKeypad f).disp = s.disp := rfl
@[simp] theorem State.onKeypad_switch : (s.onKeypad f).switch = s.switch := rfl
@[simp] theorem State.onKeypad_path : (s.onKeypad f).path = s.path := rfl
@[simp] theorem State.onKeypad_mgmt : (s.onKeypad f).mgmt = s.mgmt := rfl
@[simp] theorem State.onKeypad_pending : (s.onKeypad f).pending = s.pending := rfl
end

section
variable (f : Matcher → Matcher) (s : State)
@[simp] theorem State.onMatcher_held : (s.onMatcher f).held = s.held := rfl
@[simp] theorem State.onMatcher_clockMs : (s.onMatcher f).clockMs = s.clockMs := rfl
@[simp] theorem State.onMatcher_choices : (s.onMatcher f).choices = s.choices := rfl
@[simp] theorem State.onMatcher_tables : (s.onMatcher f).tables = s.tables := rfl
@[simp] theorem State.onMatcher_store : (s.onMatcher f).store = s.store := rfl
@[simp] theorem State.onMatcher_meas : (s.onMatcher f).meas = s.meas := rfl
@[simp] theorem State.onMatcher_heat : (s.onMatcher f).heat = s.heat := rfl
@[simp] theorem State.onMatcher_thermal : (s.onMatcher f).thermal = s.thermal := rfl
@[simp] theorem State.onMatcher_power : (s.onMatcher f).power = s.power := rfl
@[simp] theorem State.onMatcher_live : (s.onMatcher f).live = s.live := rfl
@[simp] theorem State.onMatcher_keypad : (s.onMatcher f).keypad = s.keypad := rfl
@[simp] theorem State.onMatcher_matcher : (s.onMatcher f).matcher = f s.matcher := rfl
@[simp] theorem State.onMatcher_beeper : (s.onMatcher f).beeper = s.beeper := rfl
@[simp] theorem State.onMatcher_sys : (s.onMatcher f).sys = s.sys := rfl
@[simp] theorem State.onMatcher_disp : (s.onMatcher f).disp = s.disp := rfl
@[simp] theorem State.onMatcher_switch : (s.onMatcher f).switch = s.switch := rfl
@[simp] theorem State.onMatcher_path : (s.onMatcher f).path = s.path := rfl
@[simp] theorem State.onMatcher_mgmt : (s.onMatcher f).mgmt = s.mgmt := rfl
@[simp] theorem State.onMatcher_pending : (s.onMatcher f).pending = s.pending := rfl
end

section
variable (f : Beeper → Beeper) (s : State)
@[simp] theorem State.onBeeper_held : (s.onBeeper f).held = s.held := rfl
@[simp] theorem State.onBeeper_clockMs : (s.onBeeper f).clockMs = s.clockMs := rfl
@[simp] theorem State.onBeeper_choices : (s.onBeeper f).choices = s.choices := rfl
@[simp] theorem State.onBeeper_tables : (s.onBeeper f).tables = s.tables := rfl
@[simp] theorem State.onBeeper_store : (s.onBeeper f).store = s.store := rfl
@[simp] theorem State.onBeeper_meas : (s.onBeeper f).meas = s.meas := rfl
@[simp] theorem State.onBeeper_heat : (s.onBeeper f).heat = s.heat := rfl
@[simp] theorem State.onBeeper_thermal : (s.onBeeper f).thermal = s.thermal := rfl
@[simp] theorem State.onBeeper_power : (s.onBeeper f).power = s.power := rfl
@[simp] theorem State.onBeeper_live : (s.onBeeper f).live = s.live := rfl
@[simp] theorem State.onBeeper_keypad : (s.onBeeper f).keypad = s.keypad := rfl
@[simp] theorem State.onBeeper_matcher : (s.onBeeper f).matcher = s.matcher := rfl
@[simp] theorem State.onBeeper_beeper : (s.onBeeper f).beeper = f s.beeper := rfl
@[simp] theorem State.onBeeper_sys : (s.onBeeper f).sys = s.sys := rfl
@[simp] theorem State.onBeeper_disp : (s.onBeeper f).disp = s.disp := rfl
@[simp] theorem State.onBeeper_switch : (s.onBeeper f).switch = s.switch := rfl
@[simp] theorem State.onBeeper_path : (s.onBeeper f).path = s.path := rfl
@[simp] theorem State.onBeeper_mgmt : (s.onBeeper f).mgmt = s.mgmt := rfl
@[simp] theorem State.onBeeper_pending : (s.onBeeper f).pending = s.pending := rfl
end

section
variable (f : SysPort → SysPort) (s : State)
@[simp] theorem State.onSys_held : (s.onSys f).held = s.held := rfl
@[simp] theorem State.onSys_clockMs : (s.onSys f).clockMs = s.clockMs := rfl
@[simp] theorem State.onSys_choices : (s.onSys f).choices = s.choices := rfl
@[simp] theorem State.onSys_tables : (s.onSys f).tables = s.tables := rfl
@[simp] theorem State.onSys_store : (s.onSys f).store = s.store := rfl
@[simp] theorem State.onSys_meas : (s.onSys f).meas = s.meas := rfl
@[simp] theorem State.onSys_heat : (s.onSys f).heat = s.heat := rfl
@[simp] theorem State.onSys_thermal : (s.onSys f).thermal = s.thermal := rfl
@[simp] theorem State.onSys_power : (s.onSys f).power = s.power := rfl
@[simp] theorem State.onSys_live : (s.onSys f).live = s.live := rfl
@[simp] theorem State.onSys_keypad : (s.onSys f).keypad = s.keypad := rfl
@[simp] theorem State.onSys_matcher : (s.onSys f).matcher = s.matcher := rfl
@[simp] theorem State.onSys_beeper : (s.onSys f).beeper = s.beeper := rfl
@[simp] theorem State.onSys_sys : (s.onSys f).sys = f s.sys := rfl
@[simp] theorem State.onSys_disp : (s.onSys f).disp = s.disp := rfl
@[simp] theorem State.onSys_switch : (s.onSys f).switch = s.switch := rfl
@[simp] theorem State.onSys_path : (s.onSys f).path = s.path := rfl
@[simp] theorem State.onSys_mgmt : (s.onSys f).mgmt = s.mgmt := rfl
@[simp] theorem State.onSys_pending : (s.onSys f).pending = s.pending := rfl
end

section
variable (f : DispPort → DispPort) (s : State)
@[simp] theorem State.onDisp_held : (s.onDisp f).held = s.held := rfl
@[simp] theorem State.onDisp_clockMs : (s.onDisp f).clockMs = s.clockMs := rfl
@[simp] theorem State.onDisp_choices : (s.onDisp f).choices = s.choices := rfl
@[simp] theorem State.onDisp_tables : (s.onDisp f).tables = s.tables := rfl
@[simp] theorem State.onDisp_store : (s.onDisp f).store = s.store := rfl
@[simp] theorem State.onDisp_meas : (s.onDisp f).meas = s.meas := rfl
@[simp] theorem State.onDisp_heat : (s.onDisp f).heat = s.heat := rfl
@[simp] theorem State.onDisp_thermal : (s.onDisp f).thermal = s.thermal := rfl
@[simp] theorem State.onDisp_power : (s.onDisp f).power = s.power := rfl
@[simp] theorem State.onDisp_live : (s.onDisp f).live = s.live := rfl
@[simp] theorem State.onDisp_keypad : (s.onDisp f).keypad = s.keypad := rfl
@[simp] theorem State.onDisp_matcher : (s.onDisp f).matcher = s.matcher := rfl
@[simp] theorem State.onDisp_beeper : (s.onDisp f).beeper = s.beeper := rfl
@[simp] theorem State.onDisp_sys : (s.onDisp f).sys = s.sys := rfl
@[simp] theorem State.onDisp_disp : (s.onDisp f).disp = f s.disp := rfl
@[simp] theorem State.onDisp_switch : (s.onDisp f).switch = s.switch := rfl
@[simp] theorem State.onDisp_path : (s.onDisp f).path = s.path := rfl
@[simp] theorem State.onDisp_mgmt : (s.onDisp f).mgmt = s.mgmt := rfl
@[simp] theorem State.onDisp_pending : (s.onDisp f).pending = s.pending := rfl
end

section
variable (f : Switch → Switch) (s : State)
@[simp] theorem State.onSwitch_held : (s.onSwitch f).held = s.held := rfl
@[simp] theorem State.onSwitch_clockMs : (s.onSwitch f).clockMs = s.clockMs := rfl
@[simp] theorem State.onSwitch_choices : (s.onSwitch f).choices = s.choices := rfl
@[simp] theorem State.onSwitch_tables : (s.onSwitch f).tables = s.tables := rfl
@[simp] theorem State.onSwitch_store : (s.onSwitch f).store = s.store := rfl
@[simp] theorem State.onSwitch_meas : (s.onSwitch f).meas = s.meas := rfl
@[simp] theorem State.onSwitch_heat : (s.onSwitch f).heat = s.heat := rfl
@[simp] theorem State.onSwitch_thermal : (s.onSwitch f).thermal = s.thermal := rfl
@[simp] theorem State.onSwitch_power : (s.onSwitch f).power = s.power := rfl
@[simp] theorem State.onSwitch_live : (s.onSwitch f).live = s.live := rfl
@[simp] theorem State.onSwitch_keypad : (s.onSwitch f).keypad = s.keypad := rfl
@[simp] theorem State.onSwitch_matcher : (s.onSwitch f).matcher = s.matcher := rfl
@[simp] theorem State.onSwitch_beeper : (s.onSwitch f).beeper = s.beeper := rfl
@[simp] theorem State.onSwitch_sys : (s.onSwitch f).sys = s.sys := rfl
@[simp] theorem State.onSwitch_disp : (s.onSwitch f).disp = s.disp := rfl
@[simp] theorem State.onSwitch_switch : (s.onSwitch f).switch = f s.switch := rfl
@[simp] theorem State.onSwitch_path : (s.onSwitch f).path = s.path := rfl
@[simp] theorem State.onSwitch_mgmt : (s.onSwitch f).mgmt = s.mgmt := rfl
@[simp] theorem State.onSwitch_pending : (s.onSwitch f).pending = s.pending := rfl
end

section
variable (f : DisplayPath → DisplayPath) (s : State)
@[simp] theorem State.onPath_held : (s.onPath f).held = s.held := rfl
@[simp] theorem State.onPath_clockMs : (s.onPath f).clockMs = s.clockMs := rfl
@[simp] theorem State.onPath_choices : (s.onPath f).choices = s.choices := rfl
@[simp] theorem State.onPath_tables : (s.onPath f).tables = s.tables := rfl
@[simp] theorem State.onPath_store : (s.onPath f).store = s.store := rfl
@[simp] theorem State.onPath_meas : (s.onPath f).meas = s.meas := rfl
@[simp] theorem State.onPath_heat : (s.onPath f).heat = s.heat := rfl
@[simp] theorem State.onPath_thermal : (s.onPath f).thermal = s.thermal := rfl
@[simp] theorem State.onPath_power : (s.onPath f).power = s.power := rfl
@[simp] theorem State.onPath_live : (s.onPath f).live = s.live := rfl
@[simp] theorem State.onPath_keypad : (s.onPath f).keypad = s.keypad := rfl
@[simp] theorem State.onPath_matcher : (s.onPath f).matcher = s.matcher := rfl
@[simp] theorem State.onPath_beeper : (s.onPath f).beeper = s.beeper := rfl
@[simp] theorem State.onPath_sys : (s.onPath f).sys = s.sys := rfl
@[simp] theorem State.onPath_disp : (s.onPath f).disp = s.disp := rfl
@[simp] theorem State.onPath_switch : (s.onPath f).switch = s.switch := rfl
@[simp] theorem State.onPath_path : (s.onPath f).path = f s.path := rfl
@[simp] theorem State.onPath_mgmt : (s.onPath f).mgmt = s.mgmt := rfl
@[simp] theorem State.onPath_pending : (s.onPath f).pending = s.pending := rfl
end

section
variable (f : Mgmt → Mgmt) (s : State)
@[simp] theorem State.onMgmt_held : (s.onMgmt f).held = s.held := rfl
@[simp] theorem State.onMgmt_clockMs : (s.onMgmt f).clockMs = s.clockMs := rfl
@[simp] theorem State.onMgmt_choices : (s.onMgmt f).choices = s.choices := rfl
@[simp] theorem State.onMgmt_tables : (s.onMgmt f).tables = s.tables := rfl
@[simp] theorem State.onMgmt_store : (s.onMgmt f).store = s.store := rfl
@[simp] theorem State.onMgmt_meas : (s.onMgmt f).meas = s.meas := rfl
@[simp] theorem State.onMgmt_heat : (s.onMgmt f).heat = s.heat := rfl
@[simp] theorem State.onMgmt_thermal : (s.onMgmt f).thermal = s.thermal := rfl
@[simp] theorem State.onMgmt_power : (s.onMgmt f).power = s.power := rfl
@[simp] theorem State.onMgmt_live : (s.onMgmt f).live = s.live := rfl
@[simp] theorem State.onMgmt_keypad : (s.onMgmt f).keypad = s.keypad := rfl
@[simp] theorem State.onMgmt_matcher : (s.onMgmt f).matcher = s.matcher := rfl
@[simp] theorem State.onMgmt_beeper : (s.onMgmt f).beeper = s.beeper := rfl
@[simp] theorem State.onMgmt_sys : (s.onMgmt f).sys = s.sys := rfl
@[simp] theorem State.onMgmt_disp : (s.onMgmt f).disp = s.disp := rfl
@[simp] theorem State.onMgmt_switch : (s.onMgmt f).switch = s.switch := rfl
@[simp] theorem State.onMgmt_path : (s.onMgmt f).path = s.path := rfl
@[simp] theorem State.onMgmt_mgmt : (s.onMgmt f).mgmt = f s.mgmt := rfl
@[simp] theorem State.onMgmt_pending : (s.onMgmt f).pending = s.pending := rfl
end

end Sys2Proof.Machine
end

