-- ==== Sys2Proof/Laws/Keeps.lean ====
section
/-! SUPPORT. For each operation on the state one lemma that says which fields it leaves as they were: whatever the
operation does, it does to the fields not named. -/

namespace Sys2Proof.Machine

/-- A part of the state that every step of a fold keeps is kept by the fold. -/
theorem foldl_keeps {α β : Type} (g : State → β) (f : State → α → State) (h : ∀ s a, g (f s a) = g s) (l : List α)
    (s : State) : g (l.foldl f s) = g s := by
  induction l generalizing s with
  | nil => rfl
  | cons a l ih => simp [ih, h]

@[simp] theorem State.turnDown_state (s : State) (st : Status) : (s.turnDown st).state = s := rfl
@[simp] theorem State.done_state (s : State) : s.done.state = s := rfl
@[simp] theorem passedOn_state (r : State × Status) : (passedOn r).state = r.1 := rfl
@[simp] theorem State.noArgs_nil (s : State) (a : Answer) : s.noArgs [] a = a := rfl
@[simp] theorem State.noArgs_cons (b : Byte) (bs : List Byte) (s : State) (a : Answer) :
    s.noArgs (b :: bs) a = s.turnDown .badLength := rfl
theorem State.noArgs_state_of_keeps {β : Type} (g : State → β) (args : List Byte) (s : State) (a : Answer)
    (h : g a.state = g s) : g (s.noArgs args a).state = g s := by
  cases args <;> simp [h]

@[simp] theorem State.reach_keeps (ms : Nat) (s : State) :
    (State.reach ms s).held = s.held ∧ (State.reach ms s).choices = s.choices ∧
      (State.reach ms s).tables = s.tables ∧ (State.reach ms s).store = s.store ∧
      (State.reach ms s).meas = s.meas ∧ (State.reach ms s).heat = s.heat ∧
      (State.reach ms s).thermal = s.thermal ∧ (State.reach ms s).power = s.power ∧
      (State.reach ms s).live = s.live ∧ (State.reach ms s).keypad = s.keypad ∧
      (State.reach ms s).matcher = s.matcher ∧ (State.reach ms s).beeper = s.beeper ∧
      (State.reach ms s).sys = s.sys ∧ (State.reach ms s).disp = s.disp ∧ (State.reach ms s).switch = s.switch ∧
      (State.reach ms s).path = s.path ∧ (State.reach ms s).mgmt = s.mgmt ∧ (State.reach ms s).pending = s.pending := by
  simp [State.reach]

@[simp] theorem State.post_keeps (c : NoticeContent) (s : State) :
    (State.post c s).held = s.held ∧ (State.post c s).clockMs = s.clockMs ∧ (State.post c s).choices = s.choices ∧
      (State.post c s).tables = s.tables ∧ (State.post c s).store = s.store ∧ (State.post c s).meas = s.meas ∧
      (State.post c s).heat = s.heat ∧ (State.post c s).thermal = s.thermal ∧ (State.post c s).power = s.power ∧
      (State.post c s).live = s.live ∧ (State.post c s).keypad = s.keypad ∧ (State.post c s).matcher = s.matcher ∧
      (State.post c s).beeper = s.beeper ∧ (State.post c s).sys = s.sys ∧ (State.post c s).disp = s.disp ∧
      (State.post c s).switch = s.switch ∧ (State.post c s).path = s.path ∧ (State.post c s).pending = s.pending := by
  simp [State.post]

@[simp] theorem State.report_keeps (f : StickyFlag) (s : State) :
    (State.report f s).held = s.held ∧ (State.report f s).clockMs = s.clockMs ∧
      (State.report f s).choices = s.choices ∧ (State.report f s).tables = s.tables ∧
      (State.report f s).store = s.store ∧ (State.report f s).meas = s.meas ∧ (State.report f s).heat = s.heat ∧
      (State.report f s).thermal = s.thermal ∧ (State.report f s).power = s.power ∧
      (State.report f s).live = s.live ∧ (State.report f s).keypad = s.keypad ∧
      (State.report f s).matcher = s.matcher ∧ (State.report f s).beeper = s.beeper ∧
      (State.report f s).sys = s.sys ∧ (State.report f s).disp = s.disp ∧ (State.report f s).switch = s.switch ∧
      (State.report f s).path = s.path ∧ (State.report f s).pending = s.pending := by
  simp [State.report]

@[simp] theorem State.reportIf_keeps (c : Bool) (f : StickyFlag) (s : State) :
    (State.reportIf c f s).held = s.held ∧ (State.reportIf c f s).clockMs = s.clockMs ∧
      (State.reportIf c f s).choices = s.choices ∧ (State.reportIf c f s).tables = s.tables ∧
      (State.reportIf c f s).store = s.store ∧ (State.reportIf c f s).meas = s.meas ∧
      (State.reportIf c f s).heat = s.heat ∧ (State.reportIf c f s).thermal = s.thermal ∧
      (State.reportIf c f s).power = s.power ∧ (State.reportIf c f s).live = s.live ∧
      (State.reportIf c f s).keypad = s.keypad ∧ (State.reportIf c f s).matcher = s.matcher ∧
      (State.reportIf c f s).beeper = s.beeper ∧ (State.reportIf c f s).sys = s.sys ∧
      (State.reportIf c f s).disp = s.disp ∧ (State.reportIf c f s).switch = s.switch ∧
      (State.reportIf c f s).path = s.path ∧ (State.reportIf c f s).pending = s.pending := by
  unfold State.reportIf; (repeat' split) <;> simp

@[simp] theorem State.beep_keeps (p : OneShot) (s : State) :
    (State.beep p s).held = s.held ∧ (State.beep p s).clockMs = s.clockMs ∧ (State.beep p s).choices = s.choices ∧
      (State.beep p s).tables = s.tables ∧ (State.beep p s).store = s.store ∧ (State.beep p s).meas = s.meas ∧
      (State.beep p s).heat = s.heat ∧ (State.beep p s).thermal = s.thermal ∧ (State.beep p s).power = s.power ∧
      (State.beep p s).live = s.live ∧ (State.beep p s).keypad = s.keypad ∧ (State.beep p s).matcher = s.matcher ∧
      (State.beep p s).sys = s.sys ∧ (State.beep p s).disp = s.disp ∧ (State.beep p s).switch = s.switch ∧
      (State.beep p s).path = s.path ∧ (State.beep p s).mgmt = s.mgmt ∧ (State.beep p s).pending = s.pending := by
  simp [State.beep]

@[simp] theorem State.beeperEvent_keeps (e : Option (Nat × Beeper)) (s : State) :
    (State.beeperEvent e s).held = s.held ∧ (State.beeperEvent e s).choices = s.choices ∧
      (State.beeperEvent e s).tables = s.tables ∧ (State.beeperEvent e s).store = s.store ∧
      (State.beeperEvent e s).meas = s.meas ∧ (State.beeperEvent e s).heat = s.heat ∧
      (State.beeperEvent e s).thermal = s.thermal ∧ (State.beeperEvent e s).power = s.power ∧
      (State.beeperEvent e s).live = s.live ∧ (State.beeperEvent e s).keypad = s.keypad ∧
      (State.beeperEvent e s).matcher = s.matcher ∧ (State.beeperEvent e s).sys = s.sys ∧
      (State.beeperEvent e s).disp = s.disp ∧ (State.beeperEvent e s).switch = s.switch ∧
      (State.beeperEvent e s).path = s.path ∧ (State.beeperEvent e s).mgmt = s.mgmt ∧
      (State.beeperEvent e s).pending = s.pending := by
  unfold State.beeperEvent; (repeat' split) <;> simp

@[simp] theorem State.convert_keeps (ch : Fin 8) (code : BitVec 12) (s : State) :
    (State.convert ch code s).held = s.held ∧ (State.convert ch code s).clockMs = s.clockMs ∧
      (State.convert ch code s).choices = s.choices ∧ (State.convert ch code s).tables = s.tables ∧
      (State.convert ch code s).store = s.store ∧ (State.convert ch code s).heat = s.heat ∧
      (State.convert ch code s).thermal = s.thermal ∧ (State.convert ch code s).power = s.power ∧
      (State.convert ch code s).live = s.live ∧ (State.convert ch code s).keypad = s.keypad ∧
      (State.convert ch code s).matcher = s.matcher ∧ (State.convert ch code s).beeper = s.beeper ∧
      (State.convert ch code s).sys = s.sys ∧ (State.convert ch code s).disp = s.disp ∧
      (State.convert ch code s).switch = s.switch ∧ (State.convert ch code s).path = s.path ∧
      (State.convert ch code s).pending = s.pending := by
  simp only [State.convert]; (repeat' split) <;> simp

@[simp] theorem State.evaluateZones_keeps (s : State) :
    (State.evaluateZones s).held = s.held ∧ (State.evaluateZones s).clockMs = s.clockMs ∧
      (State.evaluateZones s).choices = s.choices ∧ (State.evaluateZones s).tables = s.tables ∧
      (State.evaluateZones s).store = s.store ∧ (State.evaluateZones s).meas = s.meas ∧
      (State.evaluateZones s).thermal = s.thermal ∧ (State.evaluateZones s).power = s.power ∧
      (State.evaluateZones s).live = s.live ∧ (State.evaluateZones s).keypad = s.keypad ∧
      (State.evaluateZones s).matcher = s.matcher ∧ (State.evaluateZones s).beeper = s.beeper ∧
      (State.evaluateZones s).sys = s.sys ∧ (State.evaluateZones s).disp = s.disp ∧
      (State.evaluateZones s).switch = s.switch ∧ (State.evaluateZones s).path = s.path ∧
      (State.evaluateZones s).pending = s.pending := by
  simp [State.evaluateZones]

@[simp] theorem State.placeFrame_keeps (f : QueuedFrame) (s : State) :
    (State.placeFrame f s).held = s.held ∧ (State.placeFrame f s).clockMs = s.clockMs ∧
      (State.placeFrame f s).choices = s.choices ∧ (State.placeFrame f s).tables = s.tables ∧
      (State.placeFrame f s).store = s.store ∧ (State.placeFrame f s).meas = s.meas ∧
      (State.placeFrame f s).heat = s.heat ∧ (State.placeFrame f s).thermal = s.thermal ∧
      (State.placeFrame f s).power = s.power ∧ (State.placeFrame f s).live = s.live ∧
      (State.placeFrame f s).keypad = s.keypad ∧ (State.placeFrame f s).matcher = s.matcher ∧
      (State.placeFrame f s).beeper = s.beeper ∧ (State.placeFrame f s).sys = s.sys ∧
      (State.placeFrame f s).disp = s.disp ∧ (State.placeFrame f s).switch = s.switch ∧
      (State.placeFrame f s).pending = s.pending := by
  simp [State.placeFrame]

@[simp] theorem State.displayRelease_keeps (s : State) :
    (State.displayRelease s).held = s.held ∧ (State.displayRelease s).clockMs = s.clockMs ∧
      (State.displayRelease s).choices = s.choices ∧ (State.displayRelease s).tables = s.tables ∧
      (State.displayRelease s).store = s.store ∧ (State.displayRelease s).meas = s.meas ∧
      (State.displayRelease s).heat = s.heat ∧ (State.displayRelease s).thermal = s.thermal ∧
      (State.displayRelease s).power = s.power ∧ (State.displayRelease s).live = s.live ∧
      (State.displayRelease s).keypad = s.keypad ∧ (State.displayRelease s).matcher = s.matcher ∧
      (State.displayRelease s).beeper = s.beeper ∧ (State.displayRelease s).sys = s.sys ∧
      (State.displayRelease s).switch = s.switch ∧ (State.displayRelease s).mgmt = s.mgmt ∧
      (State.displayRelease s).pending = s.pending := by
  unfold State.displayRelease; (repeat' split) <;> simp

@[simp] theorem State.cutDisplayTx_keeps (s : State) :
    (State.cutDisplayTx s).held = s.held ∧ (State.cutDisplayTx s).clockMs = s.clockMs ∧
      (State.cutDisplayTx s).choices = s.choices ∧ (State.cutDisplayTx s).tables = s.tables ∧
      (State.cutDisplayTx s).store = s.store ∧ (State.cutDisplayTx s).meas = s.meas ∧
      (State.cutDisplayTx s).heat = s.heat ∧ (State.cutDisplayTx s).thermal = s.thermal ∧
      (State.cutDisplayTx s).power = s.power ∧ (State.cutDisplayTx s).live = s.live ∧
      (State.cutDisplayTx s).keypad = s.keypad ∧ (State.cutDisplayTx s).matcher = s.matcher ∧
      (State.cutDisplayTx s).beeper = s.beeper ∧ (State.cutDisplayTx s).sys = s.sys ∧
      (State.cutDisplayTx s).switch = s.switch ∧ (State.cutDisplayTx s).mgmt = s.mgmt ∧
      (State.cutDisplayTx s).pending = s.pending := by
  unfold State.cutDisplayTx; (repeat' split) <;> simp

@[simp] theorem State.inject_keeps (e : InjectEntry) (s : State) :
    (State.inject e s).held = s.held ∧ (State.inject e s).clockMs = s.clockMs ∧
      (State.inject e s).choices = s.choices ∧ (State.inject e s).tables = s.tables ∧
      (State.inject e s).store = s.store ∧ (State.inject e s).meas = s.meas ∧ (State.inject e s).heat = s.heat ∧
      (State.inject e s).thermal = s.thermal ∧ (State.inject e s).power = s.power ∧
      (State.inject e s).live = s.live ∧ (State.inject e s).keypad = s.keypad ∧
      (State.inject e s).matcher = s.matcher ∧ (State.inject e s).beeper = s.beeper ∧
      (State.inject e s).sys = s.sys ∧ (State.inject e s).disp = s.disp ∧ (State.inject e s).pending = s.pending := by
  unfold State.inject; (repeat' split) <;> simp

@[simp] theorem State.dim_keeps (s : State) :
    (State.dim s).held = s.held ∧ (State.dim s).clockMs = s.clockMs ∧ (State.dim s).choices = s.choices ∧
      (State.dim s).tables = s.tables ∧ (State.dim s).store = s.store ∧ (State.dim s).meas = s.meas ∧
      (State.dim s).heat = s.heat ∧ (State.dim s).thermal = s.thermal ∧ (State.dim s).power = s.power ∧
      (State.dim s).live = s.live ∧ (State.dim s).keypad = s.keypad ∧ (State.dim s).matcher = s.matcher ∧
      (State.dim s).beeper = s.beeper ∧ (State.dim s).sys = s.sys ∧ (State.dim s).disp = s.disp ∧
      (State.dim s).pending = s.pending := by
  simp [State.dim]

@[simp] theorem State.wake_keeps (s : State) :
    (State.wake s).held = s.held ∧ (State.wake s).clockMs = s.clockMs ∧ (State.wake s).choices = s.choices ∧
      (State.wake s).tables = s.tables ∧ (State.wake s).store = s.store ∧ (State.wake s).meas = s.meas ∧
      (State.wake s).heat = s.heat ∧ (State.wake s).thermal = s.thermal ∧ (State.wake s).power = s.power ∧
      (State.wake s).live = s.live ∧ (State.wake s).keypad = s.keypad ∧ (State.wake s).matcher = s.matcher ∧
      (State.wake s).beeper = s.beeper ∧ (State.wake s).sys = s.sys ∧ (State.wake s).pending = s.pending := by
  simp [State.wake]

@[simp] theorem State.enterStarting_keeps (s : State) :
    (State.enterStarting s).held = s.held ∧ (State.enterStarting s).clockMs = s.clockMs ∧
      (State.enterStarting s).choices = s.choices ∧ (State.enterStarting s).tables = s.tables ∧
      (State.enterStarting s).store = s.store ∧ (State.enterStarting s).meas = s.meas ∧
      (State.enterStarting s).heat = s.heat ∧ (State.enterStarting s).thermal = s.thermal ∧
      (State.enterStarting s).power = s.power ∧ (State.enterStarting s).live = s.live ∧
      (State.enterStarting s).keypad = s.keypad ∧ (State.enterStarting s).matcher = s.matcher ∧
      (State.enterStarting s).beeper = s.beeper ∧ (State.enterStarting s).sys = s.sys ∧
      (State.enterStarting s).disp = s.disp ∧ (State.enterStarting s).switch = s.switch ∧
      (State.enterStarting s).mgmt = s.mgmt ∧ (State.enterStarting s).pending = s.pending := by
  simp [State.enterStarting]

@[simp] theorem State.enterOpen_keeps (s : State) :
    (State.enterOpen s).held = s.held ∧ (State.enterOpen s).clockMs = s.clockMs ∧
      (State.enterOpen s).choices = s.choices ∧ (State.enterOpen s).tables = s.tables ∧
      (State.enterOpen s).store = s.store ∧ (State.enterOpen s).meas = s.meas ∧ (State.enterOpen s).heat = s.heat ∧
      (State.enterOpen s).thermal = s.thermal ∧ (State.enterOpen s).power = s.power ∧
      (State.enterOpen s).live = s.live ∧ (State.enterOpen s).keypad = s.keypad ∧
      (State.enterOpen s).matcher = s.matcher ∧ (State.enterOpen s).beeper = s.beeper ∧
      (State.enterOpen s).sys = s.sys ∧ (State.enterOpen s).pending = s.pending := by
  simp only [State.enterOpen]; (repeat' split) <;> simp

@[simp] theorem State.displayFault_keeps (c : DisplayFaultCause) (retry : Nat) (s : State) :
    (State.displayFault c retry s).held = s.held ∧ (State.displayFault c retry s).clockMs = s.clockMs ∧
      (State.displayFault c retry s).choices = s.choices ∧ (State.displayFault c retry s).tables = s.tables ∧
      (State.displayFault c retry s).store = s.store ∧ (State.displayFault c retry s).meas = s.meas ∧
      (State.displayFault c retry s).heat = s.heat ∧ (State.displayFault c retry s).thermal = s.thermal ∧
      (State.displayFault c retry s).power = s.power ∧ (State.displayFault c retry s).live = s.live ∧
      (State.displayFault c retry s).keypad = s.keypad ∧ (State.displayFault c retry s).matcher = s.matcher ∧
      (State.displayFault c retry s).beeper = s.beeper ∧ (State.displayFault c retry s).sys = s.sys ∧
      (State.displayFault c retry s).disp = s.disp ∧ (State.displayFault c retry s).switch = s.switch ∧
      (State.displayFault c retry s).path = s.path ∧ (State.displayFault c retry s).pending = s.pending := by
  simp [State.displayFault]

@[simp] theorem State.enterRecovering_keeps (s : State) :
    (State.enterRecovering s).held = s.held ∧ (State.enterRecovering s).clockMs = s.clockMs ∧
      (State.enterRecovering s).choices = s.choices ∧ (State.enterRecovering s).tables = s.tables ∧
      (State.enterRecovering s).store = s.store ∧ (State.enterRecovering s).meas = s.meas ∧
      (State.enterRecovering s).heat = s.heat ∧ (State.enterRecovering s).thermal = s.thermal ∧
      (State.enterRecovering s).power = s.power ∧ (State.enterRecovering s).live = s.live ∧
      (State.enterRecovering s).keypad = s.keypad ∧ (State.enterRecovering s).matcher = s.matcher ∧
      (State.enterRecovering s).beeper = s.beeper ∧ (State.enterRecovering s).sys = s.sys ∧
      (State.enterRecovering s).switch = s.switch ∧ (State.enterRecovering s).pending = s.pending := by
  unfold State.enterRecovering; (repeat' split) <;> simp

@[simp] theorem State.pathPowerOn_keeps (s : State) :
    (State.pathPowerOn s).held = s.held ∧ (State.pathPowerOn s).clockMs = s.clockMs ∧
      (State.pathPowerOn s).choices = s.choices ∧ (State.pathPowerOn s).tables = s.tables ∧
      (State.pathPowerOn s).store = s.store ∧ (State.pathPowerOn s).meas = s.meas ∧
      (State.pathPowerOn s).heat = s.heat ∧ (State.pathPowerOn s).thermal = s.thermal ∧
      (State.pathPowerOn s).power = s.power ∧ (State.pathPowerOn s).live = s.live ∧
      (State.pathPowerOn s).keypad = s.keypad ∧ (State.pathPowerOn s).matcher = s.matcher ∧
      (State.pathPowerOn s).beeper = s.beeper ∧ (State.pathPowerOn s).sys = s.sys ∧
      (State.pathPowerOn s).disp = s.disp ∧ (State.pathPowerOn s).switch = s.switch ∧
      (State.pathPowerOn s).mgmt = s.mgmt ∧ (State.pathPowerOn s).pending = s.pending := by
  simp [State.pathPowerOn]

@[simp] theorem State.pathPowerOff_keeps (s : State) :
    (State.pathPowerOff s).held = s.held ∧ (State.pathPowerOff s).clockMs = s.clockMs ∧
      (State.pathPowerOff s).choices = s.choices ∧ (State.pathPowerOff s).tables = s.tables ∧
      (State.pathPowerOff s).store = s.store ∧ (State.pathPowerOff s).meas = s.meas ∧
      (State.pathPowerOff s).heat = s.heat ∧ (State.pathPowerOff s).thermal = s.thermal ∧
      (State.pathPowerOff s).power = s.power ∧ (State.pathPowerOff s).live = s.live ∧
      (State.pathPowerOff s).keypad = s.keypad ∧ (State.pathPowerOff s).matcher = s.matcher ∧
      (State.pathPowerOff s).beeper = s.beeper ∧ (State.pathPowerOff s).sys = s.sys ∧
      (State.pathPowerOff s).switch = s.switch ∧ (State.pathPowerOff s).mgmt = s.mgmt ∧
      (State.pathPowerOff s).pending = s.pending := by
  simp [State.pathPowerOff]

@[simp] theorem State.pathZones_keeps (z : PerZone ZoneReport) (s : State) :
    (State.pathZones z s).held = s.held ∧ (State.pathZones z s).clockMs = s.clockMs ∧
      (State.pathZones z s).choices = s.choices ∧ (State.pathZones z s).tables = s.tables ∧
      (State.pathZones z s).store = s.store ∧ (State.pathZones z s).meas = s.meas ∧
      (State.pathZones z s).heat = s.heat ∧ (State.pathZones z s).thermal = s.thermal ∧
      (State.pathZones z s).power = s.power ∧ (State.pathZones z s).live = s.live ∧
      (State.pathZones z s).keypad = s.keypad ∧ (State.pathZones z s).matcher = s.matcher ∧
      (State.pathZones z s).beeper = s.beeper ∧ (State.pathZones z s).sys = s.sys ∧
      (State.pathZones z s).disp = s.disp ∧ (State.pathZones z s).switch = s.switch ∧
      (State.pathZones z s).mgmt = s.mgmt ∧ (State.pathZones z s).pending = s.pending := by
  unfold State.pathZones; (repeat' split) <;> simp

@[simp] theorem State.waitExpired_keeps (s : State) :
    (State.waitExpired s).held = s.held ∧ (State.waitExpired s).clockMs = s.clockMs ∧
      (State.waitExpired s).choices = s.choices ∧ (State.waitExpired s).tables = s.tables ∧
      (State.waitExpired s).store = s.store ∧ (State.waitExpired s).meas = s.meas ∧
      (State.waitExpired s).heat = s.heat ∧ (State.waitExpired s).thermal = s.thermal ∧
      (State.waitExpired s).power = s.power ∧ (State.waitExpired s).live = s.live ∧
      (State.waitExpired s).keypad = s.keypad ∧ (State.waitExpired s).matcher = s.matcher ∧
      (State.waitExpired s).beeper = s.beeper ∧ (State.waitExpired s).sys = s.sys ∧
      (State.waitExpired s).disp = s.disp ∧ (State.waitExpired s).switch = s.switch ∧
      (State.waitExpired s).mgmt = s.mgmt ∧ (State.waitExpired s).pending = s.pending := by
  unfold State.waitExpired; (repeat' split) <;> simp

@[simp] theorem State.displayReady_keeps (s : State) :
    (State.displayReady s).held = s.held ∧ (State.displayReady s).clockMs = s.clockMs ∧
      (State.displayReady s).choices = s.choices ∧ (State.displayReady s).tables = s.tables ∧
      (State.displayReady s).store = s.store ∧ (State.displayReady s).meas = s.meas ∧
      (State.displayReady s).heat = s.heat ∧ (State.displayReady s).thermal = s.thermal ∧
      (State.displayReady s).power = s.power ∧ (State.displayReady s).live = s.live ∧
      (State.displayReady s).keypad = s.keypad ∧ (State.displayReady s).matcher = s.matcher ∧
      (State.displayReady s).beeper = s.beeper ∧ (State.displayReady s).sys = s.sys ∧
      (State.displayReady s).pending = s.pending := by
  unfold State.displayReady; (repeat' split) <;> simp

@[simp] theorem State.displayHeard_keeps (s : State) :
    (State.displayHeard s).held = s.held ∧ (State.displayHeard s).clockMs = s.clockMs ∧
      (State.displayHeard s).choices = s.choices ∧ (State.displayHeard s).tables = s.tables ∧
      (State.displayHeard s).store = s.store ∧ (State.displayHeard s).meas = s.meas ∧
      (State.displayHeard s).heat = s.heat ∧ (State.displayHeard s).thermal = s.thermal ∧
      (State.displayHeard s).power = s.power ∧ (State.displayHeard s).live = s.live ∧
      (State.displayHeard s).keypad = s.keypad ∧ (State.displayHeard s).matcher = s.matcher ∧
      (State.displayHeard s).beeper = s.beeper ∧ (State.displayHeard s).sys = s.sys ∧
      (State.displayHeard s).disp = s.disp ∧ (State.displayHeard s).switch = s.switch ∧
      (State.displayHeard s).mgmt = s.mgmt ∧ (State.displayHeard s).pending = s.pending := by
  unfold State.displayHeard; (repeat' split) <;> simp

@[simp] theorem State.activity_keeps (s : State) :
    (State.activity s).held = s.held ∧ (State.activity s).clockMs = s.clockMs ∧
      (State.activity s).choices = s.choices ∧ (State.activity s).tables = s.tables ∧
      (State.activity s).store = s.store ∧ (State.activity s).meas = s.meas ∧ (State.activity s).heat = s.heat ∧
      (State.activity s).thermal = s.thermal ∧ (State.activity s).power = s.power ∧
      (State.activity s).live = s.live ∧ (State.activity s).keypad = s.keypad ∧
      (State.activity s).matcher = s.matcher ∧ (State.activity s).beeper = s.beeper ∧
      (State.activity s).sys = s.sys ∧ (State.activity s).disp = s.disp ∧ (State.activity s).switch = s.switch ∧
      (State.activity s).mgmt = s.mgmt ∧ (State.activity s).pending = s.pending := by
  unfold State.activity; (repeat' split) <;> simp

@[simp] theorem State.silenceExpired_keeps (s : State) :
    (State.silenceExpired s).held = s.held ∧ (State.silenceExpired s).clockMs = s.clockMs ∧
      (State.silenceExpired s).choices = s.choices ∧ (State.silenceExpired s).tables = s.tables ∧
      (State.silenceExpired s).store = s.store ∧ (State.silenceExpired s).meas = s.meas ∧
      (State.silenceExpired s).heat = s.heat ∧ (State.silenceExpired s).thermal = s.thermal ∧
      (State.silenceExpired s).power = s.power ∧ (State.silenceExpired s).live = s.live ∧
      (State.silenceExpired s).keypad = s.keypad ∧ (State.silenceExpired s).matcher = s.matcher ∧
      (State.silenceExpired s).beeper = s.beeper ∧ (State.silenceExpired s).sys = s.sys ∧
      (State.silenceExpired s).switch = s.switch ∧ (State.silenceExpired s).pending = s.pending := by
  unfold State.silenceExpired; (repeat' split) <;> simp

@[simp] theorem State.badFrameRun_keeps (s : State) :
    (State.badFrameRun s).held = s.held ∧ (State.badFrameRun s).clockMs = s.clockMs ∧
      (State.badFrameRun s).choices = s.choices ∧ (State.badFrameRun s).tables = s.tables ∧
      (State.badFrameRun s).store = s.store ∧ (State.badFrameRun s).meas = s.meas ∧
      (State.badFrameRun s).heat = s.heat ∧ (State.badFrameRun s).thermal = s.thermal ∧
      (State.badFrameRun s).power = s.power ∧ (State.badFrameRun s).live = s.live ∧
      (State.badFrameRun s).keypad = s.keypad ∧ (State.badFrameRun s).matcher = s.matcher ∧
      (State.badFrameRun s).beeper = s.beeper ∧ (State.badFrameRun s).sys = s.sys ∧
      (State.badFrameRun s).disp = s.disp ∧ (State.badFrameRun s).switch = s.switch ∧
      (State.badFrameRun s).path = s.path ∧ (State.badFrameRun s).pending = s.pending := by
  unfold State.badFrameRun; (repeat' split) <;> simp

@[simp] theorem State.heatDimOn_keeps (s : State) :
    (State.heatDimOn s).held = s.held ∧ (State.heatDimOn s).clockMs = s.clockMs ∧
      (State.heatDimOn s).choices = s.choices ∧ (State.heatDimOn s).tables = s.tables ∧
      (State.heatDimOn s).store = s.store ∧ (State.heatDimOn s).meas = s.meas ∧ (State.heatDimOn s).heat = s.heat ∧
      (State.heatDimOn s).thermal = s.thermal ∧ (State.heatDimOn s).power = s.power ∧
      (State.heatDimOn s).live = s.live ∧ (State.heatDimOn s).keypad = s.keypad ∧
      (State.heatDimOn s).matcher = s.matcher ∧ (State.heatDimOn s).beeper = s.beeper ∧
      (State.heatDimOn s).sys = s.sys ∧ (State.heatDimOn s).pending = s.pending := by
  simp only [State.heatDimOn]; (repeat' split) <;> simp

@[simp] theorem State.heatDimOff_keeps (s : State) :
    (State.heatDimOff s).held = s.held ∧ (State.heatDimOff s).clockMs = s.clockMs ∧
      (State.heatDimOff s).choices = s.choices ∧ (State.heatDimOff s).tables = s.tables ∧
      (State.heatDimOff s).store = s.store ∧ (State.heatDimOff s).meas = s.meas ∧
      (State.heatDimOff s).heat = s.heat ∧ (State.heatDimOff s).thermal = s.thermal ∧
      (State.heatDimOff s).power = s.power ∧ (State.heatDimOff s).live = s.live ∧
      (State.heatDimOff s).keypad = s.keypad ∧ (State.heatDimOff s).matcher = s.matcher ∧
      (State.heatDimOff s).beeper = s.beeper ∧ (State.heatDimOff s).sys = s.sys ∧
      (State.heatDimOff s).disp = s.disp ∧ (State.heatDimOff s).switch = s.switch ∧
      (State.heatDimOff s).mgmt = s.mgmt ∧ (State.heatDimOff s).pending = s.pending := by
  simp [State.heatDimOff]

@[simp] theorem State.wakeOffer_keeps (s : State) :
    (State.wakeOffer s).1.held = s.held ∧ (State.wakeOffer s).1.clockMs = s.clockMs ∧
      (State.wakeOffer s).1.choices = s.choices ∧ (State.wakeOffer s).1.tables = s.tables ∧
      (State.wakeOffer s).1.store = s.store ∧ (State.wakeOffer s).1.meas = s.meas ∧
      (State.wakeOffer s).1.heat = s.heat ∧ (State.wakeOffer s).1.thermal = s.thermal ∧
      (State.wakeOffer s).1.power = s.power ∧ (State.wakeOffer s).1.live = s.live ∧
      (State.wakeOffer s).1.keypad = s.keypad ∧ (State.wakeOffer s).1.matcher = s.matcher ∧
      (State.wakeOffer s).1.beeper = s.beeper ∧ (State.wakeOffer s).1.sys = s.sys ∧
      (State.wakeOffer s).1.pending = s.pending := by
  unfold State.wakeOffer; (repeat' split) <;> simp

@[simp] theorem State.keyOffer_keeps (s : State) :
    (State.keyOffer s).1.held = s.held ∧ (State.keyOffer s).1.clockMs = s.clockMs ∧
      (State.keyOffer s).1.choices = s.choices ∧ (State.keyOffer s).1.tables = s.tables ∧
      (State.keyOffer s).1.store = s.store ∧ (State.keyOffer s).1.meas = s.meas ∧
      (State.keyOffer s).1.heat = s.heat ∧ (State.keyOffer s).1.thermal = s.thermal ∧
      (State.keyOffer s).1.power = s.power ∧ (State.keyOffer s).1.live = s.live ∧
      (State.keyOffer s).1.keypad = s.keypad ∧ (State.keyOffer s).1.matcher = s.matcher ∧
      (State.keyOffer s).1.beeper = s.beeper ∧ (State.keyOffer s).1.sys = s.sys ∧
      (State.keyOffer s).1.pending = s.pending := by
  unfold State.keyOffer; (repeat' split) <;> simp

@[simp] theorem State.takeFrame_keeps (f : QueuedFrame) (s : State) :
    (State.takeFrame f s).held = s.held ∧ (State.takeFrame f s).clockMs = s.clockMs ∧
      (State.takeFrame f s).choices = s.choices ∧ (State.takeFrame f s).tables = s.tables ∧
      (State.takeFrame f s).store = s.store ∧ (State.takeFrame f s).meas = s.meas ∧
      (State.takeFrame f s).heat = s.heat ∧ (State.takeFrame f s).thermal = s.thermal ∧
      (State.takeFrame f s).power = s.power ∧ (State.takeFrame f s).live = s.live ∧
      (State.takeFrame f s).keypad = s.keypad ∧ (State.takeFrame f s).matcher = s.matcher ∧
      (State.takeFrame f s).beeper = s.beeper ∧ (State.takeFrame f s).sys = s.sys ∧
      (State.takeFrame f s).switch = s.switch ∧ (State.takeFrame f s).pending = s.pending := by
  simp [State.takeFrame]

@[simp] theorem State.requestDim_keeps (s : State) :
    (State.requestDim s).1.held = s.held ∧ (State.requestDim s).1.clockMs = s.clockMs ∧
      (State.requestDim s).1.choices = s.choices ∧ (State.requestDim s).1.tables = s.tables ∧
      (State.requestDim s).1.store = s.store ∧ (State.requestDim s).1.meas = s.meas ∧
      (State.requestDim s).1.heat = s.heat ∧ (State.requestDim s).1.thermal = s.thermal ∧
      (State.requestDim s).1.power = s.power ∧ (State.requestDim s).1.live = s.live ∧
      (State.requestDim s).1.keypad = s.keypad ∧ (State.requestDim s).1.matcher = s.matcher ∧
      (State.requestDim s).1.beeper = s.beeper ∧ (State.requestDim s).1.sys = s.sys ∧
      (State.requestDim s).1.pending = s.pending := by
  unfold State.requestDim; (repeat' split) <;> simp

@[simp] theorem State.requestWake_keeps (s : State) :
    (State.requestWake s).1.held = s.held ∧ (State.requestWake s).1.clockMs = s.clockMs ∧
      (State.requestWake s).1.choices = s.choices ∧ (State.requestWake s).1.tables = s.tables ∧
      (State.requestWake s).1.store = s.store ∧ (State.requestWake s).1.meas = s.meas ∧
      (State.requestWake s).1.heat = s.heat ∧ (State.requestWake s).1.thermal = s.thermal ∧
      (State.requestWake s).1.power = s.power ∧ (State.requestWake s).1.live = s.live ∧
      (State.requestWake s).1.keypad = s.keypad ∧ (State.requestWake s).1.matcher = s.matcher ∧
      (State.requestWake s).1.beeper = s.beeper ∧ (State.requestWake s).1.sys = s.sys ∧
      (State.requestWake s).1.pending = s.pending := by
  unfold State.requestWake; (repeat' split) <;> simp

@[simp] theorem State.requestRestart_keeps (s : State) :
    (State.requestRestart s).1.held = s.held ∧ (State.requestRestart s).1.clockMs = s.clockMs ∧
      (State.requestRestart s).1.choices = s.choices ∧ (State.requestRestart s).1.tables = s.tables ∧
      (State.requestRestart s).1.store = s.store ∧ (State.requestRestart s).1.meas = s.meas ∧
      (State.requestRestart s).1.heat = s.heat ∧ (State.requestRestart s).1.thermal = s.thermal ∧
      (State.requestRestart s).1.power = s.power ∧ (State.requestRestart s).1.live = s.live ∧
      (State.requestRestart s).1.keypad = s.keypad ∧ (State.requestRestart s).1.matcher = s.matcher ∧
      (State.requestRestart s).1.beeper = s.beeper ∧ (State.requestRestart s).1.sys = s.sys ∧
      (State.requestRestart s).1.switch = s.switch ∧ (State.requestRestart s).1.pending = s.pending := by
  unfold State.requestRestart; (repeat' split) <;> simp

@[simp] theorem State.displayOutcome_keeps (s : State) (o : RxOutcome) :
    (State.displayOutcome s o).held = s.held ∧ (State.displayOutcome s o).clockMs = s.clockMs ∧
      (State.displayOutcome s o).choices = s.choices ∧ (State.displayOutcome s o).tables = s.tables ∧
      (State.displayOutcome s o).store = s.store ∧ (State.displayOutcome s o).meas = s.meas ∧
      (State.displayOutcome s o).heat = s.heat ∧ (State.displayOutcome s o).thermal = s.thermal ∧
      (State.displayOutcome s o).power = s.power ∧ (State.displayOutcome s o).live = s.live ∧
      (State.displayOutcome s o).keypad = s.keypad ∧ (State.displayOutcome s o).matcher = s.matcher ∧
      (State.displayOutcome s o).beeper = s.beeper ∧ (State.displayOutcome s o).sys = s.sys ∧
      (State.displayOutcome s o).switch = s.switch ∧ (State.displayOutcome s o).path = s.path ∧
      (State.displayOutcome s o).pending = s.pending := by
  simp only [State.displayOutcome]; (repeat' split) <;> simp

@[simp] theorem State.systemOutcome_keeps (s : State) (o : RxOutcome) :
    (State.systemOutcome s o).held = s.held ∧ (State.systemOutcome s o).clockMs = s.clockMs ∧
      (State.systemOutcome s o).choices = s.choices ∧ (State.systemOutcome s o).tables = s.tables ∧
      (State.systemOutcome s o).store = s.store ∧ (State.systemOutcome s o).meas = s.meas ∧
      (State.systemOutcome s o).heat = s.heat ∧ (State.systemOutcome s o).thermal = s.thermal ∧
      (State.systemOutcome s o).power = s.power ∧ (State.systemOutcome s o).live = s.live ∧
      (State.systemOutcome s o).keypad = s.keypad ∧ (State.systemOutcome s o).matcher = s.matcher ∧
      (State.systemOutcome s o).beeper = s.beeper ∧ (State.systemOutcome s o).disp = s.disp ∧
      (State.systemOutcome s o).switch = s.switch ∧ (State.systemOutcome s o).path = s.path ∧
      (State.systemOutcome s o).mgmt = s.mgmt ∧ (State.systemOutcome s o).pending = s.pending := by
  simp [State.systemOutcome]

@[simp] theorem State.judgeLow_keeps (port : Port) (s : State) :
    (State.judgeLow port s).held = s.held ∧ (State.judgeLow port s).clockMs = s.clockMs ∧
      (State.judgeLow port s).choices = s.choices ∧ (State.judgeLow port s).tables = s.tables ∧
      (State.judgeLow port s).store = s.store ∧ (State.judgeLow port s).meas = s.meas ∧
      (State.judgeLow port s).heat = s.heat ∧ (State.judgeLow port s).thermal = s.thermal ∧
      (State.judgeLow port s).power = s.power ∧ (State.judgeLow port s).live = s.live ∧
      (State.judgeLow port s).keypad = s.keypad ∧ (State.judgeLow port s).matcher = s.matcher ∧
      (State.judgeLow port s).beeper = s.beeper ∧ (State.judgeLow port s).switch = s.switch ∧
      (State.judgeLow port s).path = s.path ∧ (State.judgeLow port s).pending = s.pending := by
  unfold State.judgeLow; (repeat' split) <;> simp

@[simp] theorem State.lineHigh_keeps (port : Port) (s : State) :
    (State.lineHigh port s).held = s.held ∧ (State.lineHigh port s).clockMs = s.clockMs ∧
      (State.lineHigh port s).choices = s.choices ∧ (State.lineHigh port s).tables = s.tables ∧
      (State.lineHigh port s).store = s.store ∧ (State.lineHigh port s).meas = s.meas ∧ (State.lineHigh port s).heat = s.heat ∧
      (State.lineHigh port s).thermal = s.thermal ∧ (State.lineHigh port s).power = s.power ∧
      (State.lineHigh port s).live = s.live ∧ (State.lineHigh port s).keypad = s.keypad ∧
      (State.lineHigh port s).matcher = s.matcher ∧ (State.lineHigh port s).beeper = s.beeper ∧
      (State.lineHigh port s).switch = s.switch ∧ (State.lineHigh port s).path = s.path ∧
      (State.lineHigh port s).pending = s.pending := by
  cases port <;> simp [State.lineHigh]

@[simp] theorem State.replyEnds_keeps (s : State) :
    (State.replyEnds s).held = s.held ∧ (State.replyEnds s).clockMs = s.clockMs ∧
      (State.replyEnds s).choices = s.choices ∧ (State.replyEnds s).tables = s.tables ∧
      (State.replyEnds s).store = s.store ∧ (State.replyEnds s).meas = s.meas ∧ (State.replyEnds s).heat = s.heat ∧
      (State.replyEnds s).thermal = s.thermal ∧ (State.replyEnds s).power = s.power ∧
      (State.replyEnds s).live = s.live ∧ (State.replyEnds s).keypad = s.keypad ∧
      (State.replyEnds s).matcher = s.matcher ∧ (State.replyEnds s).beeper = s.beeper ∧
      (State.replyEnds s).sys = s.sys ∧ (State.replyEnds s).disp = s.disp ∧ (State.replyEnds s).switch = s.switch ∧
      (State.replyEnds s).path = s.path ∧ (State.replyEnds s).pending = s.pending := by
  simp [State.replyEnds]

@[simp] theorem State.placeReply_keeps (r : Reply) (s : State) :
    (State.placeReply r s).held = s.held ∧ (State.placeReply r s).clockMs = s.clockMs ∧
      (State.placeReply r s).choices = s.choices ∧ (State.placeReply r s).tables = s.tables ∧
      (State.placeReply r s).store = s.store ∧ (State.placeReply r s).meas = s.meas ∧
      (State.placeReply r s).heat = s.heat ∧ (State.placeReply r s).thermal = s.thermal ∧
      (State.placeReply r s).power = s.power ∧ (State.placeReply r s).live = s.live ∧
      (State.placeReply r s).keypad = s.keypad ∧ (State.placeReply r s).matcher = s.matcher ∧
      (State.placeReply r s).beeper = s.beeper ∧ (State.placeReply r s).disp = s.disp ∧
      (State.placeReply r s).switch = s.switch ∧ (State.placeReply r s).path = s.path ∧
      (State.placeReply r s).pending = s.pending := by
  unfold State.placeReply; (repeat' split) <;> simp

@[simp] theorem State.dropReply_keeps (s : State) :
    (State.dropReply s).held = s.held ∧ (State.dropReply s).clockMs = s.clockMs ∧
      (State.dropReply s).choices = s.choices ∧ (State.dropReply s).tables = s.tables ∧
      (State.dropReply s).store = s.store ∧ (State.dropReply s).meas = s.meas ∧ (State.dropReply s).heat = s.heat ∧
      (State.dropReply s).thermal = s.thermal ∧ (State.dropReply s).power = s.power ∧
      (State.dropReply s).live = s.live ∧ (State.dropReply s).keypad = s.keypad ∧
      (State.dropReply s).matcher = s.matcher ∧ (State.dropReply s).beeper = s.beeper ∧
      (State.dropReply s).disp = s.disp ∧ (State.dropReply s).switch = s.switch ∧
      (State.dropReply s).path = s.path ∧ (State.dropReply s).pending = s.pending := by
  unfold State.dropReply; (repeat' split) <;> simp

@[simp] theorem State.forward_keeps (f : Frame) (s : State) :
    (State.forward f s).held = s.held ∧ (State.forward f s).clockMs = s.clockMs ∧
      (State.forward f s).choices = s.choices ∧ (State.forward f s).tables = s.tables ∧
      (State.forward f s).store = s.store ∧ (State.forward f s).meas = s.meas ∧ (State.forward f s).heat = s.heat ∧
      (State.forward f s).thermal = s.thermal ∧ (State.forward f s).power = s.power ∧
      (State.forward f s).live = s.live ∧ (State.forward f s).keypad = s.keypad ∧
      (State.forward f s).matcher = s.matcher ∧ (State.forward f s).beeper = s.beeper ∧
      (State.forward f s).disp = s.disp ∧ (State.forward f s).switch = s.switch ∧
      (State.forward f s).path = s.path ∧ (State.forward f s).pending = s.pending := by
  simp [State.forward]

@[simp] theorem State.portDies_keeps (s : State) :
    (State.portDies s).held = s.held ∧ (State.portDies s).clockMs = s.clockMs ∧
      (State.portDies s).choices = s.choices ∧ (State.portDies s).tables = s.tables ∧
      (State.portDies s).store = s.store ∧ (State.portDies s).meas = s.meas ∧ (State.portDies s).heat = s.heat ∧
      (State.portDies s).thermal = s.thermal ∧ (State.portDies s).power = s.power ∧
      (State.portDies s).live = s.live ∧ (State.portDies s).keypad = s.keypad ∧
      (State.portDies s).matcher = s.matcher ∧ (State.portDies s).beeper = s.beeper ∧
      (State.portDies s).disp = s.disp ∧ (State.portDies s).switch = s.switch ∧ (State.portDies s).path = s.path ∧
      (State.portDies s).pending = s.pending := by
  simp [State.portDies]

@[simp] theorem State.portReport_keeps (s : State) :
    (State.portReport s).held = s.held ∧ (State.portReport s).clockMs = s.clockMs ∧
      (State.portReport s).choices = s.choices ∧ (State.portReport s).tables = s.tables ∧
      (State.portReport s).store = s.store ∧ (State.portReport s).meas = s.meas ∧
      (State.portReport s).heat = s.heat ∧ (State.portReport s).thermal = s.thermal ∧
      (State.portReport s).power = s.power ∧ (State.portReport s).live = s.live ∧
      (State.portReport s).keypad = s.keypad ∧ (State.portReport s).matcher = s.matcher ∧
      (State.portReport s).beeper = s.beeper ∧ (State.portReport s).disp = s.disp ∧
      (State.portReport s).switch = s.switch ∧ (State.portReport s).path = s.path ∧
      (State.portReport s).pending = s.pending := by
  simp only [State.portReport]; (repeat' split) <;> simp

@[simp] theorem State.leaveSource_keeps (c : SysContent) (s : State) :
    (State.leaveSource c s).held = s.held ∧ (State.leaveSource c s).clockMs = s.clockMs ∧
      (State.leaveSource c s).choices = s.choices ∧ (State.leaveSource c s).tables = s.tables ∧
      (State.leaveSource c s).store = s.store ∧ (State.leaveSource c s).meas = s.meas ∧
      (State.leaveSource c s).heat = s.heat ∧ (State.leaveSource c s).thermal = s.thermal ∧
      (State.leaveSource c s).power = s.power ∧ (State.leaveSource c s).live = s.live ∧
      (State.leaveSource c s).matcher = s.matcher ∧ (State.leaveSource c s).beeper = s.beeper ∧
      (State.leaveSource c s).disp = s.disp ∧ (State.leaveSource c s).switch = s.switch ∧
      (State.leaveSource c s).path = s.path ∧ (State.leaveSource c s).pending = s.pending := by
  unfold State.leaveSource; (repeat' split) <;> simp

@[simp] theorem State.beginSystemFrame_keeps (s : State) :
    (State.beginSystemFrame s).held = s.held ∧ (State.beginSystemFrame s).clockMs = s.clockMs ∧
      (State.beginSystemFrame s).choices = s.choices ∧ (State.beginSystemFrame s).tables = s.tables ∧
      (State.beginSystemFrame s).store = s.store ∧ (State.beginSystemFrame s).meas = s.meas ∧
      (State.beginSystemFrame s).heat = s.heat ∧ (State.beginSystemFrame s).thermal = s.thermal ∧
      (State.beginSystemFrame s).power = s.power ∧ (State.beginSystemFrame s).live = s.live ∧
      (State.beginSystemFrame s).matcher = s.matcher ∧ (State.beginSystemFrame s).beeper = s.beeper ∧
      (State.beginSystemFrame s).disp = s.disp ∧ (State.beginSystemFrame s).switch = s.switch ∧
      (State.beginSystemFrame s).path = s.path ∧ (State.beginSystemFrame s).pending = s.pending := by
  unfold State.beginSystemFrame; (repeat' split) <;> simp

@[simp] theorem State.systemSent_keeps (s : State) :
    (State.systemSent s).held = s.held ∧ (State.systemSent s).clockMs = s.clockMs ∧
      (State.systemSent s).choices = s.choices ∧ (State.systemSent s).tables = s.tables ∧
      (State.systemSent s).store = s.store ∧ (State.systemSent s).meas = s.meas ∧
      (State.systemSent s).heat = s.heat ∧ (State.systemSent s).thermal = s.thermal ∧
      (State.systemSent s).power = s.power ∧ (State.systemSent s).live = s.live ∧
      (State.systemSent s).keypad = s.keypad ∧ (State.systemSent s).matcher = s.matcher ∧
      (State.systemSent s).beeper = s.beeper ∧ (State.systemSent s).disp = s.disp ∧
      (State.systemSent s).switch = s.switch ∧ (State.systemSent s).path = s.path ∧
      (State.systemSent s).pending = s.pending := by
  unfold State.systemSent; (repeat' split) <;> simp

@[simp] theorem State.linkReset_keeps (s : State) :
    (State.linkReset s).held = s.held ∧ (State.linkReset s).clockMs = s.clockMs ∧
      (State.linkReset s).choices = s.choices ∧ (State.linkReset s).tables = s.tables ∧
      (State.linkReset s).store = s.store ∧ (State.linkReset s).meas = s.meas ∧ (State.linkReset s).heat = s.heat ∧
      (State.linkReset s).thermal = s.thermal ∧ (State.linkReset s).power = s.power ∧
      (State.linkReset s).live = s.live ∧ (State.linkReset s).keypad = s.keypad ∧
      (State.linkReset s).matcher = s.matcher ∧ (State.linkReset s).beeper = s.beeper ∧
      (State.linkReset s).disp = s.disp ∧ (State.linkReset s).switch = s.switch ∧
      (State.linkReset s).path = s.path ∧ (State.linkReset s).pending = s.pending := by
  simp [State.linkReset]

@[simp] theorem State.displayBreak_keeps (s : State) :
    (State.displayBreak s).held = s.held ∧ (State.displayBreak s).clockMs = s.clockMs ∧
      (State.displayBreak s).choices = s.choices ∧ (State.displayBreak s).tables = s.tables ∧
      (State.displayBreak s).store = s.store ∧ (State.displayBreak s).meas = s.meas ∧
      (State.displayBreak s).heat = s.heat ∧ (State.displayBreak s).thermal = s.thermal ∧
      (State.displayBreak s).power = s.power ∧ (State.displayBreak s).live = s.live ∧
      (State.displayBreak s).keypad = s.keypad ∧ (State.displayBreak s).matcher = s.matcher ∧
      (State.displayBreak s).beeper = s.beeper ∧ (State.displayBreak s).sys = s.sys ∧
      (State.displayBreak s).switch = s.switch ∧ (State.displayBreak s).path = s.path ∧
      (State.displayBreak s).pending = s.pending := by
  unfold State.displayBreak; split <;> simp

@[simp] theorem State.applyRate_keeps (port : Port) (rate : Nat) (s : State) :
    (State.applyRate port rate s).held = s.held ∧ (State.applyRate port rate s).clockMs = s.clockMs ∧
      (State.applyRate port rate s).choices = s.choices ∧ (State.applyRate port rate s).tables = s.tables ∧
      (State.applyRate port rate s).store = s.store ∧ (State.applyRate port rate s).meas = s.meas ∧
      (State.applyRate port rate s).heat = s.heat ∧ (State.applyRate port rate s).thermal = s.thermal ∧
      (State.applyRate port rate s).power = s.power ∧ (State.applyRate port rate s).live = s.live ∧
      (State.applyRate port rate s).keypad = s.keypad ∧ (State.applyRate port rate s).matcher = s.matcher ∧
      (State.applyRate port rate s).beeper = s.beeper ∧ (State.applyRate port rate s).switch = s.switch ∧
      (State.applyRate port rate s).path = s.path ∧ (State.applyRate port rate s).mgmt = s.mgmt ∧
      (State.applyRate port rate s).pending = s.pending := by
  unfold State.applyRate; (repeat' split) <;> simp

@[simp] theorem State.applyRateChange_keeps (s : State) :
    (State.applyRateChange s).held = s.held ∧ (State.applyRateChange s).clockMs = s.clockMs ∧
      (State.applyRateChange s).choices = s.choices ∧ (State.applyRateChange s).tables = s.tables ∧
      (State.applyRateChange s).store = s.store ∧ (State.applyRateChange s).meas = s.meas ∧
      (State.applyRateChange s).heat = s.heat ∧ (State.applyRateChange s).thermal = s.thermal ∧
      (State.applyRateChange s).power = s.power ∧ (State.applyRateChange s).live = s.live ∧
      (State.applyRateChange s).keypad = s.keypad ∧ (State.applyRateChange s).matcher = s.matcher ∧
      (State.applyRateChange s).beeper = s.beeper ∧ (State.applyRateChange s).switch = s.switch ∧
      (State.applyRateChange s).path = s.path ∧ (State.applyRateChange s).mgmt = s.mgmt ∧
      (State.applyRateChange s).pending = s.pending := by
  unfold State.applyRateChange; (repeat' split) <;> simp

@[simp] theorem State.pathReport_keeps (turnedOn turnedOff : Bool) (s : State) :
    (State.pathReport turnedOn turnedOff s).held = s.held ∧
      (State.pathReport turnedOn turnedOff s).clockMs = s.clockMs ∧
      (State.pathReport turnedOn turnedOff s).choices = s.choices ∧
      (State.pathReport turnedOn turnedOff s).tables = s.tables ∧
      (State.pathReport turnedOn turnedOff s).store = s.store ∧
      (State.pathReport turnedOn turnedOff s).meas = s.meas ∧
      (State.pathReport turnedOn turnedOff s).heat = s.heat ∧
      (State.pathReport turnedOn turnedOff s).thermal = s.thermal ∧
      (State.pathReport turnedOn turnedOff s).power = s.power ∧
      (State.pathReport turnedOn turnedOff s).live = s.live ∧
      (State.pathReport turnedOn turnedOff s).keypad = s.keypad ∧
      (State.pathReport turnedOn turnedOff s).matcher = s.matcher ∧
      (State.pathReport turnedOn turnedOff s).beeper = s.beeper ∧
      (State.pathReport turnedOn turnedOff s).sys = s.sys ∧
      (State.pathReport turnedOn turnedOff s).switch = s.switch ∧
      (State.pathReport turnedOn turnedOff s).mgmt = s.mgmt ∧
      (State.pathReport turnedOn turnedOff s).pending = s.pending := by
  unfold State.pathReport; (repeat' split) <;> simp

@[simp] theorem State.reportPower_keeps (turnedOn turnedOff : Bool) (s : State) :
    (State.reportPower turnedOn turnedOff s).held = s.held ∧
      (State.reportPower turnedOn turnedOff s).clockMs = s.clockMs ∧
      (State.reportPower turnedOn turnedOff s).choices = s.choices ∧
      (State.reportPower turnedOn turnedOff s).tables = s.tables ∧
      (State.reportPower turnedOn turnedOff s).store = s.store ∧
      (State.reportPower turnedOn turnedOff s).meas = s.meas ∧
      (State.reportPower turnedOn turnedOff s).power = s.power ∧
      (State.reportPower turnedOn turnedOff s).switch = s.switch ∧
      (State.reportPower turnedOn turnedOff s).pending = s.pending := by
  simp [State.reportPower]

@[simp] theorem State.makeRecords_keeps (left : PowerState) (cs : List (Cause × Option SlotField)) (s : State) :
    (State.makeRecords left cs s).held = s.held ∧ (State.makeRecords left cs s).clockMs = s.clockMs ∧
      (State.makeRecords left cs s).choices = s.choices ∧ (State.makeRecords left cs s).tables = s.tables ∧
      (State.makeRecords left cs s).store = s.store ∧ (State.makeRecords left cs s).meas = s.meas ∧
      (State.makeRecords left cs s).heat = s.heat ∧ (State.makeRecords left cs s).thermal = s.thermal ∧
      (State.makeRecords left cs s).live = s.live ∧ (State.makeRecords left cs s).keypad = s.keypad ∧
      (State.makeRecords left cs s).matcher = s.matcher ∧ (State.makeRecords left cs s).beeper = s.beeper ∧
      (State.makeRecords left cs s).sys = s.sys ∧ (State.makeRecords left cs s).disp = s.disp ∧
      (State.makeRecords left cs s).switch = s.switch ∧ (State.makeRecords left cs s).path = s.path ∧
      (State.makeRecords left cs s).mgmt = s.mgmt ∧ (State.makeRecords left cs s).pending = s.pending := by
  simp [State.makeRecords]

@[simp] theorem State.transition_keeps (t : Target) (cs : List (Cause × Option SlotField)) (s : State) :
    (State.transition t cs s).held = s.held ∧ (State.transition t cs s).clockMs = s.clockMs ∧
      (State.transition t cs s).choices = s.choices ∧ (State.transition t cs s).tables = s.tables ∧
      (State.transition t cs s).store = s.store ∧ (State.transition t cs s).meas = s.meas ∧
      (State.transition t cs s).switch = s.switch ∧ (State.transition t cs s).pending = s.pending := by
  unfold State.transition; (repeat' split) <;> simp

@[simp] theorem State.enterReserve_keeps (cs : List (Cause × Option SlotField)) (s : State) :
    (State.enterReserve cs s).held = s.held ∧ (State.enterReserve cs s).clockMs = s.clockMs ∧
      (State.enterReserve cs s).choices = s.choices ∧ (State.enterReserve cs s).tables = s.tables ∧
      (State.enterReserve cs s).store = s.store ∧ (State.enterReserve cs s).meas = s.meas ∧
      (State.enterReserve cs s).switch = s.switch ∧ (State.enterReserve cs s).pending = s.pending := by
  simp [State.enterReserve]

@[simp] theorem State.sequencerZones_keeps (z : PerZone ZoneReport) (s : State) :
    (State.sequencerZones z s).held = s.held ∧ (State.sequencerZones z s).clockMs = s.clockMs ∧
      (State.sequencerZones z s).choices = s.choices ∧ (State.sequencerZones z s).tables = s.tables ∧
      (State.sequencerZones z s).store = s.store ∧ (State.sequencerZones z s).meas = s.meas ∧
      (State.sequencerZones z s).switch = s.switch ∧ (State.sequencerZones z s).pending = s.pending := by
  unfold State.sequencerZones; (repeat' split) <;> simp

@[simp] theorem State.preheatExpired_keeps (s : State) :
    (State.preheatExpired s).held = s.held ∧ (State.preheatExpired s).clockMs = s.clockMs ∧
      (State.preheatExpired s).choices = s.choices ∧ (State.preheatExpired s).tables = s.tables ∧
      (State.preheatExpired s).store = s.store ∧ (State.preheatExpired s).meas = s.meas ∧
      (State.preheatExpired s).switch = s.switch ∧ (State.preheatExpired s).pending = s.pending := by
  simp only [State.preheatExpired]; (repeat' split) <;> simp

@[simp] theorem State.settled_keeps (s : State) :
    (State.settled s).held = s.held ∧ (State.settled s).clockMs = s.clockMs ∧
      (State.settled s).choices = s.choices ∧ (State.settled s).tables = s.tables ∧
      (State.settled s).store = s.store ∧ (State.settled s).meas = s.meas ∧ (State.settled s).switch = s.switch ∧
      (State.settled s).pending = s.pending := by
  simp [State.settled]

@[simp] theorem State.powerGoodSeen_keeps (s : State) :
    (State.powerGoodSeen s).held = s.held ∧ (State.powerGoodSeen s).clockMs = s.clockMs ∧
      (State.powerGoodSeen s).choices = s.choices ∧ (State.powerGoodSeen s).tables = s.tables ∧
      (State.powerGoodSeen s).store = s.store ∧ (State.powerGoodSeen s).meas = s.meas ∧
      (State.powerGoodSeen s).switch = s.switch ∧ (State.powerGoodSeen s).pending = s.pending := by
  unfold State.powerGoodSeen; (repeat' split) <;> simp

@[simp] theorem State.reserveGranted_keeps (s : State) :
    (State.reserveGranted s).held = s.held ∧ (State.reserveGranted s).clockMs = s.clockMs ∧
      (State.reserveGranted s).choices = s.choices ∧ (State.reserveGranted s).tables = s.tables ∧
      (State.reserveGranted s).store = s.store ∧ (State.reserveGranted s).meas = s.meas ∧
      (State.reserveGranted s).switch = s.switch ∧ (State.reserveGranted s).pending = s.pending := by
  simp only [State.reserveGranted]; (repeat' split) <;> simp

@[simp] theorem State.postHello_keeps (s : State) :
    (State.postHello s).held = s.held ∧ (State.postHello s).clockMs = s.clockMs ∧
      (State.postHello s).choices = s.choices ∧ (State.postHello s).tables = s.tables ∧
      (State.postHello s).store = s.store ∧ (State.postHello s).meas = s.meas ∧ (State.postHello s).heat = s.heat ∧
      (State.postHello s).thermal = s.thermal ∧ (State.postHello s).power = s.power ∧
      (State.postHello s).live = s.live ∧ (State.postHello s).keypad = s.keypad ∧
      (State.postHello s).matcher = s.matcher ∧ (State.postHello s).beeper = s.beeper ∧
      (State.postHello s).sys = s.sys ∧ (State.postHello s).disp = s.disp ∧ (State.postHello s).switch = s.switch ∧
      (State.postHello s).path = s.path ∧ (State.postHello s).pending = s.pending := by
  unfold State.postHello; (repeat' split) <;> simp

@[simp] theorem State.firstHeartbeat_keeps (s : State) :
    (State.firstHeartbeat s).held = s.held ∧ (State.firstHeartbeat s).clockMs = s.clockMs ∧
      (State.firstHeartbeat s).choices = s.choices ∧ (State.firstHeartbeat s).tables = s.tables ∧
      (State.firstHeartbeat s).store = s.store ∧ (State.firstHeartbeat s).meas = s.meas ∧
      (State.firstHeartbeat s).switch = s.switch ∧ (State.firstHeartbeat s).pending = s.pending := by
  unfold State.firstHeartbeat; (repeat' split) <;> simp

@[simp] theorem State.autoRestart_keeps (c : Cause) (s : State) :
    (State.autoRestart c s).held = s.held ∧ (State.autoRestart c s).clockMs = s.clockMs ∧
      (State.autoRestart c s).choices = s.choices ∧ (State.autoRestart c s).tables = s.tables ∧
      (State.autoRestart c s).store = s.store ∧ (State.autoRestart c s).meas = s.meas ∧
      (State.autoRestart c s).switch = s.switch ∧ (State.autoRestart c s).pending = s.pending := by
  simp only [State.autoRestart]; (repeat' split) <;> simp

@[simp] theorem State.watchdogRequest_keeps (s : State) :
    (State.watchdogRequest s).held = s.held ∧ (State.watchdogRequest s).clockMs = s.clockMs ∧
      (State.watchdogRequest s).choices = s.choices ∧ (State.watchdogRequest s).tables = s.tables ∧
      (State.watchdogRequest s).store = s.store ∧ (State.watchdogRequest s).meas = s.meas ∧
      (State.watchdogRequest s).switch = s.switch ∧ (State.watchdogRequest s).pending = s.pending := by
  unfold State.watchdogRequest; (repeat' split) <;> simp

@[simp] theorem State.bootTimedOut_keeps (s : State) :
    (State.bootTimedOut s).held = s.held ∧ (State.bootTimedOut s).clockMs = s.clockMs ∧
      (State.bootTimedOut s).choices = s.choices ∧ (State.bootTimedOut s).tables = s.tables ∧
      (State.bootTimedOut s).store = s.store ∧ (State.bootTimedOut s).meas = s.meas ∧
      (State.bootTimedOut s).switch = s.switch ∧ (State.bootTimedOut s).pending = s.pending := by
  unfold State.bootTimedOut; (repeat' split) <;> simp

@[simp] theorem State.endShutdown_keeps (cs : List (Cause × Option SlotField)) (s : State) :
    (State.endShutdown cs s).held = s.held ∧ (State.endShutdown cs s).clockMs = s.clockMs ∧
      (State.endShutdown cs s).choices = s.choices ∧ (State.endShutdown cs s).tables = s.tables ∧
      (State.endShutdown cs s).store = s.store ∧ (State.endShutdown cs s).meas = s.meas ∧
      (State.endShutdown cs s).switch = s.switch ∧ (State.endShutdown cs s).pending = s.pending := by
  unfold State.endShutdown; (repeat' split) <;> simp

@[simp] theorem State.endIfNoGrace_keeps (grace : Nat) (s : State) :
    (State.endIfNoGrace grace s).held = s.held ∧ (State.endIfNoGrace grace s).clockMs = s.clockMs ∧
      (State.endIfNoGrace grace s).choices = s.choices ∧ (State.endIfNoGrace grace s).tables = s.tables ∧
      (State.endIfNoGrace grace s).store = s.store ∧ (State.endIfNoGrace grace s).meas = s.meas ∧
      (State.endIfNoGrace grace s).switch = s.switch ∧ (State.endIfNoGrace grace s).pending = s.pending := by
  unfold State.endIfNoGrace; (repeat' split) <;> simp

@[simp] theorem State.thermalShutdown_keeps (s : State) :
    (State.thermalShutdown s).held = s.held ∧ (State.thermalShutdown s).clockMs = s.clockMs ∧
      (State.thermalShutdown s).choices = s.choices ∧ (State.thermalShutdown s).tables = s.tables ∧
      (State.thermalShutdown s).store = s.store ∧ (State.thermalShutdown s).meas = s.meas ∧
      (State.thermalShutdown s).switch = s.switch ∧ (State.thermalShutdown s).pending = s.pending := by
  unfold State.thermalShutdown; (repeat' split) <;> simp

@[simp] theorem State.thermalResume_keeps (s : State) :
    (State.thermalResume s).held = s.held ∧ (State.thermalResume s).clockMs = s.clockMs ∧
      (State.thermalResume s).choices = s.choices ∧ (State.thermalResume s).tables = s.tables ∧
      (State.thermalResume s).store = s.store ∧ (State.thermalResume s).meas = s.meas ∧
      (State.thermalResume s).switch = s.switch ∧ (State.thermalResume s).pending = s.pending := by
  unfold State.thermalResume; (repeat' split) <;> simp

@[simp] theorem State.requestOff_keeps (s : State) :
    (State.requestOff s).1.held = s.held ∧ (State.requestOff s).1.clockMs = s.clockMs ∧
      (State.requestOff s).1.choices = s.choices ∧ (State.requestOff s).1.tables = s.tables ∧
      (State.requestOff s).1.store = s.store ∧ (State.requestOff s).1.meas = s.meas ∧
      (State.requestOff s).1.switch = s.switch ∧ (State.requestOff s).1.pending = s.pending := by
  unfold State.requestOff; (repeat' split) <;> simp

@[simp] theorem State.requestPowerRestart_keeps (s : State) :
    (State.requestPowerRestart s).1.held = s.held ∧ (State.requestPowerRestart s).1.clockMs = s.clockMs ∧
      (State.requestPowerRestart s).1.choices = s.choices ∧ (State.requestPowerRestart s).1.tables = s.tables ∧
      (State.requestPowerRestart s).1.store = s.store ∧ (State.requestPowerRestart s).1.meas = s.meas ∧
      (State.requestPowerRestart s).1.switch = s.switch ∧ (State.requestPowerRestart s).1.pending = s.pending := by
  unfold State.requestPowerRestart; (repeat' split) <;> simp

@[simp] theorem State.requestCycle_keeps (s : State) :
    (State.requestCycle s).1.held = s.held ∧ (State.requestCycle s).1.clockMs = s.clockMs ∧
      (State.requestCycle s).1.choices = s.choices ∧ (State.requestCycle s).1.tables = s.tables ∧
      (State.requestCycle s).1.store = s.store ∧ (State.requestCycle s).1.meas = s.meas ∧
      (State.requestCycle s).1.switch = s.switch ∧ (State.requestCycle s).1.pending = s.pending := by
  unfold State.requestCycle; (repeat' split) <;> simp

@[simp] theorem State.carryOut_keeps (a : PanelAction) (slot : SlotField) (s : State) :
    (State.carryOut a slot s).held = s.held ∧ (State.carryOut a slot s).clockMs = s.clockMs ∧
      (State.carryOut a slot s).choices = s.choices ∧ (State.carryOut a slot s).tables = s.tables ∧
      (State.carryOut a slot s).store = s.store ∧ (State.carryOut a slot s).meas = s.meas ∧
      (State.carryOut a slot s).switch = s.switch ∧ (State.carryOut a slot s).pending = s.pending := by
  unfold State.carryOut; (repeat' split) <;> simp

@[simp] theorem State.panelAction_keeps (a : PanelAction) (slot : Fin 4) (s : State) :
    (State.panelAction a slot s).held = s.held ∧ (State.panelAction a slot s).clockMs = s.clockMs ∧
      (State.panelAction a slot s).choices = s.choices ∧ (State.panelAction a slot s).tables = s.tables ∧
      (State.panelAction a slot s).store = s.store ∧ (State.panelAction a slot s).meas = s.meas ∧
      (State.panelAction a slot s).switch = s.switch ∧ (State.panelAction a slot s).pending = s.pending := by
  unfold State.panelAction; (repeat' split) <;> simp

@[simp] theorem State.anyKeyPowerOn_keeps (s : State) :
    (State.anyKeyPowerOn s).held = s.held ∧ (State.anyKeyPowerOn s).clockMs = s.clockMs ∧
      (State.anyKeyPowerOn s).choices = s.choices ∧ (State.anyKeyPowerOn s).tables = s.tables ∧
      (State.anyKeyPowerOn s).store = s.store ∧ (State.anyKeyPowerOn s).meas = s.meas ∧
      (State.anyKeyPowerOn s).switch = s.switch ∧ (State.anyKeyPowerOn s).pending = s.pending := by
  unfold State.anyKeyPowerOn; (repeat' split) <;> simp

@[simp] theorem State.powerLost_keeps (s : State) :
    (State.powerLost s).held = s.held ∧ (State.powerLost s).clockMs = s.clockMs ∧
      (State.powerLost s).choices = s.choices ∧ (State.powerLost s).tables = s.tables ∧
      (State.powerLost s).store = s.store ∧ (State.powerLost s).meas = s.meas ∧
      (State.powerLost s).switch = s.switch ∧ (State.powerLost s).pending = s.pending := by
  unfold State.powerLost; (repeat' split) <;> simp

@[simp] theorem State.powerGoodLevel_keeps (high : Bool) (s : State) :
    (State.powerGoodLevel high s).held = s.held ∧ (State.powerGoodLevel high s).clockMs = s.clockMs ∧
      (State.powerGoodLevel high s).choices = s.choices ∧ (State.powerGoodLevel high s).tables = s.tables ∧
      (State.powerGoodLevel high s).store = s.store ∧ (State.powerGoodLevel high s).meas = s.meas ∧
      (State.powerGoodLevel high s).switch = s.switch ∧ (State.powerGoodLevel high s).pending = s.pending := by
  simp only [State.powerGoodLevel]; (repeat' split) <;> simp

@[simp] theorem State.acceptHeartbeat_keeps (s : State) :
    (State.acceptHeartbeat s).held = s.held ∧ (State.acceptHeartbeat s).clockMs = s.clockMs ∧
      (State.acceptHeartbeat s).choices = s.choices ∧ (State.acceptHeartbeat s).tables = s.tables ∧
      (State.acceptHeartbeat s).store = s.store ∧ (State.acceptHeartbeat s).meas = s.meas ∧
      (State.acceptHeartbeat s).heat = s.heat ∧ (State.acceptHeartbeat s).thermal = s.thermal ∧
      (State.acceptHeartbeat s).power = s.power ∧ (State.acceptHeartbeat s).keypad = s.keypad ∧
      (State.acceptHeartbeat s).matcher = s.matcher ∧ (State.acceptHeartbeat s).beeper = s.beeper ∧
      (State.acceptHeartbeat s).sys = s.sys ∧ (State.acceptHeartbeat s).disp = s.disp ∧
      (State.acceptHeartbeat s).switch = s.switch ∧ (State.acceptHeartbeat s).path = s.path ∧
      (State.acceptHeartbeat s).mgmt = s.mgmt ∧ (State.acceptHeartbeat s).pending = s.pending := by
  simp [State.acceptHeartbeat]

@[simp] theorem State.earlyHeartbeat_keeps (s : State) :
    (State.earlyHeartbeat s).held = s.held ∧ (State.earlyHeartbeat s).clockMs = s.clockMs ∧
      (State.earlyHeartbeat s).choices = s.choices ∧ (State.earlyHeartbeat s).tables = s.tables ∧
      (State.earlyHeartbeat s).store = s.store ∧ (State.earlyHeartbeat s).meas = s.meas ∧
      (State.earlyHeartbeat s).heat = s.heat ∧ (State.earlyHeartbeat s).thermal = s.thermal ∧
      (State.earlyHeartbeat s).power = s.power ∧ (State.earlyHeartbeat s).keypad = s.keypad ∧
      (State.earlyHeartbeat s).matcher = s.matcher ∧ (State.earlyHeartbeat s).beeper = s.beeper ∧
      (State.earlyHeartbeat s).sys = s.sys ∧ (State.earlyHeartbeat s).disp = s.disp ∧
      (State.earlyHeartbeat s).switch = s.switch ∧ (State.earlyHeartbeat s).path = s.path ∧
      (State.earlyHeartbeat s).pending = s.pending := by
  simp [State.earlyHeartbeat]

@[simp] theorem State.bootHeard_keeps (s : State) :
    (State.bootHeard s).held = s.held ∧ (State.bootHeard s).clockMs = s.clockMs ∧
      (State.bootHeard s).choices = s.choices ∧ (State.bootHeard s).tables = s.tables ∧
      (State.bootHeard s).store = s.store ∧ (State.bootHeard s).meas = s.meas ∧
      (State.bootHeard s).switch = s.switch ∧ (State.bootHeard s).pending = s.pending := by
  simp [State.bootHeard]

@[simp] theorem State.heartbeat_keeps (s : State) :
    (State.heartbeat s).held = s.held ∧ (State.heartbeat s).clockMs = s.clockMs ∧
      (State.heartbeat s).choices = s.choices ∧ (State.heartbeat s).tables = s.tables ∧
      (State.heartbeat s).store = s.store ∧ (State.heartbeat s).meas = s.meas ∧
      (State.heartbeat s).switch = s.switch ∧ (State.heartbeat s).pending = s.pending := by
  unfold State.heartbeat; (repeat' split) <;> simp

@[simp] theorem State.bootExpired_keeps (s : State) :
    (State.bootExpired s).held = s.held ∧ (State.bootExpired s).clockMs = s.clockMs ∧
      (State.bootExpired s).choices = s.choices ∧ (State.bootExpired s).tables = s.tables ∧
      (State.bootExpired s).store = s.store ∧ (State.bootExpired s).meas = s.meas ∧
      (State.bootExpired s).switch = s.switch ∧ (State.bootExpired s).pending = s.pending := by
  simp [State.bootExpired]

@[simp] theorem State.graceExpired_keeps (s : State) :
    (State.graceExpired s).held = s.held ∧ (State.graceExpired s).clockMs = s.clockMs ∧
      (State.graceExpired s).choices = s.choices ∧ (State.graceExpired s).tables = s.tables ∧
      (State.graceExpired s).store = s.store ∧ (State.graceExpired s).meas = s.meas ∧
      (State.graceExpired s).switch = s.switch ∧ (State.graceExpired s).pending = s.pending := by
  simp [State.graceExpired]

@[simp] theorem State.heartbeatExpired_keeps (t : Timer) (s : State) :
    (State.heartbeatExpired t s).held = s.held ∧ (State.heartbeatExpired t s).clockMs = s.clockMs ∧
      (State.heartbeatExpired t s).choices = s.choices ∧ (State.heartbeatExpired t s).tables = s.tables ∧
      (State.heartbeatExpired t s).store = s.store ∧ (State.heartbeatExpired t s).meas = s.meas ∧
      (State.heartbeatExpired t s).switch = s.switch ∧ (State.heartbeatExpired t s).pending = s.pending := by
  simp only [State.heartbeatExpired]; (repeat' split) <;> simp

@[simp] theorem State.livenessSoftReset_keeps (s : State) :
    (State.livenessSoftReset s).held = s.held ∧ (State.livenessSoftReset s).clockMs = s.clockMs ∧
      (State.livenessSoftReset s).choices = s.choices ∧ (State.livenessSoftReset s).tables = s.tables ∧
      (State.livenessSoftReset s).store = s.store ∧ (State.livenessSoftReset s).meas = s.meas ∧
      (State.livenessSoftReset s).heat = s.heat ∧ (State.livenessSoftReset s).thermal = s.thermal ∧
      (State.livenessSoftReset s).power = s.power ∧ (State.livenessSoftReset s).keypad = s.keypad ∧
      (State.livenessSoftReset s).matcher = s.matcher ∧ (State.livenessSoftReset s).beeper = s.beeper ∧
      (State.livenessSoftReset s).sys = s.sys ∧ (State.livenessSoftReset s).disp = s.disp ∧
      (State.livenessSoftReset s).switch = s.switch ∧ (State.livenessSoftReset s).path = s.path ∧
      (State.livenessSoftReset s).mgmt = s.mgmt ∧ (State.livenessSoftReset s).pending = s.pending := by
  unfold State.livenessSoftReset; (repeat' split) <;> simp

@[simp] theorem State.sendWarn_keeps (before after : Thermal) (board : ZoneReport) (s : State) :
    (State.sendWarn before after board s).held = s.held ∧
      (State.sendWarn before after board s).clockMs = s.clockMs ∧
      (State.sendWarn before after board s).choices = s.choices ∧
      (State.sendWarn before after board s).tables = s.tables ∧
      (State.sendWarn before after board s).store = s.store ∧ (State.sendWarn before after board s).meas = s.meas ∧
      (State.sendWarn before after board s).heat = s.heat ∧
      (State.sendWarn before after board s).thermal = s.thermal ∧
      (State.sendWarn before after board s).power = s.power ∧ (State.sendWarn before after board s).live = s.live ∧
      (State.sendWarn before after board s).keypad = s.keypad ∧
      (State.sendWarn before after board s).matcher = s.matcher ∧
      (State.sendWarn before after board s).beeper = s.beeper ∧ (State.sendWarn before after board s).sys = s.sys ∧
      (State.sendWarn before after board s).disp = s.disp ∧
      (State.sendWarn before after board s).switch = s.switch ∧
      (State.sendWarn before after board s).path = s.path ∧
      (State.sendWarn before after board s).pending = s.pending := by
  unfold State.sendWarn; (repeat' split) <;> simp

@[simp] theorem State.sendShutdown_keeps (after : Thermal) (s : State) :
    (State.sendShutdown after s).held = s.held ∧ (State.sendShutdown after s).clockMs = s.clockMs ∧
      (State.sendShutdown after s).choices = s.choices ∧ (State.sendShutdown after s).tables = s.tables ∧
      (State.sendShutdown after s).store = s.store ∧ (State.sendShutdown after s).meas = s.meas ∧
      (State.sendShutdown after s).switch = s.switch ∧ (State.sendShutdown after s).pending = s.pending := by
  unfold State.sendShutdown; (repeat' split) <;> simp

@[simp] theorem State.sendResume_keeps (before after : Thermal) (s : State) :
    (State.sendResume before after s).held = s.held ∧ (State.sendResume before after s).clockMs = s.clockMs ∧
      (State.sendResume before after s).choices = s.choices ∧ (State.sendResume before after s).tables = s.tables ∧
      (State.sendResume before after s).store = s.store ∧ (State.sendResume before after s).meas = s.meas ∧
      (State.sendResume before after s).switch = s.switch ∧ (State.sendResume before after s).pending = s.pending := by
  unfold State.sendResume; (repeat' split) <;> simp

@[simp] theorem State.sendHeatDim_keeps (before after : Thermal) (s : State) :
    (State.sendHeatDim before after s).held = s.held ∧ (State.sendHeatDim before after s).clockMs = s.clockMs ∧
      (State.sendHeatDim before after s).choices = s.choices ∧
      (State.sendHeatDim before after s).tables = s.tables ∧ (State.sendHeatDim before after s).store = s.store ∧
      (State.sendHeatDim before after s).meas = s.meas ∧ (State.sendHeatDim before after s).heat = s.heat ∧
      (State.sendHeatDim before after s).thermal = s.thermal ∧ (State.sendHeatDim before after s).power = s.power ∧
      (State.sendHeatDim before after s).live = s.live ∧ (State.sendHeatDim before after s).keypad = s.keypad ∧
      (State.sendHeatDim before after s).matcher = s.matcher ∧
      (State.sendHeatDim before after s).beeper = s.beeper ∧ (State.sendHeatDim before after s).sys = s.sys ∧
      (State.sendHeatDim before after s).pending = s.pending := by
  unfold State.sendHeatDim; (repeat' split) <;> simp

@[simp] theorem State.sendBlind_keeps (before : Thermal) (board : ZoneReport) (s : State) :
    (State.sendBlind before board s).held = s.held ∧ (State.sendBlind before board s).clockMs = s.clockMs ∧
      (State.sendBlind before board s).choices = s.choices ∧ (State.sendBlind before board s).tables = s.tables ∧
      (State.sendBlind before board s).store = s.store ∧ (State.sendBlind before board s).meas = s.meas ∧
      (State.sendBlind before board s).heat = s.heat ∧ (State.sendBlind before board s).thermal = s.thermal ∧
      (State.sendBlind before board s).power = s.power ∧ (State.sendBlind before board s).live = s.live ∧
      (State.sendBlind before board s).keypad = s.keypad ∧ (State.sendBlind before board s).matcher = s.matcher ∧
      (State.sendBlind before board s).beeper = s.beeper ∧ (State.sendBlind before board s).sys = s.sys ∧
      (State.sendBlind before board s).disp = s.disp ∧ (State.sendBlind before board s).switch = s.switch ∧
      (State.sendBlind before board s).path = s.path ∧ (State.sendBlind before board s).pending = s.pending := by
  unfold State.sendBlind; (repeat' split) <;> simp

@[simp] theorem State.sendFilter_keeps (before after : Thermal) (board : ZoneReport) (s : State) :
    (State.sendFilter before after board s).held = s.held ∧
      (State.sendFilter before after board s).clockMs = s.clockMs ∧
      (State.sendFilter before after board s).choices = s.choices ∧
      (State.sendFilter before after board s).tables = s.tables ∧
      (State.sendFilter before after board s).store = s.store ∧
      (State.sendFilter before after board s).meas = s.meas ∧
      (State.sendFilter before after board s).heat = s.heat ∧
      (State.sendFilter before after board s).thermal = s.thermal ∧
      (State.sendFilter before after board s).power = s.power ∧
      (State.sendFilter before after board s).live = s.live ∧
      (State.sendFilter before after board s).keypad = s.keypad ∧
      (State.sendFilter before after board s).matcher = s.matcher ∧
      (State.sendFilter before after board s).beeper = s.beeper ∧
      (State.sendFilter before after board s).sys = s.sys ∧ (State.sendFilter before after board s).disp = s.disp ∧
      (State.sendFilter before after board s).switch = s.switch ∧
      (State.sendFilter before after board s).path = s.path ∧
      (State.sendFilter before after board s).pending = s.pending := by
  unfold State.sendFilter; (repeat' split) <;> simp

@[simp] theorem State.sendRequests_keeps (before after : Thermal) (s : State) :
    (State.sendRequests before after s).held = s.held ∧ (State.sendRequests before after s).clockMs = s.clockMs ∧
      (State.sendRequests before after s).choices = s.choices ∧ (State.sendRequests before after s).tables = s.tables ∧
      (State.sendRequests before after s).store = s.store ∧ (State.sendRequests before after s).meas = s.meas ∧
      (State.sendRequests before after s).switch = s.switch ∧
      (State.sendRequests before after s).pending = s.pending := by
  simp [State.sendRequests]

@[simp] theorem State.sendRequestsAndDim_keeps (before after : Thermal) (s : State) :
    (State.sendRequestsAndDim before after s).held = s.held ∧
      (State.sendRequestsAndDim before after s).clockMs = s.clockMs ∧
      (State.sendRequestsAndDim before after s).tables = s.tables ∧
      (State.sendRequestsAndDim before after s).store = s.store ∧
      (State.sendRequestsAndDim before after s).meas = s.meas ∧
      (State.sendRequestsAndDim before after s).pending = s.pending := by
  simp only [State.sendRequestsAndDim, eitherOrder, State.oneOf]; (repeat' split) <;> simp

@[simp] theorem State.thermalZones_keeps (z : PerZone ZoneReport) (s : State) :
    (State.thermalZones z s).held = s.held ∧ (State.thermalZones z s).clockMs = s.clockMs ∧
      (State.thermalZones z s).tables = s.tables ∧
      (State.thermalZones z s).store = s.store ∧ (State.thermalZones z s).meas = s.meas ∧
      (State.thermalZones z s).pending = s.pending := by
  simp [State.thermalZones]

@[simp] theorem State.zonesEvaluated_keeps (z : PerZone ZoneReport) (s : State) :
    (State.zonesEvaluated z s).held = s.held ∧ (State.zonesEvaluated z s).clockMs = s.clockMs ∧
      (State.zonesEvaluated z s).tables = s.tables ∧ (State.zonesEvaluated z s).store = s.store ∧
      (State.zonesEvaluated z s).meas = s.meas ∧ (State.zonesEvaluated z s).pending = s.pending := by
  simp only [State.zonesEvaluated, eitherOrder, State.oneOf]; (repeat' split) <;> simp

@[simp] theorem State.cycleComplete_keeps (s : State) :
    (State.cycleComplete s).held = s.held ∧ (State.cycleComplete s).clockMs = s.clockMs ∧
      (State.cycleComplete s).tables = s.tables ∧ (State.cycleComplete s).store = s.store ∧
      (State.cycleComplete s).meas = s.meas ∧ (State.cycleComplete s).pending = s.pending := by
  simp [State.cycleComplete]

@[simp] theorem State.deliver_keeps (a : SlotAction) (n : Fin 4) (s : State) :
    (State.deliver a n s).held = s.held ∧ (State.deliver a n s).clockMs = s.clockMs ∧
      (State.deliver a n s).choices = s.choices ∧ (State.deliver a n s).tables = s.tables ∧
      (State.deliver a n s).store = s.store ∧ (State.deliver a n s).meas = s.meas ∧
      (State.deliver a n s).switch = s.switch ∧ (State.deliver a n s).pending = s.pending := by
  unfold State.deliver; (repeat' split) <;> simp

@[simp] theorem State.fire_keeps (n : Fin 4) (s : State) :
    (State.fire n s).held = s.held ∧ (State.fire n s).clockMs = s.clockMs ∧ (State.fire n s).choices = s.choices ∧
      (State.fire n s).tables = s.tables ∧ (State.fire n s).store = s.store ∧ (State.fire n s).meas = s.meas ∧
      (State.fire n s).switch = s.switch ∧ (State.fire n s).pending = s.pending := by
  simp [State.fire]

@[simp] theorem State.judgePress_keeps (k : Fin 64) (s : State) :
    (State.judgePress k s).held = s.held ∧ (State.judgePress k s).clockMs = s.clockMs ∧
      (State.judgePress k s).choices = s.choices ∧ (State.judgePress k s).tables = s.tables ∧
      (State.judgePress k s).store = s.store ∧ (State.judgePress k s).meas = s.meas ∧
      (State.judgePress k s).switch = s.switch ∧ (State.judgePress k s).pending = s.pending := by
  unfold State.judgePress; (repeat' split) <;> simp

@[simp] theorem State.takeReports_keeps (s : State) :
    (State.takeReports s).held = s.held ∧ (State.takeReports s).clockMs = s.clockMs ∧
      (State.takeReports s).choices = s.choices ∧ (State.takeReports s).tables = s.tables ∧
      (State.takeReports s).store = s.store ∧ (State.takeReports s).meas = s.meas ∧
      (State.takeReports s).heat = s.heat ∧ (State.takeReports s).thermal = s.thermal ∧
      (State.takeReports s).power = s.power ∧ (State.takeReports s).live = s.live ∧
      (State.takeReports s).keypad = s.keypad ∧ (State.takeReports s).beeper = s.beeper ∧
      (State.takeReports s).sys = s.sys ∧ (State.takeReports s).disp = s.disp ∧
      (State.takeReports s).switch = s.switch ∧ (State.takeReports s).path = s.path ∧
      (State.takeReports s).mgmt = s.mgmt ∧ (State.takeReports s).pending = s.pending := by
  simp [State.takeReports]

@[simp] theorem State.matcherPress_keeps (k : Fin 64) (s : State) :
    (State.matcherPress k s).held = s.held ∧ (State.matcherPress k s).clockMs = s.clockMs ∧
      (State.matcherPress k s).tables = s.tables ∧ (State.matcherPress k s).store = s.store ∧
      (State.matcherPress k s).meas = s.meas ∧ (State.matcherPress k s).switch = s.switch ∧
      (State.matcherPress k s).pending = s.pending := by
  simp only [State.matcherPress, State.oneOf]; (repeat' split) <;> simp

@[simp] theorem State.holdExpired_keeps (due : Nat) (s : State) :
    (State.holdExpired due s).held = s.held ∧ (State.holdExpired due s).clockMs = s.clockMs ∧
      (State.holdExpired due s).choices = s.choices ∧ (State.holdExpired due s).tables = s.tables ∧
      (State.holdExpired due s).store = s.store ∧ (State.holdExpired due s).meas = s.meas ∧
      (State.holdExpired due s).switch = s.switch ∧ (State.holdExpired due s).pending = s.pending := by
  unfold State.holdExpired; (repeat' split) <;> simp

@[simp] theorem State.decidePress_keeps (i : Fin 64) (e : KeyEntry) (s : State) :
    (State.decidePress i e s).held = s.held ∧ (State.decidePress i e s).clockMs = s.clockMs ∧
      (State.decidePress i e s).choices = s.choices ∧ (State.decidePress i e s).tables = s.tables ∧
      (State.decidePress i e s).store = s.store ∧ (State.decidePress i e s).meas = s.meas ∧
      (State.decidePress i e s).heat = s.heat ∧ (State.decidePress i e s).thermal = s.thermal ∧
      (State.decidePress i e s).power = s.power ∧ (State.decidePress i e s).live = s.live ∧
      (State.decidePress i e s).matcher = s.matcher ∧ (State.decidePress i e s).beeper = s.beeper ∧
      (State.decidePress i e s).sys = s.sys ∧ (State.decidePress i e s).disp = s.disp ∧
      (State.decidePress i e s).switch = s.switch ∧ (State.decidePress i e s).path = s.path ∧
      (State.decidePress i e s).pending = s.pending := by
  unfold State.decidePress; (repeat' split) <;> simp

@[simp] theorem State.clickFor_keeps (e : KeyEntry) (s : State) :
    (State.clickFor e s).held = s.held ∧ (State.clickFor e s).clockMs = s.clockMs ∧
      (State.clickFor e s).choices = s.choices ∧ (State.clickFor e s).tables = s.tables ∧
      (State.clickFor e s).store = s.store ∧ (State.clickFor e s).meas = s.meas ∧
      (State.clickFor e s).heat = s.heat ∧ (State.clickFor e s).thermal = s.thermal ∧
      (State.clickFor e s).power = s.power ∧ (State.clickFor e s).live = s.live ∧
      (State.clickFor e s).keypad = s.keypad ∧ (State.clickFor e s).matcher = s.matcher ∧
      (State.clickFor e s).sys = s.sys ∧ (State.clickFor e s).disp = s.disp ∧
      (State.clickFor e s).switch = s.switch ∧ (State.clickFor e s).path = s.path ∧
      (State.clickFor e s).mgmt = s.mgmt ∧ (State.clickFor e s).pending = s.pending := by
  unfold State.clickFor; (repeat' split) <;> simp

@[simp] theorem State.anyKeyFirst_keeps (i : Fin 64) (s : State) :
    (State.anyKeyFirst i s).held = s.held ∧ (State.anyKeyFirst i s).clockMs = s.clockMs ∧
      (State.anyKeyFirst i s).choices = s.choices ∧ (State.anyKeyFirst i s).tables = s.tables ∧
      (State.anyKeyFirst i s).store = s.store ∧ (State.anyKeyFirst i s).meas = s.meas ∧
      (State.anyKeyFirst i s).switch = s.switch ∧ (State.anyKeyFirst i s).pending = s.pending := by
  unfold State.anyKeyFirst; (repeat' split) <;> simp

@[simp] theorem State.handOn_keeps (i : Fin 64) (s : State) :
    (State.handOn i s).held = s.held ∧ (State.handOn i s).clockMs = s.clockMs ∧
      (State.handOn i s).tables = s.tables ∧ (State.handOn i s).store = s.store ∧
      (State.handOn i s).meas = s.meas ∧ (State.handOn i s).switch = s.switch ∧
      (State.handOn i s).pending = s.pending := by
  simp only [State.handOn, State.oneOf]; (repeat' split) <;> simp

@[simp] theorem State.passedPress_keeps (i : Fin 64) (e : KeyEntry) (s : State) :
    (State.passedPress i e s).held = s.held ∧ (State.passedPress i e s).clockMs = s.clockMs ∧
      (State.passedPress i e s).tables = s.tables ∧ (State.passedPress i e s).store = s.store ∧
      (State.passedPress i e s).meas = s.meas ∧ (State.passedPress i e s).switch = s.switch ∧
      (State.passedPress i e s).pending = s.pending := by
  simp [State.passedPress]

@[simp] theorem State.processPress_keeps (i : Fin 64) (s : State) :
    (State.processPress i s).held = s.held ∧ (State.processPress i s).clockMs = s.clockMs ∧
      (State.processPress i s).tables = s.tables ∧ (State.processPress i s).store = s.store ∧
      (State.processPress i s).meas = s.meas ∧ (State.processPress i s).pending = s.pending := by
  simp only [State.processPress]; (repeat' split) <;> simp

@[simp] theorem State.applyPress_keeps (s : State) (i : Fin 64) :
    (State.applyPress s i).held = s.held ∧ (State.applyPress s i).clockMs = s.clockMs ∧
      (State.applyPress s i).tables = s.tables ∧ (State.applyPress s i).store = s.store ∧
      (State.applyPress s i).meas = s.meas ∧ (State.applyPress s i).pending = s.pending := by
  unfold State.applyPress; (repeat' split) <;> simp

@[simp] theorem State.reexamine_keeps (s : State) (i : Fin 64) :
    (State.reexamine s i).held = s.held ∧ (State.reexamine s i).clockMs = s.clockMs ∧
      (State.reexamine s i).tables = s.tables ∧ (State.reexamine s i).store = s.store ∧
      (State.reexamine s i).meas = s.meas ∧ (State.reexamine s i).pending = s.pending := by
  unfold State.reexamine; (repeat' split) <;> simp

@[simp] theorem State.applyRelease_keeps (s : State) (i : Fin 64) :
    (State.applyRelease s i).held = s.held ∧ (State.applyRelease s i).clockMs = s.clockMs ∧
      (State.applyRelease s i).choices = s.choices ∧ (State.applyRelease s i).tables = s.tables ∧
      (State.applyRelease s i).store = s.store ∧ (State.applyRelease s i).meas = s.meas ∧
      (State.applyRelease s i).heat = s.heat ∧ (State.applyRelease s i).thermal = s.thermal ∧
      (State.applyRelease s i).power = s.power ∧ (State.applyRelease s i).live = s.live ∧
      (State.applyRelease s i).beeper = s.beeper ∧ (State.applyRelease s i).sys = s.sys ∧
      (State.applyRelease s i).disp = s.disp ∧ (State.applyRelease s i).switch = s.switch ∧
      (State.applyRelease s i).path = s.path ∧ (State.applyRelease s i).mgmt = s.mgmt ∧
      (State.applyRelease s i).pending = s.pending := by
  unfold State.applyRelease; (repeat' split) <;> simp

@[simp] theorem State.stuckNotice_keeps (i : Fin 64) (released : Bool) (s : State) :
    (State.stuckNotice i released s).held = s.held ∧ (State.stuckNotice i released s).clockMs = s.clockMs ∧
      (State.stuckNotice i released s).choices = s.choices ∧ (State.stuckNotice i released s).tables = s.tables ∧
      (State.stuckNotice i released s).store = s.store ∧ (State.stuckNotice i released s).meas = s.meas ∧
      (State.stuckNotice i released s).heat = s.heat ∧ (State.stuckNotice i released s).thermal = s.thermal ∧
      (State.stuckNotice i released s).power = s.power ∧ (State.stuckNotice i released s).live = s.live ∧
      (State.stuckNotice i released s).keypad = s.keypad ∧ (State.stuckNotice i released s).matcher = s.matcher ∧
      (State.stuckNotice i released s).beeper = s.beeper ∧ (State.stuckNotice i released s).sys = s.sys ∧
      (State.stuckNotice i released s).disp = s.disp ∧ (State.stuckNotice i released s).switch = s.switch ∧
      (State.stuckNotice i released s).path = s.path ∧ (State.stuckNotice i released s).pending = s.pending := by
  unfold State.stuckNotice; (repeat' split) <;> simp

@[simp] theorem State.stuckCheck_keeps (s : State) (i : Fin 64) :
    (State.stuckCheck s i).held = s.held ∧ (State.stuckCheck s i).clockMs = s.clockMs ∧
      (State.stuckCheck s i).choices = s.choices ∧ (State.stuckCheck s i).tables = s.tables ∧
      (State.stuckCheck s i).store = s.store ∧ (State.stuckCheck s i).meas = s.meas ∧
      (State.stuckCheck s i).heat = s.heat ∧ (State.stuckCheck s i).thermal = s.thermal ∧
      (State.stuckCheck s i).power = s.power ∧ (State.stuckCheck s i).live = s.live ∧
      (State.stuckCheck s i).beeper = s.beeper ∧ (State.stuckCheck s i).sys = s.sys ∧
      (State.stuckCheck s i).disp = s.disp ∧ (State.stuckCheck s i).switch = s.switch ∧
      (State.stuckCheck s i).path = s.path ∧ (State.stuckCheck s i).pending = s.pending := by
  unfold State.stuckCheck; (repeat' split) <;> simp

@[simp] theorem State.scanReleases_keeps (releases : List (Fin 64)) (s : State) :
    (State.scanReleases releases s).held = s.held ∧ (State.scanReleases releases s).clockMs = s.clockMs ∧
      (State.scanReleases releases s).tables = s.tables ∧ (State.scanReleases releases s).store = s.store ∧
      (State.scanReleases releases s).meas = s.meas ∧ (State.scanReleases releases s).pending = s.pending := by
  simp only [State.scanReleases]; (repeat' split) <;> simp [foldl_keeps State.held, foldl_keeps State.clockMs, foldl_keeps State.tables, foldl_keeps State.store, foldl_keeps State.meas, foldl_keeps State.pending]

@[simp] theorem State.scanOnce_keeps (reading : BitVec 64) (s : State) :
    (State.scanOnce reading s).held = s.held ∧ (State.scanOnce reading s).clockMs = s.clockMs ∧
      (State.scanOnce reading s).tables = s.tables ∧ (State.scanOnce reading s).store = s.store ∧
      (State.scanOnce reading s).meas = s.meas ∧ (State.scanOnce reading s).pending = s.pending := by
  simp [State.scanOnce, foldl_keeps State.held, foldl_keeps State.clockMs, foldl_keeps State.tables, foldl_keeps State.store, foldl_keeps State.meas, foldl_keeps State.pending]

@[simp] theorem State.mainsReturn_keeps (s : State) :
    (State.mainsReturn s).held = s.held ∧ (State.mainsReturn s).clockMs = s.clockMs ∧
      (State.mainsReturn s).choices = s.choices ∧ (State.mainsReturn s).tables = s.tables ∧
      (State.mainsReturn s).store = s.store ∧ (State.mainsReturn s).meas = s.meas ∧
      (State.mainsReturn s).switch = s.switch ∧ (State.mainsReturn s).pending = s.pending := by
  unfold State.mainsReturn; (repeat' split) <;> simp

@[simp] theorem State.clearFlags_keeps (s : State) :
    (State.clearFlags s).held = s.held ∧ (State.clearFlags s).clockMs = s.clockMs ∧
      (State.clearFlags s).tables = s.tables ∧ (State.clearFlags s).store = s.store ∧
      (State.clearFlags s).meas = s.meas ∧ (State.clearFlags s).heat = s.heat ∧
      (State.clearFlags s).thermal = s.thermal ∧ (State.clearFlags s).power = s.power ∧
      (State.clearFlags s).live = s.live ∧ (State.clearFlags s).keypad = s.keypad ∧
      (State.clearFlags s).matcher = s.matcher ∧ (State.clearFlags s).beeper = s.beeper ∧
      (State.clearFlags s).sys = s.sys ∧ (State.clearFlags s).disp = s.disp ∧
      (State.clearFlags s).switch = s.switch ∧ (State.clearFlags s).path = s.path ∧
      (State.clearFlags s).pending = s.pending := by
  unfold State.clearFlags; (repeat' split) <;> simp

@[simp] theorem State.reload_keeps (s : State) :
    (State.reload s).held = s.held ∧ (State.reload s).clockMs = s.clockMs ∧ (State.reload s).choices = s.choices ∧
      (State.reload s).store = s.store ∧ (State.reload s).meas = s.meas ∧ (State.reload s).heat = s.heat ∧
      (State.reload s).thermal = s.thermal ∧ (State.reload s).power = s.power ∧ (State.reload s).live = s.live ∧
      (State.reload s).keypad = s.keypad ∧ (State.reload s).matcher = s.matcher ∧
      (State.reload s).beeper = s.beeper ∧ (State.reload s).sys = s.sys ∧ (State.reload s).disp = s.disp ∧
      (State.reload s).switch = s.switch ∧ (State.reload s).path = s.path ∧ (State.reload s).pending = s.pending := by
  simp [State.reload]

@[simp] theorem State.blocksSoftReset_keeps (old : Tables) (s : State) :
    (State.blocksSoftReset old s).held = s.held ∧ (State.blocksSoftReset old s).clockMs = s.clockMs ∧
      (State.blocksSoftReset old s).choices = s.choices ∧ (State.blocksSoftReset old s).tables = s.tables ∧
      (State.blocksSoftReset old s).store = s.store ∧ (State.blocksSoftReset old s).thermal = s.thermal ∧
      (State.blocksSoftReset old s).beeper = s.beeper ∧ (State.blocksSoftReset old s).mgmt = s.mgmt ∧
      (State.blocksSoftReset old s).pending = s.pending := by
  simp [State.blocksSoftReset]

@[simp] theorem State.softReset_keeps (s : State) :
    (State.softReset s).held = s.held ∧ (State.softReset s).clockMs = s.clockMs ∧
      (State.softReset s).store = s.store ∧ (State.softReset s).thermal = s.thermal ∧
      (State.softReset s).beeper = s.beeper ∧ (State.softReset s).pending = s.pending := by
  simp [State.softReset]

@[simp] theorem State.replyEndTaken_keeps (s : State) :
    (State.replyEndTaken s).held = s.held ∧ (State.replyEndTaken s).clockMs = s.clockMs ∧
      (State.replyEndTaken s).store = s.store ∧ (State.replyEndTaken s).thermal = s.thermal ∧
      (State.replyEndTaken s).beeper = s.beeper ∧ (State.replyEndTaken s).pending = s.pending := by
  unfold State.replyEndTaken; (repeat' split) <;> simp

@[simp] theorem State.finish_keeps (s : State) :
    (State.finish s).held = s.held ∧ (State.finish s).clockMs = s.clockMs ∧ (State.finish s).store = s.store ∧
      (State.finish s).thermal = s.thermal ∧ (State.finish s).beeper = s.beeper ∧
      (State.finish s).pending = s.pending := by
  unfold State.finish; (repeat' split) <;> simp

@[simp] theorem State.getStatus_keeps (args : List Byte) (s : State) :
    (State.getStatus args s).state.held = s.held ∧ (State.getStatus args s).state.clockMs = s.clockMs ∧
      (State.getStatus args s).state.choices = s.choices ∧ (State.getStatus args s).state.tables = s.tables ∧
      (State.getStatus args s).state.store = s.store ∧ (State.getStatus args s).state.meas = s.meas ∧
      (State.getStatus args s).state.heat = s.heat ∧ (State.getStatus args s).state.thermal = s.thermal ∧
      (State.getStatus args s).state.power = s.power ∧ (State.getStatus args s).state.live = s.live ∧
      (State.getStatus args s).state.keypad = s.keypad ∧ (State.getStatus args s).state.matcher = s.matcher ∧
      (State.getStatus args s).state.beeper = s.beeper ∧ (State.getStatus args s).state.sys = s.sys ∧
      (State.getStatus args s).state.disp = s.disp ∧ (State.getStatus args s).state.switch = s.switch ∧
      (State.getStatus args s).state.path = s.path ∧ (State.getStatus args s).state.pending = s.pending := by
  unfold State.getStatus; (repeat' split) <;> simp

@[simp] theorem State.getZones_keeps (args : List Byte) (s : State) :
    (State.getZones args s).state.held = s.held ∧ (State.getZones args s).state.clockMs = s.clockMs ∧
      (State.getZones args s).state.choices = s.choices ∧ (State.getZones args s).state.tables = s.tables ∧
      (State.getZones args s).state.store = s.store ∧ (State.getZones args s).state.meas = s.meas ∧
      (State.getZones args s).state.heat = s.heat ∧ (State.getZones args s).state.thermal = s.thermal ∧
      (State.getZones args s).state.power = s.power ∧ (State.getZones args s).state.live = s.live ∧
      (State.getZones args s).state.keypad = s.keypad ∧ (State.getZones args s).state.matcher = s.matcher ∧
      (State.getZones args s).state.beeper = s.beeper ∧ (State.getZones args s).state.sys = s.sys ∧
      (State.getZones args s).state.disp = s.disp ∧ (State.getZones args s).state.switch = s.switch ∧
      (State.getZones args s).state.path = s.path ∧ (State.getZones args s).state.mgmt = s.mgmt ∧
      (State.getZones args s).state.pending = s.pending := by
  unfold State.getZones; cases args <;> simp

@[simp] theorem State.getSamples_keeps (args : List Byte) (s : State) :
    (State.getSamples args s).state.held = s.held ∧ (State.getSamples args s).state.clockMs = s.clockMs ∧
      (State.getSamples args s).state.choices = s.choices ∧ (State.getSamples args s).state.tables = s.tables ∧
      (State.getSamples args s).state.store = s.store ∧ (State.getSamples args s).state.meas = s.meas ∧
      (State.getSamples args s).state.heat = s.heat ∧ (State.getSamples args s).state.thermal = s.thermal ∧
      (State.getSamples args s).state.power = s.power ∧ (State.getSamples args s).state.live = s.live ∧
      (State.getSamples args s).state.keypad = s.keypad ∧ (State.getSamples args s).state.matcher = s.matcher ∧
      (State.getSamples args s).state.beeper = s.beeper ∧ (State.getSamples args s).state.sys = s.sys ∧
      (State.getSamples args s).state.disp = s.disp ∧ (State.getSamples args s).state.switch = s.switch ∧
      (State.getSamples args s).state.path = s.path ∧ (State.getSamples args s).state.mgmt = s.mgmt ∧
      (State.getSamples args s).state.pending = s.pending := by
  unfold State.getSamples; cases args <;> simp

@[simp] theorem State.getEntry_keeps (args : List Byte) (s : State) :
    (State.getEntry args s).state.held = s.held ∧ (State.getEntry args s).state.clockMs = s.clockMs ∧
      (State.getEntry args s).state.choices = s.choices ∧ (State.getEntry args s).state.tables = s.tables ∧
      (State.getEntry args s).state.store = s.store ∧ (State.getEntry args s).state.meas = s.meas ∧
      (State.getEntry args s).state.heat = s.heat ∧ (State.getEntry args s).state.thermal = s.thermal ∧
      (State.getEntry args s).state.power = s.power ∧ (State.getEntry args s).state.live = s.live ∧
      (State.getEntry args s).state.keypad = s.keypad ∧ (State.getEntry args s).state.matcher = s.matcher ∧
      (State.getEntry args s).state.beeper = s.beeper ∧ (State.getEntry args s).state.sys = s.sys ∧
      (State.getEntry args s).state.disp = s.disp ∧ (State.getEntry args s).state.switch = s.switch ∧
      (State.getEntry args s).state.path = s.path ∧ (State.getEntry args s).state.mgmt = s.mgmt ∧
      (State.getEntry args s).state.pending = s.pending := by
  unfold State.getEntry; (repeat' split) <;> simp

@[simp] theorem State.setClass_keeps (args : List Byte) (s : State) :
    (State.setClass args s).state.held = s.held ∧ (State.setClass args s).state.clockMs = s.clockMs ∧
      (State.setClass args s).state.choices = s.choices ∧ (State.setClass args s).state.store = s.store ∧
      (State.setClass args s).state.meas = s.meas ∧ (State.setClass args s).state.heat = s.heat ∧
      (State.setClass args s).state.thermal = s.thermal ∧ (State.setClass args s).state.power = s.power ∧
      (State.setClass args s).state.live = s.live ∧ (State.setClass args s).state.keypad = s.keypad ∧
      (State.setClass args s).state.matcher = s.matcher ∧ (State.setClass args s).state.beeper = s.beeper ∧
      (State.setClass args s).state.sys = s.sys ∧ (State.setClass args s).state.disp = s.disp ∧
      (State.setClass args s).state.switch = s.switch ∧ (State.setClass args s).state.mgmt = s.mgmt ∧
      (State.setClass args s).state.pending = s.pending := by
  simp only [State.setClass]; (repeat' split) <;> simp

@[simp] theorem State.setKeymap_keeps (args : List Byte) (s : State) :
    (State.setKeymap args s).state.held = s.held ∧ (State.setKeymap args s).state.clockMs = s.clockMs ∧
      (State.setKeymap args s).state.choices = s.choices ∧ (State.setKeymap args s).state.store = s.store ∧
      (State.setKeymap args s).state.meas = s.meas ∧ (State.setKeymap args s).state.heat = s.heat ∧
      (State.setKeymap args s).state.thermal = s.thermal ∧ (State.setKeymap args s).state.power = s.power ∧
      (State.setKeymap args s).state.live = s.live ∧ (State.setKeymap args s).state.keypad = s.keypad ∧
      (State.setKeymap args s).state.matcher = s.matcher ∧ (State.setKeymap args s).state.beeper = s.beeper ∧
      (State.setKeymap args s).state.sys = s.sys ∧ (State.setKeymap args s).state.disp = s.disp ∧
      (State.setKeymap args s).state.switch = s.switch ∧ (State.setKeymap args s).state.path = s.path ∧
      (State.setKeymap args s).state.mgmt = s.mgmt ∧ (State.setKeymap args s).state.pending = s.pending := by
  unfold State.setKeymap; (repeat' split) <;> simp

@[simp] theorem State.setSequence_keeps (args : List Byte) (s : State) :
    (State.setSequence args s).state.held = s.held ∧ (State.setSequence args s).state.clockMs = s.clockMs ∧
      (State.setSequence args s).state.choices = s.choices ∧ (State.setSequence args s).state.store = s.store ∧
      (State.setSequence args s).state.meas = s.meas ∧ (State.setSequence args s).state.heat = s.heat ∧
      (State.setSequence args s).state.thermal = s.thermal ∧ (State.setSequence args s).state.power = s.power ∧
      (State.setSequence args s).state.live = s.live ∧ (State.setSequence args s).state.keypad = s.keypad ∧
      (State.setSequence args s).state.beeper = s.beeper ∧ (State.setSequence args s).state.sys = s.sys ∧
      (State.setSequence args s).state.disp = s.disp ∧ (State.setSequence args s).state.switch = s.switch ∧
      (State.setSequence args s).state.path = s.path ∧ (State.setSequence args s).state.mgmt = s.mgmt ∧
      (State.setSequence args s).state.pending = s.pending := by
  unfold State.setSequence; (repeat' split) <;> simp

@[simp] theorem State.storeZone_keeps (z : ZoneId) (r : ZoneRecord) (s : State) :
    (State.storeZone z r s).held = s.held ∧ (State.storeZone z r s).clockMs = s.clockMs ∧
      (State.storeZone z r s).choices = s.choices ∧ (State.storeZone z r s).store = s.store ∧
      (State.storeZone z r s).meas = s.meas ∧ (State.storeZone z r s).thermal = s.thermal ∧
      (State.storeZone z r s).power = s.power ∧ (State.storeZone z r s).live = s.live ∧
      (State.storeZone z r s).keypad = s.keypad ∧ (State.storeZone z r s).matcher = s.matcher ∧
      (State.storeZone z r s).beeper = s.beeper ∧ (State.storeZone z r s).sys = s.sys ∧
      (State.storeZone z r s).disp = s.disp ∧ (State.storeZone z r s).switch = s.switch ∧
      (State.storeZone z r s).path = s.path ∧ (State.storeZone z r s).mgmt = s.mgmt ∧
      (State.storeZone z r s).pending = s.pending := by
  simp [State.storeZone]

@[simp] theorem State.setZone_keeps (args : List Byte) (s : State) :
    (State.setZone args s).state.held = s.held ∧ (State.setZone args s).state.clockMs = s.clockMs ∧
      (State.setZone args s).state.choices = s.choices ∧ (State.setZone args s).state.store = s.store ∧
      (State.setZone args s).state.meas = s.meas ∧ (State.setZone args s).state.thermal = s.thermal ∧
      (State.setZone args s).state.power = s.power ∧ (State.setZone args s).state.live = s.live ∧
      (State.setZone args s).state.keypad = s.keypad ∧ (State.setZone args s).state.matcher = s.matcher ∧
      (State.setZone args s).state.beeper = s.beeper ∧ (State.setZone args s).state.sys = s.sys ∧
      (State.setZone args s).state.disp = s.disp ∧ (State.setZone args s).state.switch = s.switch ∧
      (State.setZone args s).state.path = s.path ∧ (State.setZone args s).state.mgmt = s.mgmt ∧
      (State.setZone args s).state.pending = s.pending := by
  unfold State.setZone; (repeat' split) <;> simp

@[simp] theorem State.setChannel_keeps (args : List Byte) (s : State) :
    (State.setChannel args s).state.held = s.held ∧ (State.setChannel args s).state.clockMs = s.clockMs ∧
      (State.setChannel args s).state.choices = s.choices ∧ (State.setChannel args s).state.store = s.store ∧
      (State.setChannel args s).state.meas = s.meas ∧ (State.setChannel args s).state.heat = s.heat ∧
      (State.setChannel args s).state.thermal = s.thermal ∧ (State.setChannel args s).state.power = s.power ∧
      (State.setChannel args s).state.live = s.live ∧ (State.setChannel args s).state.keypad = s.keypad ∧
      (State.setChannel args s).state.matcher = s.matcher ∧ (State.setChannel args s).state.beeper = s.beeper ∧
      (State.setChannel args s).state.sys = s.sys ∧ (State.setChannel args s).state.disp = s.disp ∧
      (State.setChannel args s).state.switch = s.switch ∧ (State.setChannel args s).state.path = s.path ∧
      (State.setChannel args s).state.mgmt = s.mgmt ∧ (State.setChannel args s).state.pending = s.pending := by
  unfold State.setChannel; (repeat' split) <;> simp

@[simp] theorem State.parameterStored_keeps (n : Nat) (s : State) :
    (State.parameterStored n s).held = s.held ∧ (State.parameterStored n s).clockMs = s.clockMs ∧
      (State.parameterStored n s).choices = s.choices ∧ (State.parameterStored n s).tables = s.tables ∧
      (State.parameterStored n s).store = s.store ∧ (State.parameterStored n s).meas = s.meas ∧
      (State.parameterStored n s).heat = s.heat ∧ (State.parameterStored n s).thermal = s.thermal ∧
      (State.parameterStored n s).live = s.live ∧ (State.parameterStored n s).keypad = s.keypad ∧
      (State.parameterStored n s).matcher = s.matcher ∧ (State.parameterStored n s).beeper = s.beeper ∧
      (State.parameterStored n s).disp = s.disp ∧ (State.parameterStored n s).switch = s.switch ∧
      (State.parameterStored n s).path = s.path ∧ (State.parameterStored n s).mgmt = s.mgmt ∧
      (State.parameterStored n s).pending = s.pending := by
  unfold State.parameterStored; (repeat' split) <;> simp

@[simp] theorem State.setParameter_keeps (args : List Byte) (s : State) :
    (State.setParameter args s).state.held = s.held ∧ (State.setParameter args s).state.clockMs = s.clockMs ∧
      (State.setParameter args s).state.choices = s.choices ∧ (State.setParameter args s).state.store = s.store ∧
      (State.setParameter args s).state.meas = s.meas ∧ (State.setParameter args s).state.heat = s.heat ∧
      (State.setParameter args s).state.thermal = s.thermal ∧ (State.setParameter args s).state.live = s.live ∧
      (State.setParameter args s).state.keypad = s.keypad ∧ (State.setParameter args s).state.matcher = s.matcher ∧
      (State.setParameter args s).state.beeper = s.beeper ∧ (State.setParameter args s).state.disp = s.disp ∧
      (State.setParameter args s).state.switch = s.switch ∧ (State.setParameter args s).state.path = s.path ∧
      (State.setParameter args s).state.mgmt = s.mgmt ∧ (State.setParameter args s).state.pending = s.pending := by
  simp only [State.setParameter]; (repeat' split) <;> simp

@[simp] theorem State.setInject_keeps (args : List Byte) (s : State) :
    (State.setInject args s).state.held = s.held ∧ (State.setInject args s).state.clockMs = s.clockMs ∧
      (State.setInject args s).state.choices = s.choices ∧ (State.setInject args s).state.store = s.store ∧
      (State.setInject args s).state.meas = s.meas ∧ (State.setInject args s).state.heat = s.heat ∧
      (State.setInject args s).state.thermal = s.thermal ∧ (State.setInject args s).state.power = s.power ∧
      (State.setInject args s).state.live = s.live ∧ (State.setInject args s).state.keypad = s.keypad ∧
      (State.setInject args s).state.matcher = s.matcher ∧ (State.setInject args s).state.beeper = s.beeper ∧
      (State.setInject args s).state.sys = s.sys ∧ (State.setInject args s).state.disp = s.disp ∧
      (State.setInject args s).state.switch = s.switch ∧ (State.setInject args s).state.path = s.path ∧
      (State.setInject args s).state.mgmt = s.mgmt ∧ (State.setInject args s).state.pending = s.pending := by
  unfold State.setInject; (repeat' split) <;> simp

@[simp] theorem State.getCounters_keeps (args : List Byte) (s : State) :
    (State.getCounters args s).state.held = s.held ∧ (State.getCounters args s).state.clockMs = s.clockMs ∧
      (State.getCounters args s).state.choices = s.choices ∧ (State.getCounters args s).state.tables = s.tables ∧
      (State.getCounters args s).state.store = s.store ∧ (State.getCounters args s).state.meas = s.meas ∧
      (State.getCounters args s).state.heat = s.heat ∧ (State.getCounters args s).state.thermal = s.thermal ∧
      (State.getCounters args s).state.power = s.power ∧ (State.getCounters args s).state.live = s.live ∧
      (State.getCounters args s).state.keypad = s.keypad ∧ (State.getCounters args s).state.matcher = s.matcher ∧
      (State.getCounters args s).state.beeper = s.beeper ∧ (State.getCounters args s).state.sys = s.sys ∧
      (State.getCounters args s).state.disp = s.disp ∧ (State.getCounters args s).state.switch = s.switch ∧
      (State.getCounters args s).state.path = s.path ∧ (State.getCounters args s).state.mgmt = s.mgmt ∧
      (State.getCounters args s).state.pending = s.pending := by
  unfold State.getCounters; (repeat' split) <;> simp

@[simp] theorem State.zeroCounters_keeps (s : State) :
    (State.zeroCounters s).held = s.held ∧ (State.zeroCounters s).clockMs = s.clockMs ∧
      (State.zeroCounters s).choices = s.choices ∧ (State.zeroCounters s).tables = s.tables ∧
      (State.zeroCounters s).store = s.store ∧ (State.zeroCounters s).meas = s.meas ∧
      (State.zeroCounters s).heat = s.heat ∧ (State.zeroCounters s).thermal = s.thermal ∧
      (State.zeroCounters s).power = s.power ∧ (State.zeroCounters s).matcher = s.matcher ∧
      (State.zeroCounters s).beeper = s.beeper ∧ (State.zeroCounters s).pending = s.pending := by
  simp [State.zeroCounters]

@[simp] theorem State.clearCounters_keeps (args : List Byte) (s : State) :
    (State.clearCounters args s).state.held = s.held ∧ (State.clearCounters args s).state.clockMs = s.clockMs ∧
      (State.clearCounters args s).state.choices = s.choices ∧
      (State.clearCounters args s).state.tables = s.tables ∧ (State.clearCounters args s).state.store = s.store ∧
      (State.clearCounters args s).state.meas = s.meas ∧ (State.clearCounters args s).state.heat = s.heat ∧
      (State.clearCounters args s).state.thermal = s.thermal ∧ (State.clearCounters args s).state.power = s.power ∧
      (State.clearCounters args s).state.matcher = s.matcher ∧
      (State.clearCounters args s).state.beeper = s.beeper ∧ (State.clearCounters args s).state.pending = s.pending := by
  unfold State.clearCounters; cases args <;> simp

@[simp] theorem State.getLog_keeps (args : List Byte) (s : State) :
    (State.getLog args s).state.held = s.held ∧ (State.getLog args s).state.clockMs = s.clockMs ∧
      (State.getLog args s).state.choices = s.choices ∧ (State.getLog args s).state.tables = s.tables ∧
      (State.getLog args s).state.store = s.store ∧ (State.getLog args s).state.meas = s.meas ∧
      (State.getLog args s).state.heat = s.heat ∧ (State.getLog args s).state.thermal = s.thermal ∧
      (State.getLog args s).state.power = s.power ∧ (State.getLog args s).state.live = s.live ∧
      (State.getLog args s).state.keypad = s.keypad ∧ (State.getLog args s).state.matcher = s.matcher ∧
      (State.getLog args s).state.beeper = s.beeper ∧ (State.getLog args s).state.sys = s.sys ∧
      (State.getLog args s).state.disp = s.disp ∧ (State.getLog args s).state.switch = s.switch ∧
      (State.getLog args s).state.path = s.path ∧ (State.getLog args s).state.mgmt = s.mgmt ∧
      (State.getLog args s).state.pending = s.pending := by
  unfold State.getLog; (repeat' split) <;> simp

@[simp] theorem State.powerOff_keeps (args : List Byte) (s : State) :
    (State.powerOff args s).state.held = s.held ∧ (State.powerOff args s).state.clockMs = s.clockMs ∧
      (State.powerOff args s).state.choices = s.choices ∧ (State.powerOff args s).state.tables = s.tables ∧
      (State.powerOff args s).state.store = s.store ∧ (State.powerOff args s).state.meas = s.meas ∧
      (State.powerOff args s).state.switch = s.switch ∧ (State.powerOff args s).state.pending = s.pending := by
  unfold State.powerOff; cases args <;> simp

@[simp] theorem State.powerRestart_keeps (args : List Byte) (s : State) :
    (State.powerRestart args s).state.held = s.held ∧ (State.powerRestart args s).state.clockMs = s.clockMs ∧
      (State.powerRestart args s).state.choices = s.choices ∧ (State.powerRestart args s).state.tables = s.tables ∧
      (State.powerRestart args s).state.store = s.store ∧ (State.powerRestart args s).state.meas = s.meas ∧
      (State.powerRestart args s).state.switch = s.switch ∧ (State.powerRestart args s).state.pending = s.pending := by
  unfold State.powerRestart; cases args <;> simp

@[simp] theorem State.powerCycle_keeps (args : List Byte) (s : State) :
    (State.powerCycle args s).state.held = s.held ∧ (State.powerCycle args s).state.clockMs = s.clockMs ∧
      (State.powerCycle args s).state.choices = s.choices ∧ (State.powerCycle args s).state.tables = s.tables ∧
      (State.powerCycle args s).state.store = s.store ∧ (State.powerCycle args s).state.meas = s.meas ∧
      (State.powerCycle args s).state.switch = s.switch ∧ (State.powerCycle args s).state.pending = s.pending := by
  unfold State.powerCycle; cases args <;> simp

@[simp] theorem State.displayDim_keeps (args : List Byte) (s : State) :
    (State.displayDim args s).state.held = s.held ∧ (State.displayDim args s).state.clockMs = s.clockMs ∧
      (State.displayDim args s).state.choices = s.choices ∧ (State.displayDim args s).state.tables = s.tables ∧
      (State.displayDim args s).state.store = s.store ∧ (State.displayDim args s).state.meas = s.meas ∧
      (State.displayDim args s).state.heat = s.heat ∧ (State.displayDim args s).state.thermal = s.thermal ∧
      (State.displayDim args s).state.power = s.power ∧ (State.displayDim args s).state.live = s.live ∧
      (State.displayDim args s).state.keypad = s.keypad ∧ (State.displayDim args s).state.matcher = s.matcher ∧
      (State.displayDim args s).state.beeper = s.beeper ∧ (State.displayDim args s).state.sys = s.sys ∧
      (State.displayDim args s).state.pending = s.pending := by
  unfold State.displayDim; cases args <;> simp

@[simp] theorem State.displayWake_keeps (args : List Byte) (s : State) :
    (State.displayWake args s).state.held = s.held ∧ (State.displayWake args s).state.clockMs = s.clockMs ∧
      (State.displayWake args s).state.choices = s.choices ∧ (State.displayWake args s).state.tables = s.tables ∧
      (State.displayWake args s).state.store = s.store ∧ (State.displayWake args s).state.meas = s.meas ∧
      (State.displayWake args s).state.heat = s.heat ∧ (State.displayWake args s).state.thermal = s.thermal ∧
      (State.displayWake args s).state.power = s.power ∧ (State.displayWake args s).state.live = s.live ∧
      (State.displayWake args s).state.keypad = s.keypad ∧ (State.displayWake args s).state.matcher = s.matcher ∧
      (State.displayWake args s).state.beeper = s.beeper ∧ (State.displayWake args s).state.sys = s.sys ∧
      (State.displayWake args s).state.pending = s.pending := by
  unfold State.displayWake; cases args <;> simp

@[simp] theorem State.displayRestart_keeps (args : List Byte) (s : State) :
    (State.displayRestart args s).state.held = s.held ∧ (State.displayRestart args s).state.clockMs = s.clockMs ∧
      (State.displayRestart args s).state.choices = s.choices ∧
      (State.displayRestart args s).state.tables = s.tables ∧ (State.displayRestart args s).state.store = s.store ∧
      (State.displayRestart args s).state.meas = s.meas ∧ (State.displayRestart args s).state.heat = s.heat ∧
      (State.displayRestart args s).state.thermal = s.thermal ∧
      (State.displayRestart args s).state.power = s.power ∧ (State.displayRestart args s).state.live = s.live ∧
      (State.displayRestart args s).state.keypad = s.keypad ∧
      (State.displayRestart args s).state.matcher = s.matcher ∧
      (State.displayRestart args s).state.beeper = s.beeper ∧ (State.displayRestart args s).state.sys = s.sys ∧
      (State.displayRestart args s).state.switch = s.switch ∧
      (State.displayRestart args s).state.pending = s.pending := by
  unfold State.displayRestart; cases args <;> simp

@[simp] theorem State.forceSet_keeps (ch : Byte) (args : List Byte) (s : State) :
    (State.forceSet ch args s).state.held = s.held ∧ (State.forceSet ch args s).state.clockMs = s.clockMs ∧
      (State.forceSet ch args s).state.choices = s.choices ∧ (State.forceSet ch args s).state.tables = s.tables ∧
      (State.forceSet ch args s).state.store = s.store ∧ (State.forceSet ch args s).state.heat = s.heat ∧
      (State.forceSet ch args s).state.thermal = s.thermal ∧ (State.forceSet ch args s).state.power = s.power ∧
      (State.forceSet ch args s).state.live = s.live ∧ (State.forceSet ch args s).state.keypad = s.keypad ∧
      (State.forceSet ch args s).state.matcher = s.matcher ∧ (State.forceSet ch args s).state.beeper = s.beeper ∧
      (State.forceSet ch args s).state.sys = s.sys ∧ (State.forceSet ch args s).state.disp = s.disp ∧
      (State.forceSet ch args s).state.switch = s.switch ∧ (State.forceSet ch args s).state.path = s.path ∧
      (State.forceSet ch args s).state.mgmt = s.mgmt ∧ (State.forceSet ch args s).state.pending = s.pending := by
  unfold State.forceSet; (repeat' split) <;> simp

@[simp] theorem State.forceRelease_keeps (ch : Byte) (args : List Byte) (s : State) :
    (State.forceRelease ch args s).state.held = s.held ∧ (State.forceRelease ch args s).state.clockMs = s.clockMs ∧
      (State.forceRelease ch args s).state.choices = s.choices ∧
      (State.forceRelease ch args s).state.tables = s.tables ∧
      (State.forceRelease ch args s).state.store = s.store ∧ (State.forceRelease ch args s).state.heat = s.heat ∧
      (State.forceRelease ch args s).state.thermal = s.thermal ∧
      (State.forceRelease ch args s).state.power = s.power ∧ (State.forceRelease ch args s).state.live = s.live ∧
      (State.forceRelease ch args s).state.keypad = s.keypad ∧
      (State.forceRelease ch args s).state.matcher = s.matcher ∧
      (State.forceRelease ch args s).state.beeper = s.beeper ∧ (State.forceRelease ch args s).state.sys = s.sys ∧
      (State.forceRelease ch args s).state.disp = s.disp ∧ (State.forceRelease ch args s).state.switch = s.switch ∧
      (State.forceRelease ch args s).state.path = s.path ∧ (State.forceRelease ch args s).state.mgmt = s.mgmt ∧
      (State.forceRelease ch args s).state.pending = s.pending := by
  unfold State.forceRelease; (repeat' split) <;> simp

@[simp] theorem State.forceUnknown_keeps (ch : Byte) (args : List Byte) (s : State) :
    (State.forceUnknown ch args s).state.held = s.held ∧ (State.forceUnknown ch args s).state.clockMs = s.clockMs ∧
      (State.forceUnknown ch args s).state.choices = s.choices ∧
      (State.forceUnknown ch args s).state.tables = s.tables ∧
      (State.forceUnknown ch args s).state.store = s.store ∧ (State.forceUnknown ch args s).state.meas = s.meas ∧
      (State.forceUnknown ch args s).state.heat = s.heat ∧
      (State.forceUnknown ch args s).state.thermal = s.thermal ∧
      (State.forceUnknown ch args s).state.power = s.power ∧ (State.forceUnknown ch args s).state.live = s.live ∧
      (State.forceUnknown ch args s).state.keypad = s.keypad ∧
      (State.forceUnknown ch args s).state.matcher = s.matcher ∧
      (State.forceUnknown ch args s).state.beeper = s.beeper ∧ (State.forceUnknown ch args s).state.sys = s.sys ∧
      (State.forceUnknown ch args s).state.disp = s.disp ∧ (State.forceUnknown ch args s).state.switch = s.switch ∧
      (State.forceUnknown ch args s).state.path = s.path ∧ (State.forceUnknown ch args s).state.mgmt = s.mgmt ∧
      (State.forceUnknown ch args s).state.pending = s.pending := by
  unfold State.forceUnknown; (repeat' split) <;> simp

@[simp] theorem State.beginCommit_keeps (s : State) :
    (State.beginCommit s).held = s.held ∧ (State.beginCommit s).clockMs = s.clockMs ∧
      (State.beginCommit s).choices = s.choices ∧ (State.beginCommit s).tables = s.tables ∧
      (State.beginCommit s).meas = s.meas ∧ (State.beginCommit s).heat = s.heat ∧
      (State.beginCommit s).thermal = s.thermal ∧ (State.beginCommit s).power = s.power ∧
      (State.beginCommit s).live = s.live ∧ (State.beginCommit s).keypad = s.keypad ∧
      (State.beginCommit s).matcher = s.matcher ∧ (State.beginCommit s).beeper = s.beeper ∧
      (State.beginCommit s).sys = s.sys ∧ (State.beginCommit s).disp = s.disp ∧
      (State.beginCommit s).switch = s.switch ∧ (State.beginCommit s).path = s.path ∧
      (State.beginCommit s).pending = s.pending := by
  simp [State.beginCommit]

@[simp] theorem State.commitProfile_keeps (args : List Byte) (s : State) :
    (State.commitProfile args s).state.held = s.held ∧ (State.commitProfile args s).state.clockMs = s.clockMs ∧
      (State.commitProfile args s).state.choices = s.choices ∧
      (State.commitProfile args s).state.tables = s.tables ∧ (State.commitProfile args s).state.meas = s.meas ∧
      (State.commitProfile args s).state.heat = s.heat ∧ (State.commitProfile args s).state.thermal = s.thermal ∧
      (State.commitProfile args s).state.power = s.power ∧ (State.commitProfile args s).state.live = s.live ∧
      (State.commitProfile args s).state.keypad = s.keypad ∧
      (State.commitProfile args s).state.matcher = s.matcher ∧
      (State.commitProfile args s).state.beeper = s.beeper ∧ (State.commitProfile args s).state.sys = s.sys ∧
      (State.commitProfile args s).state.disp = s.disp ∧ (State.commitProfile args s).state.switch = s.switch ∧
      (State.commitProfile args s).state.path = s.path ∧ (State.commitProfile args s).state.pending = s.pending := by
  unfold State.commitProfile; cases args <;> simp

@[simp] theorem State.resetSupervisor_keeps (args : List Byte) (s : State) :
    (State.resetSupervisor args s).state.held = s.held ∧ (State.resetSupervisor args s).state.clockMs = s.clockMs ∧
      (State.resetSupervisor args s).state.choices = s.choices ∧
      (State.resetSupervisor args s).state.tables = s.tables ∧
      (State.resetSupervisor args s).state.store = s.store ∧ (State.resetSupervisor args s).state.meas = s.meas ∧
      (State.resetSupervisor args s).state.heat = s.heat ∧
      (State.resetSupervisor args s).state.thermal = s.thermal ∧
      (State.resetSupervisor args s).state.power = s.power ∧ (State.resetSupervisor args s).state.live = s.live ∧
      (State.resetSupervisor args s).state.keypad = s.keypad ∧
      (State.resetSupervisor args s).state.matcher = s.matcher ∧
      (State.resetSupervisor args s).state.beeper = s.beeper ∧ (State.resetSupervisor args s).state.sys = s.sys ∧
      (State.resetSupervisor args s).state.disp = s.disp ∧ (State.resetSupervisor args s).state.switch = s.switch ∧
      (State.resetSupervisor args s).state.path = s.path ∧ (State.resetSupervisor args s).state.pending = s.pending := by
  unfold State.resetSupervisor; cases args <;> simp

@[simp] theorem State.endCommit_keeps (ok : Bool) (s : State) :
    (State.endCommit ok s).held = s.held ∧ (State.endCommit ok s).clockMs = s.clockMs ∧
      (State.endCommit ok s).choices = s.choices ∧ (State.endCommit ok s).tables = s.tables ∧
      (State.endCommit ok s).meas = s.meas ∧ (State.endCommit ok s).heat = s.heat ∧
      (State.endCommit ok s).thermal = s.thermal ∧ (State.endCommit ok s).power = s.power ∧
      (State.endCommit ok s).live = s.live ∧ (State.endCommit ok s).keypad = s.keypad ∧
      (State.endCommit ok s).matcher = s.matcher ∧ (State.endCommit ok s).beeper = s.beeper ∧
      (State.endCommit ok s).sys = s.sys ∧ (State.endCommit ok s).disp = s.disp ∧
      (State.endCommit ok s).switch = s.switch ∧ (State.endCommit ok s).path = s.path ∧
      (State.endCommit ok s).pending = s.pending := by
  unfold State.endCommit; (repeat' split) <;> simp

@[simp] theorem State.overrun_keeps (s : State) :
    (State.overrun s).held = s.held ∧ (State.overrun s).clockMs = s.clockMs ∧
      (State.overrun s).choices = s.choices ∧ (State.overrun s).tables = s.tables ∧
      (State.overrun s).store = s.store ∧ (State.overrun s).meas = s.meas ∧ (State.overrun s).heat = s.heat ∧
      (State.overrun s).thermal = s.thermal ∧ (State.overrun s).power = s.power ∧ (State.overrun s).live = s.live ∧
      (State.overrun s).keypad = s.keypad ∧ (State.overrun s).matcher = s.matcher ∧
      (State.overrun s).beeper = s.beeper ∧ (State.overrun s).sys = s.sys ∧ (State.overrun s).disp = s.disp ∧
      (State.overrun s).switch = s.switch ∧ (State.overrun s).path = s.path ∧ (State.overrun s).pending = s.pending := by
  simp [State.overrun]

@[simp] theorem State.setEntry_keeps (args : List Byte) (s : State) :
    (State.setEntry args s).state.held = s.held ∧ (State.setEntry args s).state.clockMs = s.clockMs ∧
      (State.setEntry args s).state.choices = s.choices ∧ (State.setEntry args s).state.store = s.store ∧
      (State.setEntry args s).state.meas = s.meas ∧ (State.setEntry args s).state.thermal = s.thermal ∧
      (State.setEntry args s).state.live = s.live ∧ (State.setEntry args s).state.keypad = s.keypad ∧
      (State.setEntry args s).state.beeper = s.beeper ∧ (State.setEntry args s).state.disp = s.disp ∧
      (State.setEntry args s).state.switch = s.switch ∧ (State.setEntry args s).state.mgmt = s.mgmt ∧
      (State.setEntry args s).state.pending = s.pending := by
  unfold State.setEntry; (repeat' split) <;> simp

@[simp] theorem State.requestPower_keeps (args : List Byte) (s : State) :
    (State.requestPower args s).state.held = s.held ∧ (State.requestPower args s).state.clockMs = s.clockMs ∧
      (State.requestPower args s).state.choices = s.choices ∧ (State.requestPower args s).state.tables = s.tables ∧
      (State.requestPower args s).state.store = s.store ∧ (State.requestPower args s).state.meas = s.meas ∧
      (State.requestPower args s).state.switch = s.switch ∧ (State.requestPower args s).state.pending = s.pending := by
  unfold State.requestPower State.noArgs; (repeat' split) <;> simp

@[simp] theorem State.requestDisplay_keeps (args : List Byte) (s : State) :
    (State.requestDisplay args s).state.held = s.held ∧ (State.requestDisplay args s).state.clockMs = s.clockMs ∧
      (State.requestDisplay args s).state.choices = s.choices ∧
      (State.requestDisplay args s).state.tables = s.tables ∧ (State.requestDisplay args s).state.store = s.store ∧
      (State.requestDisplay args s).state.meas = s.meas ∧ (State.requestDisplay args s).state.heat = s.heat ∧
      (State.requestDisplay args s).state.thermal = s.thermal ∧
      (State.requestDisplay args s).state.power = s.power ∧ (State.requestDisplay args s).state.live = s.live ∧
      (State.requestDisplay args s).state.keypad = s.keypad ∧
      (State.requestDisplay args s).state.matcher = s.matcher ∧
      (State.requestDisplay args s).state.beeper = s.beeper ∧ (State.requestDisplay args s).state.sys = s.sys ∧
      (State.requestDisplay args s).state.pending = s.pending := by
  unfold State.requestDisplay State.noArgs; (repeat' split) <;> simp

@[simp] theorem State.forceSample_keeps (args : List Byte) (s : State) :
    (State.forceSample args s).state.held = s.held ∧ (State.forceSample args s).state.clockMs = s.clockMs ∧
      (State.forceSample args s).state.choices = s.choices ∧ (State.forceSample args s).state.tables = s.tables ∧
      (State.forceSample args s).state.store = s.store ∧ (State.forceSample args s).state.heat = s.heat ∧
      (State.forceSample args s).state.thermal = s.thermal ∧ (State.forceSample args s).state.power = s.power ∧
      (State.forceSample args s).state.live = s.live ∧ (State.forceSample args s).state.keypad = s.keypad ∧
      (State.forceSample args s).state.matcher = s.matcher ∧ (State.forceSample args s).state.beeper = s.beeper ∧
      (State.forceSample args s).state.sys = s.sys ∧ (State.forceSample args s).state.disp = s.disp ∧
      (State.forceSample args s).state.switch = s.switch ∧ (State.forceSample args s).state.path = s.path ∧
      (State.forceSample args s).state.mgmt = s.mgmt ∧ (State.forceSample args s).state.pending = s.pending := by
  unfold State.forceSample; (repeat' split) <;> simp

@[simp] theorem State.command_keeps (code : Nat) (args : List Byte) (s : State) :
    (State.command code args s).state.held = s.held ∧ (State.command code args s).state.clockMs = s.clockMs ∧
      (State.command code args s).state.choices = s.choices ∧ (State.command code args s).state.pending = s.pending := by
  unfold State.command State.unlessCommitting; (repeat' split) <;> simp

@[simp] theorem State.manage_keeps (payload : List Byte) (s : State) :
    (State.manage payload s).held = s.held ∧ (State.manage payload s).clockMs = s.clockMs ∧
      (State.manage payload s).choices = s.choices ∧ (State.manage payload s).pending = s.pending := by
  unfold State.manage State.serve; (repeat' split) <;> simp

@[simp] theorem State.passed_keeps (c : Fin 64) (s : State) :
    (State.passed c s).held = s.held ∧ (State.passed c s).clockMs = s.clockMs ∧
      (State.passed c s).choices = s.choices ∧ (State.passed c s).tables = s.tables ∧
      (State.passed c s).store = s.store ∧ (State.passed c s).meas = s.meas ∧ (State.passed c s).heat = s.heat ∧
      (State.passed c s).thermal = s.thermal ∧ (State.passed c s).power = s.power ∧
      (State.passed c s).live = s.live ∧ (State.passed c s).keypad = s.keypad ∧
      (State.passed c s).matcher = s.matcher ∧ (State.passed c s).beeper = s.beeper ∧
      (State.passed c s).sys = s.sys ∧ (State.passed c s).disp = s.disp ∧ (State.passed c s).path = s.path ∧
      (State.passed c s).mgmt = s.mgmt ∧ (State.passed c s).pending = s.pending := by
  simp [State.passed]

@[simp] theorem State.dropped_keeps (c : Fin 64) (s : State) :
    (State.dropped c s).held = s.held ∧ (State.dropped c s).clockMs = s.clockMs ∧
      (State.dropped c s).choices = s.choices ∧ (State.dropped c s).tables = s.tables ∧
      (State.dropped c s).store = s.store ∧ (State.dropped c s).meas = s.meas ∧ (State.dropped c s).heat = s.heat ∧
      (State.dropped c s).thermal = s.thermal ∧ (State.dropped c s).power = s.power ∧
      (State.dropped c s).live = s.live ∧ (State.dropped c s).keypad = s.keypad ∧
      (State.dropped c s).matcher = s.matcher ∧ (State.dropped c s).beeper = s.beeper ∧
      (State.dropped c s).sys = s.sys ∧ (State.dropped c s).disp = s.disp ∧ (State.dropped c s).path = s.path ∧
      (State.dropped c s).mgmt = s.mgmt ∧ (State.dropped c s).pending = s.pending := by
  simp [State.dropped]

@[simp] theorem State.reservedFromBoard_keeps (f : Frame) (s : State) :
    (State.reservedFromBoard f s).held = s.held ∧ (State.reservedFromBoard f s).clockMs = s.clockMs ∧
      (State.reservedFromBoard f s).choices = s.choices ∧ (State.reservedFromBoard f s).pending = s.pending := by
  unfold State.reservedFromBoard; (repeat' split) <;> simp

@[simp] theorem State.boardAction_keeps (e : ClassEntry) (f : Frame) (s : State) :
    (State.boardAction e f s).held = s.held ∧ (State.boardAction e f s).clockMs = s.clockMs ∧
      (State.boardAction e f s).choices = s.choices ∧ (State.boardAction e f s).tables = s.tables ∧
      (State.boardAction e f s).store = s.store ∧ (State.boardAction e f s).meas = s.meas ∧
      (State.boardAction e f s).heat = s.heat ∧ (State.boardAction e f s).thermal = s.thermal ∧
      (State.boardAction e f s).power = s.power ∧ (State.boardAction e f s).live = s.live ∧
      (State.boardAction e f s).keypad = s.keypad ∧ (State.boardAction e f s).matcher = s.matcher ∧
      (State.boardAction e f s).beeper = s.beeper ∧ (State.boardAction e f s).sys = s.sys ∧
      (State.boardAction e f s).pending = s.pending := by
  unfold State.boardAction; (repeat' split) <;> simp

@[simp] theorem State.boardSideEvents_keeps (e : ClassEntry) (s : State) :
    (State.boardSideEvents e s).held = s.held ∧ (State.boardSideEvents e s).clockMs = s.clockMs ∧
      (State.boardSideEvents e s).choices = s.choices ∧ (State.boardSideEvents e s).tables = s.tables ∧
      (State.boardSideEvents e s).store = s.store ∧ (State.boardSideEvents e s).meas = s.meas ∧
      (State.boardSideEvents e s).switch = s.switch ∧ (State.boardSideEvents e s).pending = s.pending := by
  unfold State.boardSideEvents; (repeat' split) <;> simp

@[simp] theorem State.loadableFromBoard_keeps (f : Frame) (s : State) :
    (State.loadableFromBoard f s).held = s.held ∧ (State.loadableFromBoard f s).clockMs = s.clockMs ∧
      (State.loadableFromBoard f s).choices = s.choices ∧ (State.loadableFromBoard f s).tables = s.tables ∧
      (State.loadableFromBoard f s).store = s.store ∧ (State.loadableFromBoard f s).meas = s.meas ∧
      (State.loadableFromBoard f s).pending = s.pending := by
  unfold State.loadableFromBoard; (repeat' split) <;> simp

@[simp] theorem State.frameFromBoard_keeps (f : Frame) (s : State) :
    (State.frameFromBoard f s).held = s.held ∧ (State.frameFromBoard f s).clockMs = s.clockMs ∧
      (State.frameFromBoard f s).choices = s.choices ∧ (State.frameFromBoard f s).pending = s.pending := by
  unfold State.frameFromBoard; (repeat' split) <;> simp

@[simp] theorem State.reservedFromDisplay_keeps (f : Frame) (s : State) :
    (State.reservedFromDisplay f s).held = s.held ∧ (State.reservedFromDisplay f s).clockMs = s.clockMs ∧
      (State.reservedFromDisplay f s).choices = s.choices ∧ (State.reservedFromDisplay f s).tables = s.tables ∧
      (State.reservedFromDisplay f s).store = s.store ∧ (State.reservedFromDisplay f s).meas = s.meas ∧
      (State.reservedFromDisplay f s).heat = s.heat ∧ (State.reservedFromDisplay f s).thermal = s.thermal ∧
      (State.reservedFromDisplay f s).power = s.power ∧ (State.reservedFromDisplay f s).live = s.live ∧
      (State.reservedFromDisplay f s).keypad = s.keypad ∧ (State.reservedFromDisplay f s).matcher = s.matcher ∧
      (State.reservedFromDisplay f s).beeper = s.beeper ∧ (State.reservedFromDisplay f s).sys = s.sys ∧
      (State.reservedFromDisplay f s).pending = s.pending := by
  unfold State.reservedFromDisplay; (repeat' split) <;> simp

@[simp] theorem State.displayForward_keeps (e : ClassEntry) (f : Frame) (s : State) :
    (State.displayForward e f s).held = s.held ∧ (State.displayForward e f s).clockMs = s.clockMs ∧
      (State.displayForward e f s).choices = s.choices ∧ (State.displayForward e f s).tables = s.tables ∧
      (State.displayForward e f s).store = s.store ∧ (State.displayForward e f s).meas = s.meas ∧
      (State.displayForward e f s).heat = s.heat ∧ (State.displayForward e f s).thermal = s.thermal ∧
      (State.displayForward e f s).power = s.power ∧ (State.displayForward e f s).live = s.live ∧
      (State.displayForward e f s).keypad = s.keypad ∧ (State.displayForward e f s).matcher = s.matcher ∧
      (State.displayForward e f s).beeper = s.beeper ∧ (State.displayForward e f s).disp = s.disp ∧
      (State.displayForward e f s).pending = s.pending := by
  simp only [State.displayForward]; (repeat' split) <;> simp

@[simp] theorem State.loadableFromDisplay_keeps (f : Frame) (s : State) :
    (State.loadableFromDisplay f s).held = s.held ∧ (State.loadableFromDisplay f s).clockMs = s.clockMs ∧
      (State.loadableFromDisplay f s).choices = s.choices ∧ (State.loadableFromDisplay f s).tables = s.tables ∧
      (State.loadableFromDisplay f s).store = s.store ∧ (State.loadableFromDisplay f s).meas = s.meas ∧
      (State.loadableFromDisplay f s).heat = s.heat ∧ (State.loadableFromDisplay f s).thermal = s.thermal ∧
      (State.loadableFromDisplay f s).power = s.power ∧ (State.loadableFromDisplay f s).live = s.live ∧
      (State.loadableFromDisplay f s).keypad = s.keypad ∧ (State.loadableFromDisplay f s).matcher = s.matcher ∧
      (State.loadableFromDisplay f s).beeper = s.beeper ∧ (State.loadableFromDisplay f s).pending = s.pending := by
  unfold State.loadableFromDisplay; (repeat' split) <;> simp

@[simp] theorem State.frameFromDisplay_keeps (f : Frame) (s : State) :
    (State.frameFromDisplay f s).held = s.held ∧ (State.frameFromDisplay f s).clockMs = s.clockMs ∧
      (State.frameFromDisplay f s).choices = s.choices ∧ (State.frameFromDisplay f s).tables = s.tables ∧
      (State.frameFromDisplay f s).store = s.store ∧ (State.frameFromDisplay f s).meas = s.meas ∧
      (State.frameFromDisplay f s).heat = s.heat ∧ (State.frameFromDisplay f s).thermal = s.thermal ∧
      (State.frameFromDisplay f s).power = s.power ∧ (State.frameFromDisplay f s).live = s.live ∧
      (State.frameFromDisplay f s).keypad = s.keypad ∧ (State.frameFromDisplay f s).matcher = s.matcher ∧
      (State.frameFromDisplay f s).beeper = s.beeper ∧ (State.frameFromDisplay f s).pending = s.pending := by
  unfold State.frameFromDisplay; (repeat' split) <;> simp

@[simp] theorem State.boardJudgement_keeps (j : Judgement) (s : State) :
    (State.boardJudgement j s).held = s.held ∧ (State.boardJudgement j s).clockMs = s.clockMs ∧
      (State.boardJudgement j s).choices = s.choices ∧ (State.boardJudgement j s).pending = s.pending := by
  simp only [State.boardJudgement]; (repeat' split) <;> simp [foldl_keeps State.held, foldl_keeps State.clockMs,
    foldl_keeps State.choices, foldl_keeps State.pending]

@[simp] theorem State.boardCharacter_keeps (data : Byte) (mark stop : Bool) (s : State) :
    (State.boardCharacter data mark stop s).held = s.held ∧
      (State.boardCharacter data mark stop s).clockMs = s.clockMs ∧
      (State.boardCharacter data mark stop s).choices = s.choices ∧
      (State.boardCharacter data mark stop s).pending = s.pending := by
  simp only [State.boardCharacter]; (repeat' split) <;> simp

@[simp] theorem State.displayJudgement_keeps (j : Judgement) (s : State) :
    (State.displayJudgement j s).held = s.held ∧ (State.displayJudgement j s).clockMs = s.clockMs ∧
      (State.displayJudgement j s).choices = s.choices ∧ (State.displayJudgement j s).tables = s.tables ∧
      (State.displayJudgement j s).store = s.store ∧ (State.displayJudgement j s).meas = s.meas ∧
      (State.displayJudgement j s).heat = s.heat ∧ (State.displayJudgement j s).thermal = s.thermal ∧
      (State.displayJudgement j s).power = s.power ∧ (State.displayJudgement j s).live = s.live ∧
      (State.displayJudgement j s).keypad = s.keypad ∧ (State.displayJudgement j s).matcher = s.matcher ∧
      (State.displayJudgement j s).beeper = s.beeper ∧ (State.displayJudgement j s).pending = s.pending := by
  simp only [State.displayJudgement]; (repeat' split) <;> simp [foldl_keeps State.held, foldl_keeps State.clockMs,
    foldl_keeps State.choices, foldl_keeps State.tables, foldl_keeps State.store, foldl_keeps State.meas,
    foldl_keeps State.heat, foldl_keeps State.thermal, foldl_keeps State.power, foldl_keeps State.live, foldl_keeps
    State.keypad, foldl_keeps State.matcher, foldl_keeps State.beeper, foldl_keeps State.pending]

@[simp] theorem State.displayCharacter_keeps (data : Byte) (mark stop : Bool) (s : State) :
    (State.displayCharacter data mark stop s).held = s.held ∧
      (State.displayCharacter data mark stop s).clockMs = s.clockMs ∧
      (State.displayCharacter data mark stop s).choices = s.choices ∧
      (State.displayCharacter data mark stop s).tables = s.tables ∧
      (State.displayCharacter data mark stop s).store = s.store ∧
      (State.displayCharacter data mark stop s).meas = s.meas ∧
      (State.displayCharacter data mark stop s).heat = s.heat ∧
      (State.displayCharacter data mark stop s).thermal = s.thermal ∧
      (State.displayCharacter data mark stop s).power = s.power ∧
      (State.displayCharacter data mark stop s).live = s.live ∧
      (State.displayCharacter data mark stop s).keypad = s.keypad ∧
      (State.displayCharacter data mark stop s).matcher = s.matcher ∧
      (State.displayCharacter data mark stop s).beeper = s.beeper ∧
      (State.displayCharacter data mark stop s).pending = s.pending := by
  simp only [State.displayCharacter]; (repeat' split) <;> simp

@[simp] theorem State.cycleStart_keeps (s : State) :
    (State.cycleStart s).held = s.held ∧ (State.cycleStart s).choices = s.choices ∧
      (State.cycleStart s).tables = s.tables ∧ (State.cycleStart s).store = s.store ∧
      (State.cycleStart s).heat = s.heat ∧ (State.cycleStart s).thermal = s.thermal ∧
      (State.cycleStart s).power = s.power ∧ (State.cycleStart s).live = s.live ∧
      (State.cycleStart s).keypad = s.keypad ∧ (State.cycleStart s).matcher = s.matcher ∧
      (State.cycleStart s).beeper = s.beeper ∧ (State.cycleStart s).sys = s.sys ∧
      (State.cycleStart s).disp = s.disp ∧ (State.cycleStart s).switch = s.switch ∧
      (State.cycleStart s).path = s.path ∧ (State.cycleStart s).mgmt = s.mgmt ∧
      (State.cycleStart s).pending = s.pending := by
  unfold State.cycleStart; (repeat' split) <;> simp

@[simp] theorem State.conversionDone_keeps (code : BitVec 12) (s : State) :
    (State.conversionDone code s).held = s.held ∧ (State.conversionDone code s).clockMs = s.clockMs ∧
      (State.conversionDone code s).tables = s.tables ∧ (State.conversionDone code s).store = s.store ∧
      (State.conversionDone code s).pending = s.pending := by
  simp only [State.conversionDone]; (repeat' split) <;> simp

@[simp] theorem State.heaterSlot_keeps (s : State) :
    (State.heaterSlot s).held = s.held ∧ (State.heaterSlot s).choices = s.choices ∧
      (State.heaterSlot s).tables = s.tables ∧ (State.heaterSlot s).store = s.store ∧
      (State.heaterSlot s).meas = s.meas ∧ (State.heaterSlot s).thermal = s.thermal ∧
      (State.heaterSlot s).power = s.power ∧ (State.heaterSlot s).live = s.live ∧
      (State.heaterSlot s).keypad = s.keypad ∧ (State.heaterSlot s).matcher = s.matcher ∧
      (State.heaterSlot s).beeper = s.beeper ∧ (State.heaterSlot s).sys = s.sys ∧
      (State.heaterSlot s).disp = s.disp ∧ (State.heaterSlot s).switch = s.switch ∧
      (State.heaterSlot s).path = s.path ∧ (State.heaterSlot s).mgmt = s.mgmt ∧
      (State.heaterSlot s).pending = s.pending := by
  simp [State.heaterSlot]

@[simp] theorem State.breakOn_keeps (port : Port) (s : State) :
    (State.breakOn port s).held = s.held ∧ (State.breakOn port s).clockMs = s.clockMs ∧
      (State.breakOn port s).choices = s.choices ∧ (State.breakOn port s).tables = s.tables ∧
      (State.breakOn port s).store = s.store ∧ (State.breakOn port s).meas = s.meas ∧
      (State.breakOn port s).heat = s.heat ∧ (State.breakOn port s).thermal = s.thermal ∧
      (State.breakOn port s).power = s.power ∧ (State.breakOn port s).live = s.live ∧
      (State.breakOn port s).keypad = s.keypad ∧ (State.breakOn port s).matcher = s.matcher ∧
      (State.breakOn port s).beeper = s.beeper ∧ (State.breakOn port s).switch = s.switch ∧
      (State.breakOn port s).path = s.path ∧ (State.breakOn port s).pending = s.pending := by
  unfold State.breakOn; (repeat' split) <;> simp

@[simp] theorem State.displaySent_keeps (s : State) :
    (State.displaySent s).held = s.held ∧ (State.displaySent s).clockMs = s.clockMs ∧
      (State.displaySent s).choices = s.choices ∧ (State.displaySent s).tables = s.tables ∧
      (State.displaySent s).store = s.store ∧ (State.displaySent s).meas = s.meas ∧
      (State.displaySent s).heat = s.heat ∧ (State.displaySent s).thermal = s.thermal ∧
      (State.displaySent s).power = s.power ∧ (State.displaySent s).live = s.live ∧
      (State.displaySent s).keypad = s.keypad ∧ (State.displaySent s).matcher = s.matcher ∧
      (State.displaySent s).beeper = s.beeper ∧ (State.displaySent s).sys = s.sys ∧
      (State.displaySent s).switch = s.switch ∧ (State.displaySent s).mgmt = s.mgmt ∧
      (State.displaySent s).pending = s.pending := by
  unfold State.displaySent; (repeat' split) <;> simp

@[simp] theorem State.scan_keeps (reading : BitVec 64) (s : State) :
    (State.scan reading s).held = s.held ∧ (State.scan reading s).tables = s.tables ∧
      (State.scan reading s).store = s.store ∧ (State.scan reading s).meas = s.meas ∧
      (State.scan reading s).pending = s.pending := by
  simp [State.scan]

end Sys2Proof.Machine
end

