-- ==== Sys2Proof/Laws/Operations.lean ====
section
/-! SUPPORT. For each shared operation a lemma that says what it can do, to be cited in place of its definition. -/

namespace Sys2Proof.Machine

/-! ## The end of a step -/

/-- With no reply ended, the end of a step only clears the model's own marks. -/
theorem State.finish_of_no_reply {s : State} (h : s.mgmt.replyEnded = false) :
    s.finish = { s with mgmt := { s.mgmt with replyEnded := false, justReported := 0 } } := by
  simp [State.finish, h, State.onMgmt]

/-- The marks cleared where they are clear. -/
theorem Mgmt.clear_marks {m : Mgmt} (h : m.replyEnded = false) (h' : m.justReported = 0) :
    { m with replyEnded := false, justReported := 0 } = m := by
  cases m
  simp_all

/-- A state at rest is left as it is by the end of a step. -/
theorem State.finish_at_rest {s : State} (h : s.mgmt.replyEnded = false) (h' : s.mgmt.justReported = 0) :
    s.finish = s := by
  rw [State.finish_of_no_reply h, Mgmt.clear_marks h h']

/-- Outside cold reset a command's work is done and the step ended. -/
theorem State.perform_of_running {s : State} (work : State → State) (h : s.held = false) :
    s.perform work = (work s).finish := by
  simp [State.perform, h]

/-- In cold reset a command's work is not done. -/
theorem State.perform_of_held {s : State} (work : State → State) (h : s.held = true) : s.perform work = s := by
  simp [State.perform, h]

/-! ## Time -/

@[simp] theorem State.reach_clockMs (ms : Nat) (s : State) : (s.reach ms).clockMs = max s.clockMs ms := rfl

theorem State.clock_le_reach (ms : Nat) (s : State) : s.clockMs ≤ (s.reach ms).clockMs := Nat.le_max_left _ _

/-! ## Counts -/

theorem bump_le (n : Nat) : bump n ≤ 65535 := Nat.min_le_right _ _

theorem bumpBy_le (n k : Nat) : bumpBy n k ≤ 65535 := Nat.min_le_right _ _

theorem count255_le (n : Nat) : count255 n ≤ 255 := Nat.min_le_right _ _

theorem clampInt_mem {lo hi : Int} (h : lo ≤ hi) (v : Int) : lo ≤ clampInt lo hi v ∧ clampInt lo hi v ≤ hi := by
  simp only [clampInt]
  omega

theorem clampNat_mem {lo hi : Nat} (h : lo ≤ hi) (v : Nat) : lo ≤ clampNat lo hi v ∧ clampNat lo hi v ≤ hi := by
  simp only [clampNat]
  omega

theorem clampInt_of_mem {lo hi v : Int} (h1 : lo ≤ v) (h2 : v ≤ hi) : clampInt lo hi v = v := by
  simp only [clampInt]
  omega

/-! ## Free choices -/

/-- A free choice gives one outcome or the other, up to the count of choices. -/
theorem State.oneOf_cases (s a b : State) :
    s.oneOf a b = a ∨ s.oneOf a b = { a with choices := s.choices + 1 } ∨
      s.oneOf a b = { b with choices := s.choices + 1 } := by
  simp only [State.oneOf]
  split
  · exact .inl rfl
  · split
    · exact .inr (.inl rfl)
    · exact .inr (.inr rfl)

/-! ## Notices -/

@[simp] theorem Mgmt.post_counter (c : NoticeContent) (m : Mgmt) : (m.post c).counter = m.counter + 1 := rfl

@[simp] theorem Mgmt.post_sticky (c : NoticeContent) (m : Mgmt) : (m.post c).sticky = m.sticky := rfl

@[simp] theorem Mgmt.post_kept (c : NoticeContent) (m : Mgmt) : (m.post c).kept = m.kept := rfl

/-- A posting outside RUNNING and SHUTDOWN leaves the queue. -/
theorem Mgmt.post_discarded {m : Mgmt} (c : NoticeContent) (h : m.kept.accepts = false) :
    (m.post c).queue = m.queue := by
  simp [Mgmt.post, h]

/-- A posting lengthens the queue by at most one. -/
theorem Mgmt.post_length_le (c : NoticeContent) (m : Mgmt) : (m.post c).queue.length ≤ m.queue.length + 1 := by
  simp only [Mgmt.post]
  split
  · split <;> simp
  · simp

/-! ## Queues -/

/-- A frame placed leaves at most 16 in a queue that held at most 16. -/
theorem DisplayPath.place_length_le (f : QueuedFrame) (p : DisplayPath) (h : p.queue.length ≤ 16) :
    (p.place f).queue.length ≤ 16 := by
  have replaced : ∀ q : List QueuedFrame, (replaceClass f q).length = q.length := by
    intro q
    induction q with
    | nil => rfl
    | cons g q ih =>
      simp only [replaceClass]
      split <;> simp [ih]
  simp only [DisplayPath.place]
  split
  · rw [replaced]
    exact h
  · split
    · simp only [List.length_append, List.length_tail, List.length_singleton]
      omega
    · simp only [List.length_append, List.length_singleton]
      omega

/-- A frame appended leaves at most 16 in a forwarded queue that held at most 16. -/
theorem SysPort.appendFwd_length_le (f : Frame) (p : SysPort) (h : p.fwd.length ≤ 16) :
    (p.appendFwd f).fwd.length ≤ 16 := by
  simp only [SysPort.appendFwd]
  split <;> simp only [List.length_append, List.length_tail, List.length_singleton] <;> omega

/-! ## The sequencer -/

/-- A record leaves at most 16 in the log. -/
theorem PowerSeq.record_length_le (up : BitVec 32) (hot : Option Int) (left : PowerState) (p : PowerSeq)
    (c : Cause × Option SlotField) : (p.record up hot left c).log.length ≤ 16 := by
  simp only [PowerSeq.record, List.length_take]
  exact Nat.min_le_left _ _

/-- A trimmed list is no longer than its limit. -/
theorem trimList_length_le (limit : Nat) (l : List (BitVec 32)) : (trimList limit l).length ≤ limit := by
  simp only [trimList, List.length_drop]
  omega

/-- A pruned list is no longer than before. -/
theorem pruneList_length_le (now : BitVec 32) (window : Nat) (l : List (BitVec 32)) :
    (pruneList now window l).length ≤ l.length := by
  simp only [pruneList]
  exact (List.dropWhile_suffix _).length_le

/-- A transition enters its target. -/
theorem State.transition_state (t : Target) (cs : List (Cause × Option SlotField)) (s : State) :
    (s.transition t cs).power.state = t.state ∧ (s.transition t cs).power.phase = t.phase ∧
      (s.transition t cs).power.dest = t.dest := by
  simp [State.transition, PowerSeq.enter]

/-! ## The reports of a transition (R55) -/

/-- Records leave the board power output. -/
theorem PowerSeq.record_foldl_boardPower (up : BitVec 32) (hot : Option Int) (left : PowerState)
    (cs : List (Cause × Option SlotField)) (p : PowerSeq) :
    (cs.foldl (PowerSeq.record up hot left) p).boardPower = p.boardPower := by
  induction cs generalizing p with
  | nil => rfl
  | cons c cs ih => exact ih _

/-- A transition is its report, from the state with the sequencer moved and the reserve perhaps released. -/
theorem State.transition_eq_report (g : Target) (cs : List (Cause × Option SlotField)) (s : State) :
    ∃ h p, s.transition g cs = State.reportPower (!s.power.boardPower && p.boardPower)
      (s.power.boardPower && !p.boardPower) { s with heat := h, power := p } := by
  let entered (u : State) : PowerSeq := PowerSeq.enter s.clockMs g
    (cs.foldl (PowerSeq.record s.uptime u.boardHot s.power.state) (PowerSeq.setOutputs g s.power))
  have hb (u : State) : (entered u).boardPower = powerEnableIn g.state g.phase :=
    PowerSeq.record_foldl_boardPower ..
  unfold State.transition State.makeRecords
  by_cases hr : s.power.releases g
  · refine ⟨s.heat.reserveRelease, entered (s.onHeat Heat.reserveRelease), ?_⟩
    simp only [hr, if_true, hb]
    rfl
  · refine ⟨s.heat, entered s, ?_⟩
    simp only [hr, hb]
    rfl

/-- The stage a report sets, in the two spellings of R77. -/
theorem stageFor_eq_stageIn (st : PowerState) (ph : Option Phase) : stageFor st ph = stageIn st ph := by
  cases st <;> rcases ph with _ | ph <;> (try cases ph) <;> rfl

/-- The outputs of a state and phase, in the two spellings of R53. -/
theorem PowerSeq.outputsRight_iff (p : PowerSeq) : p.OutputsRight ↔
    p.boardPower = powerEnableIn p.state p.phase ∧
      p.resetAsserted = resetAssertedIn p.resetAsserted p.state p.phase := by
  unfold PowerSeq.OutputsRight
  cases p.state <;> rcases p.phase with _ | ph <;> (try cases ph) <;> cases p.boardPower <;>
    cases p.resetAsserted <;> decide

/-- What the system port loses when it stops being live (R133). -/
theorem State.portDies_sys (s : State) :
    let t := s.portDies.sys
    t.isLive = false ∧ t.rx = .discard ∧ t.lineLow = false ∧ t.breakOn = false ∧ t.slot = .empty ∧ t.fwd = [] ∧
      t.tx = none ∧
      t.fwdDiscard =
        min (s.sys.fwdDiscard + (if s.sys.sendsForwarded then 1 else 0) + s.sys.fwd.length) 65535 := by
  unfold State.portDies State.dropReply
  cases h : s.sys.slot <;> cases h2 : s.sys.sendsForwarded <;>
    simp [SysPort.cutTx, bump, bumpBy, h, h2, ReplySlot.full, State.replyEnds] <;> omega

/-- The system port after a report (R133). -/
theorem State.portReport_sys (s : State) :
    let t := s.portReport.sys
    t.isLive = (s.power.boardPower && !s.power.resetAsserted) ∧
    (s.sys.isLive = true → t.isLive = false →
      t.rx = .discard ∧ t.lineLow = false ∧ t.breakOn = false ∧ t.slot = .empty ∧ t.fwd = [] ∧ t.tx = none ∧
      t.fwdDiscard =
        min (s.sys.fwdDiscard + (if s.sys.sendsForwarded then 1 else 0) + s.sys.fwd.length) 65535) := by
  have hd := s.portDies_sys
  unfold State.portReport
  cases h1 : s.power.boardPower <;> cases h2 : s.power.resetAsserted <;> cases h3 : s.sys.isLive <;>
    simp [h3, SysPort.wakeUp] <;> simp_all

/-- The system port's report leaves the notice queue. -/
theorem State.portReport_queue (s : State) : s.portReport.mgmt.queue = s.mgmt.queue := by
  unfold State.portReport State.portDies State.dropReply
  simp only
  split
  · rfl
  split
  · rfl
  cases h : s.sys.slot <;> simp [SysPort.cutTx, h, ReplySlot.full, State.replyEnds]

/-- The display path when board power turns off (R154). -/
theorem State.pathPowerOff_eq (s : State) :
    s.pathPowerOff.disp.tx = none ∧ s.pathPowerOff.path =
      { s.path with
        state := .off, power := false, queue := [], waitTimer := none, startTimer := none, silenceTimer := none
        idleTimer := none
        dqDiscard :=
          min (s.path.dqDiscard + (if s.disp.tx.isSome then 1 else 0) + s.path.queue.length) 65535 } := by
  unfold State.pathPowerOff State.cutDisplayTx
  cases h : s.disp.tx <;> simp [DisplayPath.flush, bump, bumpBy, h] <;> omega

/-- What the reports of one transition do in the neighbouring blocks (R55). -/
theorem State.transition_reported (g : Target) (cs : List (Cause × Option SlotField)) (s : State)
    (hk : s.keypad.scanning = false) : s.Reported (s.transition g cs) := by
  obtain ⟨h, p, e⟩ := s.transition_eq_report g cs
  rw [e]
  have hpw (a b) : (State.reportPower a b { s with heat := h, power := p }).power = p := by simp
  unfold State.Reported
  simp only [hpw]
  refine ⟨?_, ?_, ?_, ?_, ?_, ?_, ?_, ?_, ?_, ?_, ?_, ?_, ?_⟩
  · simp only [State.reportPower, State.portReport_keeps]
    cases h1 : p.state <;> cases h2 : s.thermal.kept <;> simp [Thermal.onReport, h2]
  · simp [State.reportPower, Liveness.onReport, ← stageFor_eq_stageIn]
    split <;> simp
  · simp [State.reportPower, Liveness.onReport]
    split <;> simp
  · simp [State.reportPower, Liveness.onReport]
    split <;> simp_all
  · refine fun n => ⟨fun (hm : s.tables.sequences[n.val].mask.getLsbD p.state.code = false) => ?_,
      fun (hm : s.tables.sequences[n.val].mask.getLsbD p.state.code = true) => .inl ?_⟩ <;>
      simp [State.reportPower, Matcher.reportArrives, Matcher.onReport, SeqSlot.allows, hk, hm]
  · intro _
    simp [State.reportPower]
  · intro h1 h2
    simp only [State.reportPower, State.portReport_keeps]
    cases hst : p.state <;> simp_all [Beeper.onReport, backgroundFor] <;> split <;> simp_all
  · intro h1 h2
    simp only [State.reportPower, State.portReport_queue]
    cases hst : p.state <;> simp_all [Mgmt.onReport, PowerState.accepts]
  · intro hkk hst
    simp [State.reportPower, Keypad.onReport, Keypad.takeReport, hk, hkk]
    intro ha hb
    cases h1 : p.state <;> cases h2 : s.power.state <;> simp_all [PowerState.accepts]
  · intro hb _
    have : (!s.power.boardPower && p.boardPower) = false ∧ (s.power.boardPower && !p.boardPower) = false := by
      rw [hb]
      cases p.boardPower <;> simp
    simp [State.reportPower, this, State.pathReport]
  · rintro ⟨h1, h2⟩
    have hoff := State.pathPowerOff_eq ((({ s with heat := h, power := p } : State).onHeat
      (Heat.onReport p.state)).onThermal (Thermal.onReport p.state) |>.onLive
        (Liveness.onReport s.params s.clockMs p.state p.phase))
    simp only [State.reportPower, h1, h2, State.pathReport, State.portReport_keeps]
    refine ⟨by simpa using hoff.1, ?_⟩
    simp
    exact hoff.2
  · simp [State.reportPower, State.portReport_sys]
  · intro h1 h2
    simp only [State.reportPower] at h2 ⊢
    simpa using (State.portReport_sys _).2 (by simpa using h1) h2

/-! ## The soft reset (R179) -/

/-- A rate put into use on the system port (R127). -/
theorem State.applyRate_system (rate : Nat) (s : State) : s.applyRate .system rate =
    { s with sys := { s.sys with rate := rate, rx := if s.sys.rate = rate then s.sys.rx else .discard } } := by
  by_cases h : s.sys.rate = rate
  · subst h
    simp [State.applyRate]
  · simp [State.applyRate, h]
    rfl

/-- A rate put into use on the display port (R127). -/
theorem State.applyRate_display (rate : Nat) (s : State) : s.applyRate .display rate =
    { s with disp := { s.disp with rate := rate, rx := if s.disp.rate = rate then s.disp.rx else .discard } } := by
  by_cases h : s.disp.rate = rate
  · subst h
    simp [State.applyRate]
  · simp [State.applyRate, h]
    rfl

/-- The Liveness Monitor's soft reset (R92). -/
theorem State.livenessSoftReset_eq (s : State) : s.livenessSoftReset =
    { s with
      live :=
        if s.live.stage = .watching ∨ s.live.stage = .warned then
          { s.live with
            stage := .watching, graceTimer := none, last := some s.clockMs, early := 0
            hbTimer := some { start := s.clockMs, dur := s.params.hbMax * 100 } }
        else { s.live with early := 0 } } := by
  cases h : s.live.stage <;> simp [State.livenessSoftReset, State.onLive, h] <;> rfl

/-- Steps 1 and 2 of a soft reset: the flags and the working tables. -/
theorem State.clearFlags_reload_eq (s : State) : s.clearFlags.reload =
    { s with
      tables := s.store.load
      choices := if s.mgmt.justReported = 0 then s.choices else s.choices + 1
      mgmt :=
        { s.mgmt with
          overrun := 0
          sticky := (s.mgmt.justReported &&& Config.keptAtSoftReset s.choices) |||
            (if s.store.accepted then 0 else StickyFlag.profileDefaulted.mask)
          justReported :=
            if s.store.accepted then s.mgmt.justReported
            else s.mgmt.justReported ||| StickyFlag.profileDefaulted.mask } } := by
  unfold State.reload State.clearFlags
  split <;> cases h2 : s.store.accepted <;>
    simp_all [State.reportIf, State.report, Mgmt.report, State.onTables, State.onMgmt]

/-- A zone's accumulator over a change of its record (R18, R39). -/
theorem ZoneState.onRecord_eq (old new : ZoneRecord) (z : ZoneState) : z.onRecord old new =
    { z with soak := if old.first ≠ new.first ∨ old.second ≠ new.second then 0 else z.soak } := by
  by_cases h : old.first = new.first <;> by_cases h' : old.second = new.second <;>
    simp [ZoneState.onRecord, ZoneRecord.channelsDiffer, h, h']

/-- A step whose reply ends with a soft reset pending ends in the soft reset of what it had done (R179, log 8). -/
theorem State.finish_softResets {s : State} (h : s.mgmt.replyEnded = true) (hp : s.mgmt.pendingSoft = true) :
    let w := s.applyRateChange
    State.SoftResets s.finish
      { w with mgmt := { w.mgmt with sticky := w.mgmt.justReported, replyEnded := false, justReported := 0 } } := by
  intro w
  have hf : s.finish = (w.onMgmt (fun m => { m with pendingSoft := false })).softReset.onMgmt
      (fun m => { m with replyEnded := false, justReported := 0 }) := by
    simp [State.finish, h, State.replyEndTaken, hp, w]
  rw [hf]
  generalize w = u
  unfold State.softReset State.blocksSoftReset
  simp only [State.applyRate_system, State.applyRate_display, State.livenessSoftReset_eq, State.clearFlags_reload_eq]
  refine ⟨?_, fun z => ?_⟩
  · simp only [State.onMeas, State.onHeat, State.onPower, State.onKeypad, State.onMatcher, State.onSys, State.onDisp,
      State.onSwitch, State.onPath, State.onMgmt, Meas.softReset, Heat.softReset, Matcher.clearAll, Switch.cold,
      DisplayPath.softReset, newlyCoalescing, trimList, allKeys, State.params]
    rfl
  cases z <;> exact ZoneState.onRecord_eq ..

/-! ## Heating -/

/-- A served zone takes its grant times its power from the available amount. -/
theorem Heat.serve_spends (h : Heat) (acc : Nat × PerZone Nat) (z : ZoneId) :
    (h.serve acc z).1 + min (h.zones.get z).request (acc.1 / (h.zones.get z).inForce.watts)
      * (h.zones.get z).inForce.watts = acc.1 := by
  have : min (h.zones.get z).request (acc.1 / (h.zones.get z).inForce.watts) * (h.zones.get z).inForce.watts
      ≤ acc.1 :=
    (Nat.mul_le_mul_right _ (Nat.min_le_right _ _)).trans (Nat.div_mul_le_self _ _)
  simp only [Heat.serve]
  omega

/-! ## Frames and requests -/

/-- A line that is not watched has no character to judge. -/
@[simp] theorem State.judgeLow_unwatched {s : State} (port : Port)
    (h : (match port with | .system => s.sys.lineLow | .display => s.disp.lineLow) = false) : s.judgeLow port = s := by
  cases port <;> simp_all [State.judgeLow]

/-- A watched line of the system port: one FRAMING outcome, and the receiver discards. -/
theorem State.judgeLow_system {s : State} (h : s.sys.lineLow = true) :
    s.judgeLow .system = { s with
      sys :=
        { s.sys with
          lineLow := false, rx := .discard
          errors := { s.sys.errors with framing := bump s.sys.errors.framing } } } := by
  simp [State.judgeLow, h, State.systemOutcome, State.onSys, PortErrors.count]

/-- An outcome on the display port: its counter, and the consecutive bad frames. -/
theorem State.displayOutcome_disp (s : State) (o : RxOutcome) :
    (s.displayOutcome o).disp = { s.disp with
      errors := s.disp.errors.count o
      badRun := if o.bad then (if 3 ≤ s.disp.badRun + 1 then 0 else s.disp.badRun + 1) else s.disp.badRun } := by
  simp only [State.displayOutcome, State.badFrameRun, State.onDisp, State.displayFault, State.report, State.post,
    State.onMgmt]
  by_cases hb : o.bad = true <;> by_cases h : 3 ≤ s.disp.badRun + 1 <;> by_cases hp : s.path.power = true <;>
    simp only [hb, h, hp, if_true, if_false] <;> rfl

/-- What the third bad frame in a row does to the Management Unit, and nothing else does. -/
theorem State.displayOutcome_mgmt (s : State) (o : RxOutcome) :
    (s.displayOutcome o).mgmt =
      if o.bad = true ∧ 3 ≤ s.disp.badRun + 1 ∧ s.path.power = true then
        (s.mgmt.report .displayAlert).post (.displayFault .badFrames s.path.retry s.params.retryLimit)
      else s.mgmt := by
  simp only [State.displayOutcome, State.badFrameRun, State.onDisp, State.displayFault, State.report, State.post,
    State.onMgmt]
  by_cases hb : o.bad = true <;> by_cases h : 3 ≤ s.disp.badRun + 1 <;> by_cases hp : s.path.power = true <;>
    simp only [hb, h, hp, and_self, and_false, false_and, if_true, if_false] <;> rfl

/-- A line that is neither watched nor held by a break has nothing to end when it is at 1. -/
@[simp] theorem State.lineHigh_display_idle {s : State} (h : s.disp.lineLow = false) (hb : s.disp.breakOn = false) :
    s.lineHigh .display = s := by
  rcases s with ⟨_, _, _, _, _, _, _, _, _, _, _, _, _, _, d, _, _, _, _⟩
  cases d
  simp_all [State.lineHigh, State.judgeLow, State.onDisp]

/-- A BREAK in a hold of the display line that one has been counted in. -/
@[simp] theorem State.displayBreak_held {s : State} (h : s.disp.breakOn = true) : s.displayBreak = s := by
  simp [State.displayBreak, h]

/-- A frame arriving on a system port that receives, its line not watched. -/
theorem State.boardFrame_received {s : State} (route : State → State) (h : s.sys.receives = true)
    (hl : s.sys.lineLow = false) : s.boardFrame route = route (s.onSys (fun p => { p with rx := .idle })) := by
  simp [State.boardFrame, h, hl]

/-- A frame arriving on a system port that does not receive. -/
theorem State.boardFrame_unheard {s : State} (route : State → State) (h : s.sys.receives = false) :
    s.boardFrame route = s := by
  simp [State.boardFrame, h]

/-- A request that is executed: its reply is placed. -/
theorem State.requestFrame_served {s : State} (code : Nat) (tag : Byte) (request : State → Answer)
    (h : s.sys.receives = true) (hl : s.sys.lineLow = false) (h' : s.sys.slot = .empty) :
    s.requestFrame code tag request = (request (s.received 0)).state.placeReply
      { command := byte code, tag := tag, status := (request (s.received 0)).status
        data := (request (s.received 0)).data } := by
  simp [State.requestFrame, State.boardFrame, h, hl, State.serve, State.passed, h', ReplySlot.full, State.received,
    State.onSys, State.onSwitch]

/-- A request that finds the reply slot full is an overrun. -/
theorem State.requestFrame_overrun {s : State} (code : Nat) (tag : Byte) (request : State → Answer)
    (h : s.sys.receives = true) (hl : s.sys.lineLow = false) (h' : s.sys.slot.full = true) :
    s.requestFrame code tag request = (s.received 0).overrun := by
  simp [State.requestFrame, State.boardFrame, h, hl, State.serve, State.passed, h', State.received, State.onSys,
    State.onSwitch]

/-! ## Samples and zones -/

/-- A sample's reading is its usable value (R13). -/
theorem Sample.reading_eq_usableValue (r : Sample) : r.reading = r.usableValue := by
  simp only [Sample.reading, Sample.usableValue]
  cases r.state <;> rfl

/-- A zone's readings are the usable values of its channels (R20). -/
theorem zoneReadings_eq_usableValues (samples : Vector Sample 8) (r : ZoneRecord) :
    zoneReadings samples r = r.usableValues samples := by
  cases h : r.second <;> simp [zoneReadings, ZoneRecord.usableValues, Sample.reading_eq_usableValue, h]

/-! ## Grants -/

/-- A new grant handed to an output (R32): the lower one is followed at once, and any other waits. -/
theorem ZoneState.handOver_eq (slot : Fin 8) (g : Nat) (z : ZoneState) :
    z.handOver slot g =
      { z with
        grant := g, active := min g z.active, output := z.output && decide (g < z.active → slot.val < g) } := by
  simp only [ZoneState.handOver]
  split
  · next h => simp [h, Nat.min_eq_left (Nat.le_of_lt h)]
  · next h => simp [h, Nat.min_eq_right (Nat.le_of_not_lt h)]

/-- An allocation changes the budget, the reserve, A8 and the zones' grants, active grants and outputs (R28, R32). -/
theorem Heat.allocate_frame (p : Params) (h : Heat) :
    h.allocate p =
      { h with
        budget := (h.allocate p).budget, reserve := (h.allocate p).reserve, a8 := (h.allocate p).a8
        zones := (h.allocate p).zones } := rfl

@[simp] theorem Heat.allocate_budget (p : Params) (h : Heat) :
    (h.allocate p).budget = if h.brownout then p.brownoutBudget else p.normalBudget := rfl

@[simp] theorem Heat.allocate_reserve (p : Params) (h : Heat) :
    (h.allocate p).reserve = if h.reserveHeld then p.boardReserve else 0 := rfl

/-! ## Reports and presses of one scan (R116) -/

/-- With no report waiting there is none to take. -/
theorem State.takeReports_of_none {s : State} (h : s.matcher.deferred = []) : s.takeReports = s := by
  have hm : s.matcher.takeReports s.tables.sequences = s.matcher := by
    cases hs : s.matcher
    simp_all [Matcher.takeReports]
  simp [State.takeReports, State.onMatcher, hm]

/-- With no report waiting a press is judged in the state kept (R117). -/
theorem State.matcherPress_of_none {s : State} (k : Fin 64) (h : s.matcher.deferred = []) :
    s.matcherPress k = s.judgePress k := by
  simp [State.matcherPress, h]

/-- What a press does at the matcher but for the count of the free choices: it is judged after the reports that wait or
before them. -/
theorem State.matcherPress_cases (k : Fin 64) (s : State) :
    ∃ c, s.matcherPress k = { s.takeReports.judgePress k with choices := c } ∨
      s.matcherPress k = { s.judgePress k with choices := c } := by
  unfold State.matcherPress
  split
  · exact ⟨_, .inr rfl⟩
  · obtain h | h | h := s.oneOf_cases (s.takeReports.judgePress k) (s.judgePress k) <;> rw [h]
    · exact ⟨_, .inl rfl⟩
    · exact ⟨_, .inl rfl⟩
    · exact ⟨_, .inr rfl⟩

/-- What the requests and heat-dim of one event do but for the count of the free choices: one order or the other. -/
theorem State.sendRequestsAndDim_cases (before after : Thermal) (s : State) :
    ∃ c, s.sendRequestsAndDim before after =
        { (s.sendRequests before after).sendHeatDim before after with choices := c } ∨
      s.sendRequestsAndDim before after =
        { (s.sendHeatDim before after).sendRequests before after with choices := c } := by
  unfold State.sendRequestsAndDim
  split
  · unfold eitherOrder
    obtain h | h | h := s.oneOf_cases ((s.sendRequests before after).sendHeatDim before after)
        ((s.sendHeatDim before after).sendRequests before after) <;> rw [h]
    · exact ⟨_, .inl rfl⟩
    · exact ⟨_, .inl rfl⟩
    · exact ⟨_, .inr rfl⟩
  · exact ⟨_, .inl rfl⟩

/-! ## The debounce (R95) -/

theorem State.scanCounts_iff (s : State) : s.keypad.scanCounts = true ↔ s.ScanCounts := by
  simp [Keypad.scanCounts]

/-- A scan that does not count changes no debounce count and no debounced condition (log 21). -/
theorem Keypad.debounce_uncounted {k : Keypad} (h : k.scanCounts = false) (d : Nat) (reading : BitVec 64) :
    k.debounceAll d reading = k ∧ k.releases d reading = [] ∧ k.presses d reading = [] := by
  simp [Keypad.debounceAll, Keypad.releases, Keypad.presses, h]

/-- What a scan that counts leaves of a key before its changes are applied. -/
theorem Keypad.debounceAll_key {k : Keypad} (h : k.scanCounts = true) (d : Nat) (reading : BitVec 64) (i : Fin 64) :
    (k.debounceAll d reading).keys[i] = k.keys[i].debounce d (reading.getLsbD i.val) := by
  simp [Keypad.debounceAll, h]

/-- The keys whose changes a scan that counts applies. -/
theorem Keypad.mem_changes {k : Keypad} (h : k.scanCounts = true) (d : Nat) (reading : BitVec 64) (i : Fin 64) :
    (i ∈ k.releases d reading ↔ k.keys[i].changes d (reading.getLsbD i.val) = true ∧ k.isDown i = true) ∧
      (i ∈ k.presses d reading ↔ k.keys[i].changes d (reading.getLsbD i.val) = true ∧ k.isDown i = false) := by
  simp [Keypad.releases, Keypad.presses, h, allKeys]

/-! ## The CRC-8 -/

theorem crc8_append (bs : List Byte) (b : Byte) : crc8 (bs ++ [b]) = crc8Byte (crc8 bs) b := by
  simp [crc8]

theorem polynomialOf_append (bs : List Byte) (b : Byte) :
    polynomialOf (bs ++ [b]) = 256 * polynomialOf bs + b.toNat := by
  simp [polynomialOf]

/-- A product with the generator is linear over the integers modulo 2. -/
theorem timesGenerator_xor (a b : Nat) : timesGenerator (a ^^^ b) = timesGenerator a ^^^ timesGenerator b := by
  simp only [timesGenerator, Nat.shiftLeft_xor_distrib]
  ac_rfl

/-- A product with the generator moved up by a byte. -/
theorem timesGenerator_shift (q : Nat) : timesGenerator (q <<< 8) = timesGenerator q <<< 8 := by
  simp only [timesGenerator, Nat.shiftLeft_xor_distrib, ← Nat.shiftLeft_add]

/-- One byte's step depends on the sum of remainder and byte alone. -/
theorem crc8Byte_eq (c b : Byte) : crc8Byte c b = crc8Byte 0 (c ^^^ b) := by
  simp [crc8Byte]

/-- One byte's step is a division: the byte, moved up by a byte, and the remainder make a multiple of the generator. -/
theorem crc8Byte_divides : ∀ b : Byte, ∃ q < 256, (b.toNat <<< 8) ^^^ (crc8Byte 0 b).toNat = timesGenerator q := by
  decide +kernel

end Sys2Proof.Machine
end

