-- ==== Sys2Proof/WellFormed.lean ====
section
/-! DEFINITION. Which commands can be sent: a payload is at most 48 characters (R128), a frame row names the classes of
its table line (R140, R144, R147), and UNKNOWN_COMMAND carries a payload that no other row spells (R169). -/

namespace Sys2Proof

/-- The longest payload of a frame (R128). -/
def maxPayload : Nat := 48

/-- The payload of a management request is spelled by no row but UNKNOWN_COMMAND: fewer than two characters, an
unknown command, or a selecting argument (table, choice, operation) that is missing or unknown (R169, R181). -/
def spellsNoRow : List Byte → Bool
  | [] => true
  | [_] => true
  | c :: _ :: args =>
    match c.toNat with
    | 5 => (args.head?.map (fun t => decide (6 < t.toNat))).getD true
    | 9 => (args.head?.map (fun x => decide (2 < x.toNat))).getD true
    | 10 => (args.head?.map (fun x => decide (2 < x.toNat))).getD true
    | 11 => ((args.drop 1).head?.map (fun x => decide (1 < x.toNat))).getD true
    | n => decide (n = 0 ∨ 13 < n)

/-- A request whose row fixes `fixed` bytes of its payload and leaves `args` open has a payload of at most 48. -/
def argsFit (fixed : Nat) (args : List Byte) : Bool := decide (fixed + args.length ≤ maxPayload)

/-- The command can be sent. -/
def Instr.wf : Instr → Bool
  | .coldReset _ => true
  | .coldResetRelease => true
  | .cycleStart => true
  | .conversionComplete _ => true
  | .reserveGranted => true
  | .heaterSlotStart => true
  | .preheatLimitExpiry => true
  | .powerGoodChange _ => true
  | .powerGoodTimeout => true
  | .settleExpiry => true
  | .resetPulseExpiry => true
  | .bootTimeout => true
  | .shutdownGraceExpiry => true
  | .offTimeExpiry => true
  | .heartbeatTimerExpiry => true
  | .graceTimerExpiry => true
  | .receiveCharacter _ data mark stop => decide (stop = .returned → data = 0 ∧ mark = false)
  | .lineBreak _ => true
  | .reservedFrame _ c p => decide (1 ≤ c.val ∧ c.val ≤ 7) && decide (p.length ≤ maxPayload)
  | .loadableSystemFrame c p => decide (8 ≤ c.val) && decide (p.length ≤ maxPayload)
  | .loadableDisplayFrame c p => decide (8 ≤ c.val) && decide (p.length ≤ maxPayload)
  | .hostReadyChange _ => true
  | .systemTxBegin => true
  | .systemFrameSent => true
  | .displayFrameSent => true
  | .waitLimitExpiry => true
  | .startTimerExpiry => true
  | .silenceTimerExpiry => true
  | .recoveryOffTimeExpiry => true
  | .idleTimerExpiry => true
  | .scan _ => true
  | .stepTimerExpiry _ => true
  | .holdTimerExpiry _ => true
  | .beeperSegmentEnd => true
  | .oneShotEnd => true
  | .backgroundPeriodStart => true
  | .commitEnd _ => true
  | .unknownCommand p => decide (p.length ≤ maxPayload) && spellsNoRow p
  | .getStatus _ a => argsFit 2 a
  | .getZones _ a => argsFit 2 a
  | .getSamples _ a => argsFit 2 a
  | .getEntry _ a => argsFit 2 a
  | .setEntryClass _ a => argsFit 3 a
  | .setEntryKeymap _ a => argsFit 3 a
  | .setEntrySequence _ a => argsFit 3 a
  | .setEntryZone _ a => argsFit 3 a
  | .setEntryChannel _ a => argsFit 3 a
  | .setEntryParameter _ a => argsFit 3 a
  | .setEntryInject _ a => argsFit 3 a
  | .getCounters _ a => argsFit 2 a
  | .clearCounters _ a => argsFit 2 a
  | .getLog _ a => argsFit 2 a
  | .requestPowerOff _ a => argsFit 3 a
  | .requestPowerRestart _ a => argsFit 3 a
  | .requestPowerCycle _ a => argsFit 3 a
  | .requestDisplayDim _ a => argsFit 3 a
  | .requestDisplayWake _ a => argsFit 3 a
  | .requestDisplayRestart _ a => argsFit 3 a
  | .forceSampleSet _ _ a => argsFit 4 a
  | .forceSampleRelease _ _ a => argsFit 4 a
  | .commitProfile _ a => argsFit 2 a
  | .resetSupervisor _ a => argsFit 2 a
  | .displayManagementFrame p => decide (p.length ≤ maxPayload)
  | .breakEnd => true

end Sys2Proof
end

