-- ==== Sys2Proof/Laws/PerInstr.lean ====
section
/-! SUPPORT. A statement about every command as syntax, with one lemma for each constructor. -/

namespace Sys2Proof.Laws

/-- The payload that a row's frame carries, for the rows that stand for a frame (R128, R182). -/
def framePayload : Instr → Option (List Byte)
  | .reservedFrame _ _ p => some p
  | .loadableSystemFrame _ p => some p
  | .loadableDisplayFrame _ p => some p
  | .displayManagementFrame p => some p
  | i => Machine.requestPayload i

namespace Payload

/-- A well-formed command's frame has a payload of at most 48 characters (R128). -/
def Statement (i : Instr) : Prop := i.wf = true → ∀ p, framePayload i = some p → p.length ≤ maxPayload

/-- Every command's frame fits. -/
theorem fits (i : Instr) : Statement i := by
  cases i <;> intro h p hp <;> simp [framePayload, Machine.requestPayload] at hp <;> subst hp <;>
    simp [Instr.wf, argsFit] at h ⊢ <;> omega

theorem coldReset (cause : ColdCause) : Statement (.coldReset cause) := fits _
theorem coldResetRelease : Statement .coldResetRelease := fits _
theorem cycleStart : Statement .cycleStart := fits _
theorem conversionComplete (code : BitVec 12) : Statement (.conversionComplete code) := fits _
theorem reserveGranted : Statement .reserveGranted := fits _
theorem heaterSlotStart : Statement .heaterSlotStart := fits _
theorem preheatLimitExpiry : Statement .preheatLimitExpiry := fits _
theorem powerGoodChange (high : Bool) : Statement (.powerGoodChange high) := fits _
theorem powerGoodTimeout : Statement .powerGoodTimeout := fits _
theorem settleExpiry : Statement .settleExpiry := fits _
theorem resetPulseExpiry : Statement .resetPulseExpiry := fits _
theorem bootTimeout : Statement .bootTimeout := fits _
theorem shutdownGraceExpiry : Statement .shutdownGraceExpiry := fits _
theorem offTimeExpiry : Statement .offTimeExpiry := fits _
theorem heartbeatTimerExpiry : Statement .heartbeatTimerExpiry := fits _
theorem graceTimerExpiry : Statement .graceTimerExpiry := fits _
theorem receiveCharacter (port : Port) (data : Byte) (mark : Bool) (stop : StopBit) :
    Statement (.receiveCharacter port data mark stop) := fits _
theorem lineBreak (port : Port) : Statement (.lineBreak port) := fits _
theorem reservedFrame (port : Port) (cls : Fin 64) (payload : List Byte) :
    Statement (.reservedFrame port cls payload) := fits _
theorem loadableSystemFrame (cls : Fin 64) (payload : List Byte) :
    Statement (.loadableSystemFrame cls payload) := fits _
theorem loadableDisplayFrame (cls : Fin 64) (payload : List Byte) :
    Statement (.loadableDisplayFrame cls payload) := fits _
theorem hostReadyChange (asserted : Bool) : Statement (.hostReadyChange asserted) := fits _
theorem systemTxBegin : Statement .systemTxBegin := fits _
theorem systemFrameSent : Statement .systemFrameSent := fits _
theorem displayFrameSent : Statement .displayFrameSent := fits _
theorem waitLimitExpiry : Statement .waitLimitExpiry := fits _
theorem startTimerExpiry : Statement .startTimerExpiry := fits _
theorem silenceTimerExpiry : Statement .silenceTimerExpiry := fits _
theorem recoveryOffTimeExpiry : Statement .recoveryOffTimeExpiry := fits _
theorem idleTimerExpiry : Statement .idleTimerExpiry := fits _
theorem scan (reading : BitVec 64) : Statement (.scan reading) := fits _
theorem stepTimerExpiry (slot : Fin 4) : Statement (.stepTimerExpiry slot) := fits _
theorem holdTimerExpiry (slot : Fin 4) : Statement (.holdTimerExpiry slot) := fits _
theorem beeperSegmentEnd : Statement .beeperSegmentEnd := fits _
theorem oneShotEnd : Statement .oneShotEnd := fits _
theorem backgroundPeriodStart : Statement .backgroundPeriodStart := fits _
theorem commitEnd (readBackMatches : Bool) : Statement (.commitEnd readBackMatches) := fits _
theorem unknownCommand (payload : List Byte) : Statement (.unknownCommand payload) := fits _
theorem getStatus (tag : Byte) (args : List Byte) : Statement (.getStatus tag args) := fits _
theorem getZones (tag : Byte) (args : List Byte) : Statement (.getZones tag args) := fits _
theorem getSamples (tag : Byte) (args : List Byte) : Statement (.getSamples tag args) := fits _
theorem getEntry (tag : Byte) (args : List Byte) : Statement (.getEntry tag args) := fits _
theorem setEntryClass (tag : Byte) (args : List Byte) : Statement (.setEntryClass tag args) := fits _
theorem setEntryKeymap (tag : Byte) (args : List Byte) : Statement (.setEntryKeymap tag args) := fits _
theorem setEntrySequence (tag : Byte) (args : List Byte) : Statement (.setEntrySequence tag args) := fits _
theorem setEntryZone (tag : Byte) (args : List Byte) : Statement (.setEntryZone tag args) := fits _
theorem setEntryChannel (tag : Byte) (args : List Byte) : Statement (.setEntryChannel tag args) := fits _
theorem setEntryParameter (tag : Byte) (args : List Byte) : Statement (.setEntryParameter tag args) := fits _
theorem setEntryInject (tag : Byte) (args : List Byte) : Statement (.setEntryInject tag args) := fits _
theorem getCounters (tag : Byte) (args : List Byte) : Statement (.getCounters tag args) := fits _
theorem clearCounters (tag : Byte) (args : List Byte) : Statement (.clearCounters tag args) := fits _
theorem getLog (tag : Byte) (args : List Byte) : Statement (.getLog tag args) := fits _
theorem requestPowerOff (tag : Byte) (args : List Byte) : Statement (.requestPowerOff tag args) := fits _
theorem requestPowerRestart (tag : Byte) (args : List Byte) : Statement (.requestPowerRestart tag args) := fits _
theorem requestPowerCycle (tag : Byte) (args : List Byte) : Statement (.requestPowerCycle tag args) := fits _
theorem requestDisplayDim (tag : Byte) (args : List Byte) : Statement (.requestDisplayDim tag args) := fits _
theorem requestDisplayWake (tag : Byte) (args : List Byte) : Statement (.requestDisplayWake tag args) := fits _
theorem requestDisplayRestart (tag : Byte) (args : List Byte) : Statement (.requestDisplayRestart tag args) := fits _
theorem forceSampleSet (tag channel : Byte) (args : List Byte) :
    Statement (.forceSampleSet tag channel args) := fits _
theorem forceSampleRelease (tag channel : Byte) (args : List Byte) :
    Statement (.forceSampleRelease tag channel args) := fits _
theorem commitProfile (tag : Byte) (args : List Byte) : Statement (.commitProfile tag args) := fits _
theorem resetSupervisor (tag : Byte) (args : List Byte) : Statement (.resetSupervisor tag args) := fits _
theorem displayManagementFrame (payload : List Byte) : Statement (.displayManagementFrame payload) := fits _
theorem breakEnd : Statement .breakEnd := fits _

end Payload

end Sys2Proof.Laws
end

