-- ==== Sys2Proof/Tests/Slice0.lean ====
section
/-! SUPPORT. The model's own tests: what WellFormed refuses, small steps against the figures the manual prints, and for
every statement with hypotheses a state and operands that meet them. -/

namespace Sys2Proof.Tests

open Sys2Proof.Machine

/-! ## States to start from -/

/-- The part out of cold reset with the board off. -/
def awake : State :=
  { State.reset with held := false, clockMs := 4995000, keypad := { State.reset.keypad with scans := 1 } }

/-- Every block's kept power state and the sequencer's at a state. -/
def State.inPower (st : PowerState) (ph : Option Phase) (s : State) : State :=
  { s with
    power := { s.power with state := st, phase := ph }
    heat := { s.heat with kept := st }
    thermal := { s.thermal with kept := st }
    keypad := { s.keypad with kept := st }
    matcher := { s.matcher with kept := st }
    mgmt := { s.mgmt with kept := st } }

/-- A timer started at 4,995 s. -/
def from4995 (dur : Nat) : Timer := { start := 4995000, dur := dur }

/-- The mains-return record (R56, R74). -/
def firstRecord : LogRecord :=
  { seq := 2, uptime := 0, cause := .mainsReturn, stateLeft := .off, hot := none, slot := none, listLen := 0 }

/-- RUNNING since a heartbeat at uptime 4,995 s, the newest log record number 2 (chapter 5, the watchdog sequence); the
display path OPEN, the link ready. -/
def running : State :=
  { State.inPower .running none awake with
    power :=
      { awake.power with
        state := .running, pgSeen := true, pgLevel := true, boardPower := true, resetAsserted := false
        log := [firstRecord], nextSeq := 3 }
    live :=
      { Liveness.cold with
        stage := .watching, outcome := .heard, last := some 4995000, hbTimer := some (from4995 5000) }
    sys := { awake.sys with rx := .idle, isLive := true, hostReady := true }
    disp := { awake.disp with rx := .idle }
    path :=
      { DisplayPath.cold with
        state := .opened, power := true, silenceTimer := some (from4995 5000)
        idleTimer := some (from4995 480000) } }

/-- The sequencer in a state and phase with a timer, the board unpowered. -/
def unpowered (st : PowerState) (ph : Option Phase) (t : Option Timer) : State :=
  { State.inPower st ph awake with power := { awake.power with state := st, phase := ph, timer := t } }

/-- Board power on, in a state and phase with a timer; board reset asserted outside BOOT_WAIT. -/
def powered (st : PowerState) (ph : Option Phase) (t : Option Timer) (asserted seen : Bool) : State :=
  { State.inPower st ph running with
    power :=
      { running.power with
        state := st, phase := ph, timer := t, resetAsserted := asserted, pgSeen := seen, pgLevel := seen }
    live := Liveness.cold
    sys := { running.sys with isLive := !asserted } }

/-- BOOT_WAIT of STARTING, the boot timer due at 5,115 s. -/
def booting : State :=
  { powered .starting (some .bootWait) none false true with
    live := { Liveness.cold with stage := .bootWait, bootTimer := some (from4995 120000) } }

/-- SHUTDOWN bound for HOT_OFF. -/
def shuttingDown : State :=
  let s := powered .shutdown none (some (from4995 30000)) false true
  { s with power := { s.power with dest := some .hotOff } }

/-- The display path of a running board in a state, with its timers. -/
def displayIn (st : PathState) (wait start silence idle : Option Timer) : State :=
  { running with
    path :=
      { running.path with
        state := st, power := decide (st = .starting) || st.flows
        waitTimer := wait, startTimer := start, silenceTimer := silence, idleTimer := idle } }

/-- A VALID sample. -/
def valid (v : Int) : Sample := { raw := some 1500, value := some v, state := .valid, faults := 0 }

/-- The last conversion of a cycle is due, with these samples of channels 0 to 6. -/
def lastOf (samples : Vector Sample 8) (s : State) : State :=
  { s with meas := { s.meas with samples := samples, next := some 7 } }

/-- A parameter change. -/
def tuned (f : Params → Params) (s : State) : State :=
  { s with tables := { s.tables with params := f s.tables.params } }

/-- The state a command leaves. -/
def after (c : Instr) (s : State) : State :=
  match exec c s with
  | .next t => t
  | _ => s

/-- A reply held in the slot: its command, tag, status and data. -/
def replyOf (s : State) : Option (Byte × Byte × Status × List Byte) :=
  match s.sys.slot with
  | .held r => some (r.command, r.tag, r.status, r.data)
  | _ => none

/-! ## WellFormed refuses what cannot be sent -/

theorem test_wf_reserved_class_0 : (Instr.reservedFrame .system 0 []).wf = false := by decide
theorem test_wf_reserved_class_8 : (Instr.reservedFrame .display 8 []).wf = false := by decide
theorem test_wf_reserved_payload_49 : (Instr.reservedFrame .system 4 (List.replicate 49 0)).wf = false := by decide
theorem test_wf_loadable_system_class_7 : (Instr.loadableSystemFrame 7 []).wf = false := by decide
theorem test_wf_loadable_system_payload_49 :
    (Instr.loadableSystemFrame 8 (List.replicate 49 0)).wf = false := by decide
theorem test_wf_loadable_display_class_7 : (Instr.loadableDisplayFrame 7 []).wf = false := by decide
theorem test_wf_loadable_display_payload_49 :
    (Instr.loadableDisplayFrame 63 (List.replicate 49 0)).wf = false := by decide
theorem test_wf_display_management_payload_49 :
    (Instr.displayManagementFrame (List.replicate 49 0)).wf = false := by decide
theorem test_wf_unknown_payload_49 : (Instr.unknownCommand (0 :: List.replicate 48 0)).wf = false := by decide
theorem test_wf_unknown_spelled_by_a_row :
    (Instr.unknownCommand [1, 0]).wf = false ∧ (Instr.unknownCommand [5, 0, 6]).wf = false ∧
    (Instr.unknownCommand [9, 0, 2]).wf = false ∧ (Instr.unknownCommand [10, 0, 0]).wf = false ∧
    (Instr.unknownCommand [11, 0, 3, 1]).wf = false := by decide
theorem test_wf_unknown_spelled_by_no_row :
    (Instr.unknownCommand []).wf = true ∧ (Instr.unknownCommand [1]).wf = true ∧
    (Instr.unknownCommand [14, 0]).wf = true ∧ (Instr.unknownCommand [5, 0, 7]).wf = true ∧
    (Instr.unknownCommand [11, 0, 3, 2]).wf = true := by decide
theorem test_wf_arguments_over_48 :
    (Instr.getStatus 0 (List.replicate 47 0)).wf = false ∧ (Instr.setEntryClass 0 (List.replicate 46 0)).wf = false ∧
    (Instr.forceSampleSet 0 0 (List.replicate 45 0)).wf = false := by decide
theorem test_wf_arguments_of_48 :
    (Instr.getStatus 0 (List.replicate 46 0)).wf = true ∧ (Instr.setEntryClass 0 (List.replicate 45 0)).wf = true ∧
    (Instr.forceSampleSet 0 0 (List.replicate 44 0)).wf = true := by decide

/-- The return of a line carries no character. -/
theorem test_wf_returned_line :
    (Instr.receiveCharacter .display 1 false .returned).wf = false ∧
    (Instr.receiveCharacter .display 0 true .returned).wf = false ∧
    (Instr.receiveCharacter .display 0 false .returned).wf = true ∧
    (Instr.receiveCharacter .display 1 true .zero).wf = true := by decide

/-- No row of the table has a bit, so no word spells a command. -/
theorem test_no_word_spells_a_command : decodeTableWord 32 0 = none := by decide

/-! ## Resets -/

/-- The part-reset input while the board runs (R53, R178). -/
theorem test_cold_reset :
    let t := after (.coldReset .partResetInput) { running with store := { StoreImage.blank with crcOk := true }
                                                               mgmt := { running.mgmt with commit := .inProgress } }
    t.held = true ∧ t.power.boardPower = false ∧ t.power.resetAsserted = true ∧ t.path.power = false ∧
      t.store.crcOk = false := by decide

/-- The cold start after mains return: PREHEAT, record 0 MAINS_RETURN of OFF, list 0, HOT absent (chapter 4). -/
theorem test_cold_reset_release :
    let t := after .coldResetRelease State.reset
    t.held = false ∧ t.power.state = .preheat ∧ t.power.timer = some { start := 0, dur := 1800000 } ∧
      t.power.log = [{ seq := 0, uptime := 0, cause := .mainsReturn, stateLeft := .off, hot := none, slot := none,
                       listLen := 0 }] := by decide

/-- An image that is not accepted sets PROFILE_DEFAULTED (R177). -/
theorem test_release_defaulted : (after .coldResetRelease State.reset).mgmt.sticky = 1#16 := by decide

/-- An accepted image's numbers out of range are loaded at the nearest limit: a last index of 200 as 7 and an
injection's class of 200 as 63 (R3, R166, R177). -/
theorem test_release_nearest_limits :
    let image := Tables.default.image
    let t := after .coldResetRelease { State.reset with
      store := { version := 1, crcOk := true, unknownEnum := false
                 tables := { image with params := image.params.set 2 200, dim := { image.dim with cls := 200 } } } }
    (t.params.lastIndex, t.tables.dim.cls, t.mgmt.sticky) = (7, 63, 0) := by decide +kernel

/-! ## Measurement -/

/-- The narrowed range 0 to 5: channels 6 and 7 become STALE, their values kept (chapter 1). -/
theorem test_cycle_start_narrowed :
    let t := after .cycleStart (tuned (fun p => { p with lastIndex := 5 })
      { running with meas := { running.meas with samples := Vector.replicate 8 (valid 42) } })
    t.meas.samples[5].state = .valid ∧ t.meas.samples[6].state = .stale ∧ t.meas.samples[7].state = .stale ∧
      t.meas.samples[6].value = some 42 ∧ t.meas.next = some 0 := by decide

/-- Channel 0 under conversion with a record. -/
def converting (r : Sample) : State :=
  { running with meas := { running.meas with samples := running.meas.samples.set 0 r, next := some 0 } }

/-- The worked calibration figures with slope 220 and offset −280 (chapter 1). -/
theorem test_conversion_calibrates :
    ([1500, 1380, 1270, 128, 184, 183, 4079].map (fun code =>
      let r := (after (.conversionComplete code) (converting Sample.blank)).meas.samples[0]
      (r.value, r.state))) =
    [(some 42, .valid), (some 16, .valid), (some (-7), .valid), (some (-240), .clamped), (some (-240), .valid),
     (some (-240), .clamped), (some 596, .valid)] := by decide

/-- The failing board sensor, cycles 2 and 4: SUSPECT with count 1, then FAULT with count 3 and SENSOR_FAULT, the value
kept (chapter 1). -/
theorem test_conversion_fault :
    let t := after (.conversionComplete 4090) (converting (valid 42))
    let u := after (.conversionComplete 4095) (converting { valid 42 with state := .suspect, faults := 2 })
    (t.meas.samples[0].value, t.meas.samples[0].state, t.meas.samples[0].faults, t.mgmt.hasFlag .sensorFault) =
      (some 42, .suspect, 1, false) ∧
    (u.meas.samples[0].value, u.meas.samples[0].state, u.meas.samples[0].faults, u.mgmt.hasFlag .sensorFault) =
      (some 42, .fault, 3, true) := by decide

/-! ## Heating and thermal limits -/

/-- BOARD at 30 q and 250 q requests 0, hot being at its cut-off; DISPLAY's channels blind it and it requests the
fallback duty of 4; FRONT at 19 q of Thold 20 requests 1 (chapter 2). -/
theorem test_cycle_complete_duty :
    let t := after (.conversionComplete 2050) (lastOf #v[valid 30, valid 250, Sample.blank, Sample.blank, valid 19,
      valid 100, valid 450, Sample.blank] running)
    (t.heat.zones.board.request, t.heat.zones.display.request, t.heat.zones.front.request,
      t.heat.zones.display.blind) = (0, 4, 1, true) := by decide

/-- The summer afternoon's event 7: the third count at 352 q requests the shutdown; SHUTDOWN bound for HOT_OFF with a
grace of 30 s (chapter 3). -/
theorem test_cycle_complete_shutdown :
    let s := lastOf #v[valid 352, valid 352, valid 60, valid 60, valid 20, valid 100, valid 450, Sample.blank] running
    let t := after (.conversionComplete 2050)
      { s with thermal := { s.thermal with warn := true, shutdownCount := 2 } }
    (t.power.state, t.power.dest, t.power.timer, t.thermal.shutdownCount) =
      (.shutdown, some .hotOff, some (from4995 30000), 3) := by decide

/-- The heater with requests and default powers and priorities. -/
def requesting (display board front : Nat) : Heat :=
  let h := { running.heat with brownout := false }
  { h with zones :=
      { board := { h.zones.board with request := board }
        display := { h.zones.display with request := display }
        front := { h.zones.front with request := front } } }

/-- The grants of BOARD, DISPLAY and FRONT and what is left of A8. -/
def sharedOut (h : Heat) : Nat × Nat × Nat × Nat :=
  let a := h.allocate Params.default
  (a.zones.board.grant, a.zones.display.grant, a.zones.front.grant, a.a8)

/-- The worked allocations: with the reserve held, in PREHEAT, and in brownout with the reserve held (chapter 2). -/
theorem test_allocation_figures :
    sharedOut { requesting 8 6 3 with reserveHeld := true } = (5, 8, 0, 10) ∧
    sharedOut (requesting 8 6 3) = (6, 8, 3, 415) ∧
    sharedOut { requesting 8 6 3 with reserveHeld := true, brownout := true } = (0, 0, 0, 0) := by decide

/-- The worked heater slots: off as slot 5 begins with an active grant of 5, and the grant of 6 taken at the period
start (chapter 2). -/
theorem test_heater_slots :
    let at_ (n : Fin 8) : State :=
      { running with heat := { running.heat with
          slot := n, zones := { running.heat.zones with
            board := { running.heat.zones.board with grant := 6, active := 5, output := true } } } }
    let t := after .heaterSlotStart (at_ 4)
    let u := after .heaterSlotStart (at_ 7)
    (t.heat.zones.board.active, t.heat.zones.board.output) = (5, false) ∧
    (u.heat.slot, u.heat.zones.board.active, u.heat.zones.board.output) = (0, 6, true) := by decide

/-! ## Power and liveness -/

/-- "Reserve granted": POWER_WAIT, board power on, reset asserted (chapter 4). -/
theorem test_reserve_granted :
    let t := after .reserveGranted (unpowered .starting (some .reserve) none)
    (t.power.phase, t.power.boardPower, t.power.resetAsserted, t.path.state) =
      (some .powerWait, true, true, .waitWarm) := by decide

/-- The preheat limit with BOARD blind: STARTING with a DEGRADED_START record (chapter 4). -/
theorem test_preheat_limit :
    let t := after .preheatLimitExpiry (unpowered .preheat none (some (from4995 1800000)))
    (t.power.state, t.power.phase, t.power.log.map LogRecord.cause, t.clockMs) =
      (.starting, some .reserve, [.degradedStart], 6795000) := by decide

/-- Power-good true in POWER_WAIT: SETTLE for 96 ms; power lost while running: CYCLING with POWER_LOST (R60, R64). -/
theorem test_power_good_change :
    let t := after (.powerGoodChange true) (powered .starting (some .powerWait) (some (from4995 1000)) true false)
    let u := after (.powerGoodChange false) running
    (t.power.phase, t.power.timer) = (some .settle, some (from4995 96)) ∧
    (u.power.state, u.power.log.head?.map LogRecord.cause) = (.cycling, some .powerLost) := by decide

/-- The power-good limit: CYCLING with POWER_GOOD_TIMEOUT (R60). -/
theorem test_power_good_timeout :
    let t := after .powerGoodTimeout (powered .starting (some .powerWait) (some (from4995 1000)) true false)
    (t.power.state, t.power.log.head?.map LogRecord.cause, t.power.boardPower) =
      (.cycling, some .powerGoodTimeout, false) := by decide

/-- The settle expiry: reset released, BOOT_WAIT, the boot timer (R61). -/
theorem test_settle_expiry :
    let t := after .settleExpiry (powered .starting (some .settle) (some (from4995 96)) true true)
    (t.power.phase, t.power.resetAsserted, t.sys.isLive, t.live.bootTimer) =
      (some .bootWait, false, true, some { start := 4995096, dur := 120000 }) := by decide

/-- The watchdog sequence at 5,010.2: BOOT_WAIT of RESTARTING, the boot timer due at 5,130.2 (chapter 5). -/
theorem test_reset_pulse_expiry :
    let t := after .resetPulseExpiry
      (powered .restarting (some .pulse) (some { start := 5010000, dur := 200 }) true true)
    (t.power.state, t.power.phase, t.live.stage, t.live.bootTimer) =
      (.restarting, some .bootWait, .bootWait, some { start := 5010200, dur := 120000 }) := by decide

/-- The escalation at 5,382: the list of 3 is full, and SERVICE_HOLD is entered with two records (chapter 4). -/
theorem test_boot_timeout_holds :
    let t := after .bootTimeout { booting with
      power := { booting.power with restartList := [5010, 5130, 5256], nextSeq := 6 }
      live := { booting.live with bootTimer := some { start := 5262000, dur := 120000 } } }
    (t.power.state, t.power.restartList, (t.power.log.take 2).map (fun r => (r.seq, r.cause, r.listLen))) =
      (.serviceHold, [5010, 5130, 5256], [(7, .serviceHoldEntered, 3), (6, .bootTimeout, 3)]) := by decide

/-- The thermal grace ends in HOT_OFF with board power off (R68). -/
theorem test_shutdown_grace_expiry :
    let t := after .shutdownGraceExpiry shuttingDown
    (t.power.state, t.power.boardPower, t.power.resetAsserted, t.path.state, t.clockMs) =
      (.hotOff, false, true, .off, 5025000) := by decide

/-- The off-time ends in PREHEAT, with no record (R71). -/
theorem test_off_time_expiry :
    let t := after .offTimeExpiry (unpowered .cycling none (some (from4995 5000)))
    (t.power.state, t.power.log) = (.preheat, []) := by decide

/-- The watchdog sequence at 5,000.0: WARNED, grace due 5,010.0, WATCHDOG_WARN (50, 10 s, 0) (chapter 5). -/
theorem test_heartbeat_timer_expiry :
    let t := after .heartbeatTimerExpiry running
    (t.live.stage, t.live.graceTimer, t.mgmt.queue.map Notice.content) =
      (.warned, some { start := 5000000, dur := 10000 }, [.watchdogWarn 50 10 0]) := by decide

/-- The watchdog sequence at 5,010.0: RESTARTING, PULSE, record 3 WATCHDOG of RUNNING, list 1 (chapter 5). -/
theorem test_grace_timer_expiry :
    let t := after .graceTimerExpiry { running with
      live := { running.live with
        stage := .warned, hbTimer := none, graceTimer := some { start := 5000000, dur := 10000 } } }
    (t.power.phase, t.power.restartList, t.power.log.head?) =
      (some .pulse, [5010],
        some { seq := 3, uptime := 5010, cause := .watchdog, stateLeft := .running, hot := none, slot := none,
               listLen := 1 }) := by decide

/-! ## The panel link -/

/-- A marked 64 is a HEADER error and a marked 63 begins a frame (R129). -/
theorem test_receive_character_header :
    let t := after (.receiveCharacter .system 64 true .one) running
    let u := after (.receiveCharacter .system 63 true .one) running
    (t.sys.rx, t.sys.errors.header) = (.discard, 1) ∧ (u.sys.rx, u.sys.errors.header) = (.length 63, 0) := by decide

/-- A wrong CRC is counted (R129); the CRC-8 of x⁸ + x² + x + 1 of the header 4 and length 0 is 54 hexadecimal. -/
theorem test_receive_character_crc :
    let s := { running with sys := { running.sys with rx := .check 4 [] } }
    (after (.receiveCharacter .system 0x54 false .one) s).switch.passed[4] = 1 ∧
    (after (.receiveCharacter .system 0x55 false .one) s).sys.errors.crc = 1 := by decide +kernel

/-- A character whose bits are all 0 is not judged at its stop bit: a break that follows counts alone, and the line's
return makes it FRAMING (R129, R130). -/
theorem test_all_zero_character :
    let s := after (.receiveCharacter .system 0 false .zero) running
    (s.sys.errors, s.sys.rx, s.sys.lineLow) = (PortErrors.zero, .idle, true) ∧
    ((after (.lineBreak .system) s).sys.errors.lineBreak, (after (.lineBreak .system) s).sys.errors.framing) = (1, 0) ∧
    ((after .breakEnd s).sys.errors.framing, (after .breakEnd s).sys.rx) = (1, .discard) := by decide

/-- On the display port a character whose bits are all 0 is FRAMING when its line returns to 1 (R129, R130). -/
theorem test_display_line_returns :
    let s := after (.receiveCharacter .display 0 false .zero) running
    let t := after (.receiveCharacter .display 0 false .returned) s
    (s.disp.errors.framing, s.disp.badRun, s.disp.rx) = (0, 0, .idle) ∧
    (t.disp.errors.framing, t.disp.badRun, t.disp.rx, t.disp.lineLow) = (1, 1, .discard, false) := by decide

/-- However long a break lasts it is counted once, and each new break anew (R130). -/
theorem test_display_breaks :
    let s := after (.lineBreak .display) (after (.lineBreak .display) running)
    let t := after (.lineBreak .display) (after (.receiveCharacter .display 0 false .returned) s)
    (s.disp.errors.lineBreak, s.disp.badRun) = (1, 1) ∧ (t.disp.errors.lineBreak, t.disp.badRun) = (2, 2) := by decide

/-- The bits of a marked character with data 0D hexadecimal: start, the data least significant bit first, mark, stop
(R126). -/
theorem test_character_bits :
    characterBits 0x0D true = [false, true, false, true, true, false, false, false, false, true, true] := by decide

/-- The break during a reply: the slot EMPTY, DISCARD, BREAK +1, LINK_RESET; the notice stays (chapter 8). -/
theorem test_line_break :
    let r : Reply := { command := 8, tag := 0, status := .ok, data := [] }
    let t := after (.lineBreak .system) { running with
      sys := { running.sys with slot := .sending r, tx := some { content := .reply r, rate := 115200 } }
      mgmt := { running.mgmt with queue := [{ seq := 0, content := .watchdogWarn 50 10 0 }] } }
    (t.sys.slot, t.sys.rx, t.sys.tx, t.sys.errors.lineBreak, t.mgmt.hasFlag .linkReset, t.mgmt.queue.length) =
      (.empty, .discard, none, 1, true, 1) := by decide

/-- The line returns to 1 (R138). -/
theorem test_break_end :
    (after .breakEnd { running with sys := { running.sys with breakOn := true } }).sys.breakOn = false := by decide

/-- Host-ready is a level (R134), followed also while the part is held. -/
theorem test_host_ready_change : (after (.hostReadyChange true) State.reset).sys.hostReady = true := by decide

/-- A notice, three key events and a forwarded frame wait: the notice is first (chapter 8). -/
theorem test_system_tx_begin :
    let n : Notice := { seq := 7, content := .keyStuck 3 3 false }
    let t := after .systemTxBegin { running with
      mgmt := { running.mgmt with queue := [n] }
      sys := { running.sys with fwd := [{ cls := 40, payload := [] }] } }
    (t.sys.tx.map SysTx.content, t.mgmt.queue, t.sys.fwd.length) = (some (.notice n), [], 1) := by decide

/-- The example of chapter 12, section 12.8: PRESS of code 5 at 1,000 and REPEAT of code 5 at 1,500 are a class-3 frame
of 8 characters. -/
theorem test_key_event_frame :
    (SysContent.keys [{ key := 5, code := 5, kind := .press, time := 1000 },
      { key := 5, code := 5, kind := .autoRepeat, time := 1500 }]).frame =
    { cls := 3, payload := [5, 0, 0xE8, 0x03, 5, 2, 0xDC, 0x05] } := by decide

/-- A sent reply leaves the slot EMPTY (R135). -/
theorem test_system_frame_sent :
    let r : Reply := { command := 2, tag := 0, status := .ok, data := [] }
    let t := after .systemFrameSent { running with
      sys := { running.sys with slot := .sending r, tx := some { content := .reply r, rate := 115200 } } }
    (t.sys.slot, t.sys.tx) = (.empty, none) := by decide

/-! ## Frames and the display path -/

/-- An early heartbeat at 2,600 after one at 2,000 with hb_min 10: count 1 and EARLY_HEARTBEAT; at 3,000 accepted
(chapter 5). -/
theorem test_heartbeat_frame :
    let s (at_ : Nat) := tuned (fun p => { p with hbMin := 10 }) { running with clockMs := 4995000 + at_ }
    let t := after (.reservedFrame .system 4 []) (s 600)
    let u := after (.reservedFrame .system 4 []) (s 1000)
    (t.live.early, t.mgmt.hasFlag .earlyHeartbeat, t.live.last) = (1, true, some 4995000) ∧
    (u.live.early, u.live.last, u.live.hbTimer) = (0, some 4996000, some { start := 4996000, dur := 5000 }) := by
  decide

/-- "Display ready" in STARTING opens the path and the oldest frame begins (chapter 10, the display start). -/
theorem test_display_ready_frame :
    let s := displayIn .starting none (some (from4995 10000)) none none
    let f (c : Fin 64) : QueuedFrame := { cls := c, payload := [], coalesce := false }
    let t := after (.reservedFrame .display 5 []) { s with path := { s.path with queue := [f 12, f 30] } }
    (t.path.state, t.path.queue, t.disp.tx.map DispTx.frame, t.switch.passed[5]) =
      (.opened, [f 30], some (f 12), 1) := by decide

/-- The classes of chapter 9's display start. -/
def startClasses : Vector ClassEntry 56 :=
  let e := ClassEntry.default
  let a := (Vector.replicate 56 e).set 4 { e with activity := false, coalesce := true }
  let b := a.set 12 { e with direction := .toDisplay, action := .liveOnly, maxLength := 24 }
  b.set 1 { e with direction := .toDisplay, action := .drop, heartbeat := true, activity := false, maxLength := 0 }

/-- Events 1 and 2: in WAIT_WARM the HOLD frame of class 12 is TAKEN and the LIVE_ONLY frame of class 20 REFUSED
(chapter 9). -/
theorem test_loadable_system_frame :
    let s := displayIn .waitWarm (some (from4995 1200000)) none none none
    let s := { s with tables := { s.tables with classes := startClasses } }
    let t := after (.loadableSystemFrame 12 (List.replicate 6 0)) s
    let u := after (.loadableSystemFrame 20 (List.replicate 8 0)) s
    (t.path.queue.length, t.switch.passed[12], t.switch.dropped[12]) = (1, 1, 0) ∧
    (u.path.queue.length, u.switch.passed[20], u.switch.dropped[20]) = (0, 0, 1) := by decide

/-- The touch on a dimmed panel, event 2: it wakes the path and is swallowed (chapter 9). -/
theorem test_loadable_display_frame :
    let s := displayIn .dimmed none none (some (from4995 5000)) none
    let t := after (.loadableDisplayFrame 40 (List.replicate 6 0)) s
    (t.path.state, t.sys.fwd, t.switch.dropped[40]) = (.opened, [], 1) := by decide

/-- A class-0 frame from the display is dropped (R140). -/
theorem test_display_management_frame :
    (after (.displayManagementFrame [1, 0, 0]) running).switch.dropped[0] = 1 := by decide

/-- 12b ends, and 30 begins (chapter 10, the display start). -/
theorem test_display_frame_sent :
    let f (c : Fin 64) : QueuedFrame := { cls := c, payload := [], coalesce := false }
    let t := after .displayFrameSent { running with
      disp := { running.disp with tx := some { frame := f 12, rate := 115200 } }
      path := { running.path with queue := [f 30] } }
    (t.disp.tx.map DispTx.frame, t.path.queue) = (some (f 30), []) := by decide

/-- The wait limit with DISPLAY blind: STARTING with display power (R155, R156). -/
theorem test_wait_limit_expiry :
    let t := after .waitLimitExpiry (displayIn .waitWarm (some (from4995 1200000)) none none none)
    (t.path.state, t.path.power, t.path.startTimer) =
      (.starting, true, some { start := 6195000, dur := 10000 }) := by decide

/-- The start timer's expiry: RECOVERING with retry count 1, the queue kept (chapter 10, the display start). -/
theorem test_start_timer_expiry :
    let s := displayIn .starting none (some (from4995 10000)) none none
    let t := after .startTimerExpiry
      { s with path := { s.path with queue := [{ cls := 30, payload := [], coalesce := false }] } }
    (t.path.state, t.path.power, t.path.retry, t.path.queue.length) = (.recovering, false, 1, 1) := by decide

/-- Silence in OPEN with retry count 1: RECOVERING, DISPLAY_FAULT (SILENCE) with the retry count 2 (chapter 10, the
display start; R157). -/
theorem test_silence_timer_expiry :
    let s := { running with path := { running.path with retry := 1 } }
    let t := after .silenceTimerExpiry s
    (t.path.state, t.path.retry, t.mgmt.queue.map Notice.content, t.mgmt.hasFlag .displayAbsent) =
      (.recovering, 2, [.displayFault .silence 2 3], true) := by decide

/-- The recovery off-time ends in STARTING (R158). -/
theorem test_recovery_off_time_expiry :
    let t := after .recoveryOffTimeExpiry (displayIn .recovering none (some (from4995 2000)) none none)
    (t.path.state, t.path.power) = (.starting, true) := by decide

/-- The idle period ends in DIMMED (R162). -/
theorem test_idle_timer_expiry :
    let t := after .idleTimerExpiry running
    (t.path.state, t.path.idleTimer, t.clockMs) = (.dimmed, none, 5475000) := by decide

/-! ## The keypad, the sequences and the beeper -/

/-- Keys in a state at the threshold of debouncing. -/
def pressedKeys (down : List (Fin 64)) : Vector KeyRec 64 :=
  Vector.ofFn (fun i => { count := 4, state := if i ∈ down then .down else .up, entry := 0, code := 0 })

/-- The ghost rectangle at scan 1,240: 34 is DOWN and queued, 37 is BLOCKED and GHOST reported (chapter 6). -/
theorem test_scan_ghost :
    let reading := BitVec.twoPow 64 10 ||| BitVec.twoPow 64 13 ||| BitVec.twoPow 64 34 ||| BitVec.twoPow 64 37
    let t := after (.scan reading) { running with
      keypad := { running.keypad with keys := pressedKeys [10, 13], scans := 310 } }
    (t.keypad.keys[34].state, t.keypad.keys[37].state, t.keypad.queue.map (fun e => (e.key, e.time)),
      t.mgmt.hasFlag .ghost) = (.down, .blocked, [(34, 1240)], true) := by decide +kernel

/-- A key held in the first scan after cold reset: counted as R95 reads, or not, so that its press comes D scans later
(R113). -/
theorem test_first_scan :
    ((after .coldResetRelease State.reset).keypad.debounceAll 5 (BitVec.twoPow 64 5)).keys[(5 : Fin 64)].count =
      if Config.firstScanCounts then 1 else 0 := by
  delta Keypad.debounceAll Keypad.scanCounts
  generalize Config.firstScanCounts = b
  cases b <;> decide +kernel

/-- A press of key 56 in SERVICE_HOLD advances slot 0 to progress 1, its step timer 2,000 ms (chapter 7). -/
theorem test_scan_matches :
    let s := unpowered .serviceHold none none
    let t := after (.scan (BitVec.twoPow 64 56)) { s with keypad := { s.keypad with keys := pressedKeys [] } }
    (t.matcher.slots[0].progress, t.matcher.slots[0].stepTimer, t.keypad.queue) =
      (1, some (from4995 2000), []) := by decide +kernel

/-- A step timer's expiry sets progress to 0 (R119). -/
theorem test_step_timer_expiry :
    let p : SlotProgress := { progress := 2, holding := none, stepTimer := some (from4995 2000), holdTimer := none }
    let t := after (.stepTimerExpiry 0) { running with
      matcher := { running.matcher with slots := running.matcher.slots.set 0 p } }
    t.matcher.slots[0] = SlotProgress.clear ∧ t.clockMs = 4997000 := by decide

/-- The service release at 6,500: ACCEPT, the list emptied, PREHEAT, record SERVICE_RELEASED with list 0 (chapters 4
and 7). -/
theorem test_hold_timer_expiry :
    let s := unpowered .serviceHold none none
    let p : SlotProgress := { progress := 4, holding := some 63, stepTimer := none, holdTimer := some (from4995 3000) }
    let t := after (.holdTimerExpiry 0) { s with
      power := { s.power with restartList := [5010, 5130, 5256], nextSeq := 8 }
      matcher := { s.matcher with slots := s.matcher.slots.set 0 p } }
    (t.power.state, t.power.restartList, t.beeper.oneShot.map OneShotPlay.pattern) = (.preheat, [], some .accept) ∧
      t.power.log.head?.map (fun r => (r.seq, r.cause, r.stateLeft, r.listLen)) =
        some (8, .serviceReleased, .serviceHold, 0) := by decide

/-- REFUSE's first tone ends 60 ms after it began (chapter 7, the sounds in HOT_OFF). -/
theorem test_beeper_segment_end :
    let t := after .beeperSegmentEnd { running with
      beeper := { Beeper.cold with oneShot := some { pattern := .refuse, start := 4995000, seg := 0 } } }
    (t.beeper.output, t.clockMs) = (false, 4995060) := by decide

/-- REFUSE ends 180 ms after it began, the HOT background silenced until its next period (chapter 7). -/
theorem test_one_shot_end :
    let t := after .oneShotEnd { running with
      beeper :=
        { oneShot := some { pattern := .refuse, start := 4995000, seg := 2 }
          background := some { pattern := .hot, start := 4994800, seg := 0 }, silenced := true } }
    (t.beeper.oneShot, t.beeper.output, t.clockMs) = (none, false, 4995180) := by decide

/-- The next HOT period begins 4 s after the one before, on (chapter 7). -/
theorem test_background_period_start :
    let t := after .backgroundPeriodStart { running with
      beeper := { oneShot := none, background := some { pattern := .hot, start := 4994800, seg := 1 }
                  silenced := true } }
    (t.beeper.output, t.clockMs) = (true, 4998800) := by decide

/-! ## Management -/

/-- The commit's end (chapter 11, commit, then reset). -/
theorem test_commit_end :
    let s := { running with mgmt := { running.mgmt with commit := .inProgress } }
    (after (.commitEnd true) s).mgmt.commit = .done ∧ (after (.commitEnd false) s).mgmt.commit = .failed ∧
      (after (.commitEnd false) s).mgmt.hasFlag .commitFailed = true := by decide

/-- An unknown command and a payload of one character (R169). -/
theorem test_unknown_command :
    replyOf (after (.unknownCommand [14, 9]) running) = some (14, 9, .badCommand, []) ∧
    replyOf (after (.unknownCommand [1]) running) = some (1, 0, .badLength, []) := by decide

/-- GET_STATUS: state RUNNING, phase none, destination none first (chapter 12, section 12.4). -/
theorem test_get_status :
    (replyOf (after (.getStatus 9 [0]) running)).map (fun r => (r.1, r.2.1, r.2.2.1, r.2.2.2.take 3)) =
      some (1, 9, .ok, [3, 0, 0]) := by decide

/-- GET_ZONES takes no argument (R169). -/
theorem test_get_zones :
    (replyOf (after (.getZones 11 []) running)).map (fun r => r.2.2.1) = some .ok ∧
    (replyOf (after (.getZones 11 [0]) running)).map (fun r => r.2.2.1) = some .badLength := by decide

/-- GET_SAMPLES of eight records (R13). -/
theorem test_get_samples :
    (replyOf (after (.getSamples 1 []) running)).map (fun r => r.2.2.1) = some .ok := by decide

/-- GET_ENTRY of channel 6: slope 150, offset 0 (R1, R172). -/
theorem test_get_entry :
    replyOf (after (.getEntry 1 [4, 6]) running) = some (4, 1, .ok, [150, 0, 0, 0]) := by decide

/-- SET_ENTRY KEYMAP during a commit is BUSY (chapter 11, commit, then reset). -/
theorem test_set_entry_busy :
    replyOf (after (.setEntryKeymap 8 [6, 1, 0, 0])
      { running with mgmt := { running.mgmt with commit := .inProgress } }) = some (5, 8, .busy, []) := by decide

/-- A minimum length above the maximum raises it (R142). -/
theorem test_set_entry_class :
    let t := after (.setEntryClass 1 [12, 3, 0, 4, 10, 4]) running
    (t.tables.classes[4].minLength, t.tables.classes[4].maxLength, t.tables.classes[4].coalesce) = (10, 10, true) := by
  decide

/-- SET_ENTRY KEYMAP stores an entry (R101). -/
theorem test_set_entry_keymap :
    (after (.setEntryKeymap 1 [5, 200, 2, 1]) running).tables.keymap[5] =
      { code := 200, kind := .disabled, repeats := true, click := false } := by decide

/-- SET_ENTRY SEQUENCE stores a slot, its hold at most 100 (R115). -/
theorem test_set_entry_sequence :
    (after (.setEntrySequence 1 [3, 4, 8, 0, 120, 1, 56]) running).tables.sequences[3] =
      { action := .notice, mask := 8, hold := 100, steps := [56] } := by decide

/-- SET_ENTRY ZONE gives BOARD priority 0; DISPLAY, which held it, takes BOARD's 1 (R18). -/
theorem test_set_entry_zone :
    let t := after (.setEntryZone 1 (0 :: zoneBytes { defaultZones.board with priority := 0 })) running
    (t.tables.zones.board.priority, t.tables.zones.display.priority, t.tables.zones.front.priority) = (0, 1, 2) := by
  decide

/-- Channel 7 cannot be written, and a slope is taken to −8192 (R1). -/
theorem test_set_entry_channel :
    replyOf (after (.setEntryChannel 1 [7, 0, 0, 0, 0]) running) = some (5, 1, .refused, []) ∧
    (after (.setEntryChannel 1 (0 :: (s16 (-9000) ++ s16 0))) running).tables.channels[0].slope = -8192 := by decide

/-- Raising the first index above the last raises the last too; hb_max below hb_min lowers hb_min (R3, R78). -/
theorem test_set_entry_parameter :
    let p (l : List Byte) (s : State) := (after (.setEntryParameter 1 l) s).tables.params
    let low := tuned (fun p => { p with lastIndex := 3 }) running
    ((p [2, 5, 0, 0, 0] low).firstIndex, (p [2, 5, 0, 0, 0] low).lastIndex) = (5, 5) ∧
    ((p [35, 8, 0, 0, 0] (tuned (fun p => { p with hbMin := 10 }) running)).hbMax,
      (p [35, 8, 0, 0, 0] (tuned (fun p => { p with hbMin := 10 }) running)).hbMin) = (8, 7) := by decide

/-- SET_ENTRY INJECT stores an entry; a class below 8 becomes 8 (R166). -/
theorem test_set_entry_inject :
    (after (.setEntryInject 1 [1, 1, 3, 2, 7, 9]) running).tables.wake =
      { enable := true, cls := 8, payload := [7, 9] } := by decide

/-- GET_COUNTERS of a group that is not there (R171). -/
theorem test_get_counters :
    replyOf (after (.getCounters 1 [3, 0]) running) = some (6, 1, .badValue, []) := by decide

/-- CLEAR_COUNTERS (R171). -/
theorem test_clear_counters :
    (after (.clearCounters 1 []) { running with keypad := { running.keypad with lossCount := 7 } }).keypad.lossCount =
      0 := by decide

/-- GET_LOG of a record that is not there (R74). -/
theorem test_get_log :
    (replyOf (after (.getLog 1 [0]) running)).map (fun r => r.2.2.1) = some .ok ∧
    replyOf (after (.getLog 1 [1]) running) = some (8, 1, .badIndex, []) := by decide

/-- Host OFF during a thermal grace: HOT_OFF, record HOST_OFF of SHUTDOWN, the reply discarded (chapter 4). -/
theorem test_request_power_off :
    let t := after (.requestPowerOff 1 []) shuttingDown
    (t.power.state, t.power.log.head?.map (fun r => (r.cause, r.stateLeft)), t.sys.slot) =
      (.hotOff, some (.hostOff, .shutdown), .empty) := by decide

/-- RESTART pulses board reset for 200 ms (R63, R69). -/
theorem test_request_power_restart :
    let t := after (.requestPowerRestart 1 []) running
    (t.power.state, t.power.phase, t.power.timer, t.power.restartList) =
      (.restarting, some .pulse, some (from4995 200), []) := by decide

/-- CYCLE in OFF is REFUSED (R69). -/
theorem test_request_power_cycle :
    (after (.requestPowerCycle 1 []) running).power.state = .cycling ∧
    replyOf (after (.requestPowerCycle 1 []) shuttingDown) = some (9, 1, .refused, []) := by decide

/-- DIM acts in OPEN only (R165). -/
theorem test_request_display_dim :
    (after (.requestDisplayDim 1 []) running).path.state = .dimmed ∧
    replyOf (after (.requestDisplayDim 1 []) (displayIn .dimmed none none none none)) =
      some (10, 1, .refused, []) := by decide

/-- WAKE is REFUSED while heat-dim holds (R165). -/
theorem test_request_display_wake :
    let s := displayIn .dimmed none none none none
    (after (.requestDisplayWake 1 []) s).path.state = .opened ∧
    replyOf (after (.requestDisplayWake 1 []) { s with path := { s.path with heatDim := true } }) =
      some (10, 1, .refused, []) := by decide

/-- RESTART sets the retry count to 0 and recovers (R158, R165). -/
theorem test_request_display_restart :
    let s := displayIn .failed none none none none
    let t := after (.requestDisplayRestart 1 []) { s with path := { s.path with retry := 3 } }
    (t.path.state, t.path.retry) = (.recovering, 1) := by decide

/-- FORCE_SAMPLE stores a pending change; the supply's range begins at 0 (R12). -/
theorem test_force_sample_set :
    let t := after (.forceSampleSet 1 6 (s16 (-5))) running
    t.meas.changes[6] = .set 0 ∧ replyOf t = some (11, 1, .clamped, []) := by decide

/-- Channel 7 has no override (R12). -/
theorem test_force_sample_release :
    (after (.forceSampleRelease 1 3 [0, 0]) running).meas.changes[3] = .release ∧
    replyOf (after (.forceSampleRelease 1 7 [0, 0]) running) = some (11, 1, .badIndex, []) := by decide

/-- COMMIT_PROFILE, tag 7 (chapter 11, commit, then reset). -/
theorem test_commit_profile :
    let t := after (.commitProfile 7 []) running
    t.mgmt.commit = .inProgress ∧ replyOf t = some (12, 7, .ok, []) := by decide

/-- RESET_SUPERVISOR, tag 10: a soft reset is pending until its reply has been sent (chapter 11). -/
theorem test_reset_supervisor :
    let t := after (.resetSupervisor 10 []) running
    t.mgmt.pendingSoft = true ∧ replyOf t = some (13, 10, .ok, []) := by decide

/-- A request during a reply is dropped: MGMT_OVERRUN 1 and the flag (chapter 11). -/
theorem test_request_overrun :
    let t := after (.getZones 11 []) { running with
      sys := { running.sys with slot := .sending { command := 13, tag := 10, status := .ok, data := [] } } }
    (t.mgmt.overrun, t.mgmt.hasFlag .mgmtOverrun) = (1, true) := by decide

/-! ## Witnesses: every statement's hypotheses are met -/

/-- A state with one command waiting. -/
def waiting (c : Instr) (s : State) : State := { s with pending := [c] }

theorem witness_StepRunsTheFrontCommandOrTicks :
    (waiting .cycleStart running).pending = .cycleStart :: [] ∧ running.pending = [] ∧ running.held = false ∧
      State.reset.pending = [] ∧ State.reset.held = true := by decide

/-- OFF with nothing running, and a cycle in progress: no event of these rows can arise. -/
theorem witness_EveryCommandAnswersAndKeepsTheQueue :
    let s := unpowered .off none none
    let m := (converting Sample.blank).meas
    s.Ready ∧ (converting Sample.blank).Ready ∧ m.next ≠ none ∧ s.meas.next = none ∧
      (s.power.state ≠ .preheat ∧ s.power.state ≠ .starting ∧ s.power.state ≠ .restarting ∧
        s.power.state ≠ .shutdown ∧ s.power.state ≠ .cycling ∧ s.power.timer = none) ∧
      (s.live.stage ≠ .bootWait ∧ s.live.stage ≠ .watching ∧ s.live.stage ≠ .warned) ∧
      (s.path.state ≠ .waitWarm ∧ s.path.state ≠ .starting ∧ s.path.state ≠ .recovering ∧
        s.path.state ≠ .opened ∧ s.path.state ≠ .dimmed) ∧
      (s.matcher.slots[(0 : Fin 4)].stepTimer = none ∧ s.matcher.slots[(3 : Fin 4)].holdTimer = none) ∧
      s.beeper.oneShot = none ∧ s.beeper.background = none ∧ s.sys.tx = none ∧ s.disp.tx = none := by decide

theorem witness_ColdResetHoldsThePart :
    State.reset.held = true ∧ (∀ cause, Instr.cycleStart ≠ .coldReset cause) ∧
      Instr.cycleStart ≠ .coldResetRelease ∧ (∀ l, Instr.cycleStart ≠ .powerGoodChange l) ∧
      (∀ l, Instr.cycleStart ≠ .hostReadyChange l) ∧ running.mgmt.commit ≠ .inProgress ∧
      { running.mgmt with commit := .inProgress }.commit = .inProgress := by
  refine ⟨by decide, ?_, by decide, ?_, ?_, by decide, by decide⟩ <;> intro _ h <;> cases h

theorem witness_ColdResetReleaseStartsThePart :
    State.reset.held = true ∧ (after .coldResetRelease State.reset).params.mainsPolicy = .start ∧
      (after .coldResetRelease { State.reset with
        store := { version := 1, crcOk := true, unknownEnum := false, tables :=
          ({ Tables.default with params := { Params.default with mainsPolicy := .stayOff } } : Tables).image } }
        ).params.mainsPolicy = .stayOff := by decide +kernel

/-- An accepted image, the values of two parameters on its lists and the limits of two others; an image that is not
accepted; and priorities that are a permutation. -/
theorem witness_ColdResetReleaseStartsThePart_image :
    let i : StoreImage := { version := 1, crcOk := true, unknownEnum := false, tables := Tables.default.image }
    let s := { State.reset with store := i }
    s.held = true ∧ s.store.accepted = true ∧ State.reset.store.accepted = false ∧
      PrioritiesPermuted i.tables.zones ∧ acceptedValues ((0 : Fin 53).val + 1) = some [250, 500, 1000, 2000] ∧
      acceptedValues ((52 : Fin 53).val + 1) = some [0, 1] ∧
      (after .coldResetRelease s).params.limits ((2 : Fin 53).val + 1) = some (0, 7) ∧
      (after .coldResetRelease s).params.limits ((6 : Fin 53).val + 1) = some (0, 60) := by decide +kernel

/-- Changes of the channels 0 to 2: set, release of an override, release of none. -/
def changing : State :=
  { running with meas := { running.meas with
      changes := #v[.set 20, .release, .release, .none, .none, .none, .none]
      overrides := #v[none, some 5, none, none, none, none, none] } }

theorem witness_CycleStartAppliesAndMarks :
    changing.Ready ∧ changing.meas.next = none ∧ changing.meas.changes[(0 : Fin 7)] = .set 20 ∧
      changing.meas.changes[(1 : Fin 7)] = .release ∧ changing.meas.overrides[(1 : Fin 7)].isSome = true ∧
      (changing.meas.changes[(2 : Fin 7)] = .release ∧ changing.meas.overrides[(2 : Fin 7)] = none) ∧
      changing.meas.changes[(6 : Fin 7)] = .none := by decide

/-- Codes 15 and 4080 are fault codes and 16 and 4079 are not; slope 0 stores its offset, in the range or not. -/
theorem witness_ConversionUpdatesTheRecord :
    let s := converting (valid 42)
    let forced := { s with meas := { s.meas with overrides := s.meas.overrides.set 0 (some 5) } }
    let flat (o : Int) := { s with tables := { s.tables with
      channels := s.tables.channels.set 0 { slope := 0, offset := o } } }
    s.Ready ∧ s.meas.next = some (0 : Fin 7).castSucc ∧ (0 : Fin 7).val < s.meas.lastChannel.val ∧
      forced.meas.overrides[0] = some 5 ∧ s.meas.overrides[0] = none ∧ s.meas.adcFault = false ∧
      { s.meas with adcFault := true }.adcFault = true ∧ (15#12).toNat < 16 ∧ 4079 < (4080#12).toNat ∧
      16 ≤ (16#12).toNat ∧ (4079#12).toNat ≤ 4079 ∧
      (after (.conversionComplete 15) s).meas.samples[0].faults < s.params.persistence ∧
      (after (.conversionComplete 4080) (converting Sample.blank)).meas.samples[0].value = none ∧
      (after (.conversionComplete 16) (flat 600)).meas.samples[0].value = some (calibrate { slope := 0, offset := 600 } 16) ∧
      (after (.conversionComplete 4079) (flat 601)).meas.samples[0].value ≠
        some (calibrate { slope := 0, offset := 601 } 4079) := by decide

/-- The cycle's last conversion is channel 0's: the same codes and records, none of its three flags set before. -/
theorem witness_ConversionUpdatesTheRecord_last :
    let final (s : State) : State := { s with meas := { s.meas with lastChannel := 0 } }
    let s := final (converting (valid 42))
    let t := after (.conversionComplete 15) s
    let flat (o : Int) := { s with tables := { s.tables with
      channels := s.tables.channels.set 0 { slope := 0, offset := o } } }
    s.Ready ∧ s.meas.next = some (0 : Fin 7).castSucc ∧ s.meas.lastChannel.val ≤ (0 : Fin 7).val ∧
      s.mgmt.pendingSoft = false ∧
      (t.meas.samples[0].value.isSome = true ∧ t.meas.samples[0].faults < s.params.persistence) ∧
      (after (.conversionComplete 4080) (final (converting Sample.blank))).meas.samples[0].value = none ∧
      (after (.conversionComplete 16) (flat 600)).meas.samples[0].value =
        some (calibrate { slope := 0, offset := 600 } 16) ∧
      (after (.conversionComplete 4079) (flat 601)).meas.samples[0].value ≠
        some (calibrate { slope := 0, offset := 601 } 4079) ∧
      (s.mgmt.hasFlag .sensorFault, s.mgmt.hasFlag .sampleClamped, s.mgmt.hasFlag .adcFault) =
        (false, false, false) := by decide +kernel

theorem witness_CalibrationRoundsToNearest :
    (2 * (1024 * 28 - (128#12).toNat * 220 : Int)).natAbs = 1024 ∧
      ({ slope := -220, offset := 0 } : Calibration).slope < 0 ∧ (16#12).toNat ≤ (4079#12).toNat ∧
      16 ≤ (16#12).toNat ∧ (4079#12).toNat ≤ 4079 := by decide

theorem witness_ReferenceSelfCheck :
    let s := { running with meas := { running.meas with next := some 7 } }
    s.Ready ∧ s.meas.next = some 7 ∧ s.mgmt.pendingSoft = false ∧
      (after (.conversionComplete 1900) s).meas.adcFault = false ∧ 1900 ≤ (1900#12).toNat ∧ (2196#12).toNat ≤ 2196 ∧ (1899#12).toNat < 1900 ∧
      2196 < (2197#12).toNat ∧ s.meas.adcFault = false ∧
      (after (.conversionComplete 1899)
        (tuned (fun p => { p with persistence := 1 }) s)).meas.adcFault = true := by decide

/-! ### The cycle's last conversion -/

/-- The cycle's last conversion with the board channels at one value, DISPLAY's at another and the supply at a third. -/
def finalOf (board display : Int) (supply : Sample) (s : State) : State :=
  lastOf #v[valid board, valid board, valid display, valid display, valid 20, valid 100, supply, Sample.blank] s

/-- The state after it. -/
def cycled (board display : Int) (supply : Sample) (s : State) : State :=
  after (.conversionComplete 2050) (finalOf board display supply s)

/-- Cold values at Tstart 0, just below it, at Tstart − 8 and just below that; hot values at Tcut 240 and cold at Thold
40 and just below them; and a blind zone. -/
theorem witness_CycleCompleteEvaluatesTheZones :
    let s := finalOf 0 60 (valid 450) running
    let r := s.tables.zones.board
    s.Quiet ∧ s.meas.next = some 7 ∧ s.meas.lastChannel.val ≤ (7 : Fin 8).val ∧
      ([0, -1, -8, -9, 39, 40, 239, 240].map (fun v =>
        ((cycled v 60 (valid 450) running).heat.zones.board.cold,
          (cycled v 60 (valid 450) running).heat.zones.board.hot))) =
        [0, -1, -8, -9, 39, 40, 239, 240].map (fun v => (some v, some v)) ∧
      (r.tstart, r.tstart - r.hyst, r.thold, r.tcut) = (0, -8, 40, 240) ∧
      (after (.conversionComplete 2050) (lastOf (Vector.replicate 8 Sample.blank) running)).heat.zones.board.blind =
        true := by decide +kernel

/-- An evaluation that leaves the power state, one that shuts the board down with a grace and without, one that requests
the reserve, and one in HOT_OFF. -/
theorem witness_CycleCompleteEvaluatesTheZones_allocation :
    let third (s : State) : State := { s with thermal := { s.thermal with shutdownCount := 2 } }
    let noGrace := tuned (fun p => { p with shutdownGrace := 0 }) (third running)
    let preheat := unpowered .preheat none (some (from4995 1800000))
    let soaked : State :=
      { preheat with heat := { preheat.heat with zones := preheat.heat.zones.map (fun z => { z with soak := 7300 }) } }
    let state (board : Int) (s : State) : PowerState × PowerState :=
      (s.power.state, (cycled board 60 (valid 450) s).power.state)
    (∀ s ∈ [running, third running, noGrace, soaked, unpowered .hotOff none none],
      (finalOf 340 60 (valid 450) s).Quiet ∧ s.KeptRight) ∧
      state 30 running = (.running, .running) ∧ state 340 (third running) = (.running, .shutdown) ∧
      state 340 noGrace = (.running, .hotOff) ∧ state 30 soaked = (.preheat, .starting) ∧
      state 340 (unpowered .hotOff none none) = (.hotOff, .hotOff) := by decide +kernel

/-- The usable states are VALID, CLAMPED, SUSPECT and FORCED, and a zone reads its second channel unless it is NONE
(R13, R20). -/
theorem test_usable_samples :
    let r := { defaultZones.board with first := 0, second := some 1 }
    let samples : Vector Sample 8 := (Vector.replicate 8 Sample.blank |>.set 0 (valid 30)).set 1 (valid 25)
    ([SampleState.none, .valid, .clamped, .suspect, .fault, .stale, .forced].map (fun st =>
      ({ valid 5 with state := st } : Sample).usableValue)) = [none, some 5, some 5, some 5, none, none, some 5] ∧
    r.usableValues samples = [30, 25] ∧ { r with second := none }.usableValues samples = [30] := by decide

/-- The worked heater slots: a reserve allocation's 3 in slot 4 switches the output off at once, and a 5 in slot 6 waits
(chapter 2). -/
theorem test_hand_over :
    let z : ZoneState := { running.heat.zones.board with grant := 6, active := 6, output := true }
    let t := z.handOver 4 3
    let u := t.handOver 6 5
    (t.grant, t.active, t.output) = (3, 3, false) ∧ (u.grant, u.active, u.output) = (5, 3, false) := by decide

/-- Supply readings at and below the low limit 420 and the leave limit 440, with the count below and at N, and one that
is not usable. -/
theorem witness_CycleCompleteJudgesTheSupply :
    let s (brownout : Bool) (n : Nat) : State :=
      { running with heat := { running.heat with brownout := brownout, supplyCount := n } }
    (finalOf 30 60 (valid 420) (s false 0)).Quiet ∧ (finalOf 30 60 (valid 420) (s false 0)).meas.next = some 7 ∧
      (cycled 30 60 Sample.blank (s false 0)).meas.samples[6].usableValue = none ∧
      [420, 419, 440, 439].map (fun v => (cycled 30 60 (valid v) (s false 0)).meas.samples[6].usableValue) =
        [some 420, some 419, some 440, some 439] ∧
      (s false 2).params.persistence ≤ min ((s false 2).heat.supplyCount + 1) 255 ∧
      min ((s false 1).heat.supplyCount + 1) 255 < (s false 1).params.persistence ∧
      ((s true 2).params.supplyLowLimit, (s true 2).params.supplyHysteresis) = (420, 20) ∧
      (cycled 30 60 (valid 440) (s true 2)).heat.brownout ≠ (s true 2).heat.brownout := by decide

theorem witness_HeaterSlotSwitchesTheOutputs :
    running.Ready ∧ State.reset.held = true ∧ (∀ z, (State.reset.heat.zones.get z).output = false) ∧
      Instr.heaterSlotStart ≠ .coldResetRelease :=
  ⟨by decide, by decide, fun z => by cases z <;> decide, by decide⟩

/-- Nothing forced, each reason to force a grant, and a reserve held and not held. -/
theorem witness_AllocationSharesTheBudget :
    let h := requesting 8 6 3
    let hot := { h.zones.board with blind := false, hot := some 240 }
    PrioritiesPermuted (h.zones.map ZoneState.inForce) ∧
      (h.supplyCut = false ∧ h.kept = .running ∧ h.zones.board.blind = true ∧ h.zones.display.blind = true ∧
        h.zones.front.blind = true) ∧
      { h with supplyCut := true }.supplyCut = true ∧ { h with kept := .hotOff }.kept = .hotOff ∧
      ({ h with kept := .off, heatWhileOff := false }.kept = .off ∧ { h with heatWhileOff := false }.heatWhileOff = false) ∧
      (hot.blind = false ∧ hot.hot = some 240 ∧ hot.inForce.tcut ≤ 240) ∧
      { h with reserveHeld := true }.reserveHeld = true ∧ h.reserveHeld = false ∧
      h.granted ≤ 8 * (h.budget - h.reserve) := by decide

/-- BOARD's hot values at Twarn 280, Twarn − Thys 260 and Tshut 340 and DISPLAY's at Tdim 280 and Tdim − 20, each beside
the next value, with the counts at N and below, the conditions held or not; and both zones blind. -/
theorem witness_CycleCompleteJudgesTheLimits :
    let s := finalOf 280 280 (valid 450) running
    let p := s.params
    let blinded := after (.conversionComplete 2050) (lastOf (Vector.replicate 8 Sample.blank) running)
    (s.Quiet ∧ s.KeptRight) ∧ s.meas.next = some 7 ∧ s.meas.lastChannel.val ≤ (7 : Fin 8).val ∧
      [279, 280, 260, 261, 340, 339].map (fun v => (cycled v v (valid 450) running).heat.zones.board.hot) =
        [some 279, some 280, some 260, some 261, some 340, some 339] ∧
      [279, 280, 260, 261].map (fun v => (cycled v v (valid 450) running).heat.zones.display.hot) =
        [some 279, some 280, some 260, some 261] ∧
      (p.twarn, p.twarn - p.thys, p.tshut, p.tdim, p.tdim - 20) = (280, 260, 340, 280, 260) ∧
      p.persistence ≤ min (2 + 1) 255 ∧ min (1 + 1) 255 < p.persistence ∧ s.thermal.warn = false ∧
      s.thermal.heatDim = false ∧ { s.thermal with warn := true, heatDim := true }.warn = true ∧
      { s.thermal with heatDim := true }.heatDim = true ∧ (s.mgmt.kept = .running ∧ blinded.mgmt.kept = .running) ∧
      blinded.heat.zones.board.hot = none ∧
      blinded.heat.zones.display.hot = none := by decide +kernel

/-- BOARD blind with the warning given or not, in RUNNING and outside it; and the rise at and beside its limits with its
count below its end and at it. -/
theorem witness_CycleCompleteJudgesTheLimits_blind_and_rise :
    let s := finalOf 280 280 (valid 450) running
    let p := s.params
    let blinded := after (.conversionComplete 2050) (lastOf (Vector.replicate 8 Sample.blank) running)
    blinded.heat.zones.board.blind = true ∧ blinded.thermal.air = none ∧ blinded.thermal.kept = .running ∧
      s.thermal.blindGiven = false ∧ { s.thermal with blindGiven := true }.blindGiven = true ∧
      s.thermal.kept = .running ∧ awake.KeptRight ∧ (awake.thermal.kept ≠ .running ∧ awake.thermal.kept ≠ .shutdown) ∧
      [200, 201, 188, 189].map (fun v =>
        let t := cycled v v (valid 450) running
        (t.heat.zones.board.blind, t.heat.zones.board.hot, t.thermal.air, t.thermal.kept)) =
          [200, 201, 188, 189].map (fun v => (false, some v, some 100, .running)) ∧
      ((p.riseLimit : Int), (p.riseLimit : Int) - p.riseHysteresis, p.riseCount) = (100, 88, 300) ∧
      min (298 + 1) 65535 < p.riseCount ∧ p.riseCount ≤ min (299 + 1) 65535 ∧ s.thermal.filterService = false ∧
      { s.thermal with filterService := true }.filterService = true := by decide +kernel

/-- The zones' accumulators at a value. -/
def soaked (n : Nat) (s : State) : State :=
  { s with heat := { s.heat with zones := s.heat.zones.map (fun z => { z with soak := n }) } }

/-- The three zones. -/
theorem each_zone {P : ZoneId → Prop} (b : P .board) (d : P .display) (f : P .front) : ∀ z, P z
  | .board => b
  | .display => d
  | .front => f

/-- PREHEAT and WAIT_WARM with the gates warm and not, and an OPEN and a dimmed path with heat-dim turning on at the
third count. -/
theorem witness_ZonesEvaluatedMoveTheStates :
    let pre (n : Nat) := soaked n (unpowered .preheat none (some (from4995 1800000)))
    let wait (n : Nat) := soaked n (displayIn .waitWarm (some (from4995 1200000)) none none none)
    let hot (st : PathState) : State :=
      let s := displayIn st none none (some (from4995 5000)) none
      { s with thermal := { s.thermal with dimCount := 2 } }
    let t (d : Int) (s : State) : State := cycled 30 d (valid 450) s
    (∀ s ∈ [pre 7300, pre 0, wait 5000, wait 0, hot .opened, hot .dimmed],
      let u := finalOf 30 60 (valid 450) s
      u.Quiet ∧ u.KeptRight ∧ u.meas.next = some 7 ∧ u.meas.lastChannel.val ≤ (7 : Fin 8).val ∧
        (t 60 s).thermal.shutdownCount < u.params.persistence) ∧
      (pre 0).power.state = .preheat ∧
      (∀ z, ((t 60 (pre 7300)).zoneReports.get z).boardGate = true →
        ((t 60 (pre 7300)).zoneReports.get z).warm = true) ∧
      (((t 60 (pre 0)).zoneReports.get .board).boardGate = true ∧
        ((t 60 (pre 0)).zoneReports.get .board).warm = false) ∧
      ((wait 0).power.state = .running ∧ (wait 0).path.state = .waitWarm) ∧
      (∀ z, ((t 60 (wait 5000)).zoneReports.get z).displayGate = true →
        ((t 60 (wait 5000)).zoneReports.get z).warm = true) ∧
      (((t 60 (wait 0)).zoneReports.get .display).displayGate = true ∧
        ((t 60 (wait 0)).zoneReports.get .display).warm = false) ∧
      ((hot .opened).path.state = .opened ∧ (hot .opened).thermal.heatDim = false ∧
        (t 280 (hot .opened)).thermal.heatDim = true) ∧
      (hot .dimmed).path.state ≠ .waitWarm ∧ (hot .dimmed).path.state ≠ .opened :=
  ⟨by decide +kernel, by decide, each_zone (by decide +kernel) (by decide +kernel) (by decide +kernel),
    by decide +kernel, by decide, each_zone (by decide +kernel) (by decide +kernel) (by decide +kernel),
    by decide +kernel, by decide +kernel, by decide, by decide⟩

/-- PREHEAT and HOT_OFF with the path OFF. -/
theorem witness_ZonesEvaluatedMoveTheStates_off :
    ∀ st ∈ [PowerState.preheat, .hotOff],
      let u := finalOf 30 60 (valid 450) (unpowered st none none)
      u.Quiet ∧ u.KeptRight ∧ u.meas.next = some 7 ∧ u.meas.lastChannel.val ≤ (7 : Fin 8).val ∧
        (u.power.state = .preheat ∨ u.power.state = .hotOff) ∧ u.power.boardPower = false ∧ u.path.state = .off := by
  decide

/-- HOT_OFF, two cool evaluations counted (R50). -/
def cooling : State :=
  let s := unpowered .hotOff none none
  { s with thermal := { s.thermal with resumeCount := 2 } }

/-- The third count at Tshut in every state, with a grace and without; and in HOT_OFF the hot value at Tresume 240,
above it and absent, with the count below N and at it. -/
theorem witness_ThermalRequestsActByState :
    let noGrace := tuned (fun p => { p with shutdownGrace := 0 }) running
    (∀ s ∈ [running, noGrace, unpowered .starting (some .reserve) none,
        powered .restarting (some .pulse) (some (from4995 200)) true true, awake,
        unpowered .cycling none (some (from4995 5000)), unpowered .preheat none (some (from4995 1800000)),
        shuttingDown, unpowered .serviceHold none none],
      let u := { s with thermal := { s.thermal with shutdownCount := 2 } }
      (finalOf 340 60 (valid 450) u).Quiet ∧ (finalOf 340 60 (valid 450) u).KeptRight ∧
        (finalOf 340 60 (valid 450) u).meas.next = some 7 ∧
        s.params.persistence ≤ (cycled 340 60 (valid 450) u).thermal.shutdownCount) ∧
      running.params.shutdownGrace ≠ 0 ∧ noGrace.params.shutdownGrace = 0 ∧
      (let t := cycled 340 60 (valid 450) (unpowered .preheat none (some (from4995 1800000)))
       (t.zoneReports.get .board).boardGate = true ∧ (t.zoneReports.get .board).warm = false) ∧
      (finalOf 240 60 (valid 450) cooling).Quiet ∧ (finalOf 240 60 (valid 450) cooling).KeptRight ∧
      cooling.power.state = .hotOff ∧ cooling.params.tresume = 240 ∧
      [240, 241].map (fun v => (cycled v 60 (valid 450) cooling).heat.zones.board.hot) = [some 240, some 241] ∧
      (after (.conversionComplete 2050) (lastOf (Vector.replicate 8 Sample.blank) cooling)).heat.zones.board.hot = none ∧
      cooling.params.persistence ≤ min (cooling.thermal.resumeCount + 1) 255 ∧
      min ({ cooling.thermal with resumeCount := 1 }.resumeCount + 1) 255 < cooling.params.persistence := by
  decide +kernel

/-! ### Power and liveness -/

theorem witness_ReserveGrantedTurnsBoardPowerOn :
    let s := unpowered .starting (some .reserve) none
    s.Quiet ∧ s.power.state = .starting ∧ s.power.phase = some .reserve ∧ s.power.boardPower = false ∧
      s.power.good = false ∧ ({ s.power with pgLevel := true } : PowerSeq).good = true ∧
      (tuned (fun p => { p with settleDelay := 0 }) s).params.settleDelay = 0 ∧
      (running.Ready ∧ running.power.state ≠ .starting) ∧
      (unpowered .starting (some .settle) none).Ready ∧
      (unpowered .starting (some .settle) none).power.phase ≠ some .reserve := by decide

/-- PREHEAT with BOARD, the one board-gate zone, at a cold value, not warm. -/
def preheating (cold : Option Int) : State :=
  let s := unpowered .preheat none (some (from4995 1800000))
  { s with heat := { s.heat with zones := { s.heat.zones with
      board := { s.heat.zones.board with blind := cold.isNone, cold := cold, hot := cold } } } }

/-- BOARD blind, at Tmin_abs −40 and just below it. -/
theorem witness_PreheatLimitDecides :
    (preheating none).Quiet ∧ (preheating none).power.state = .preheat ∧
      (preheating none).power.timer = some (from4995 1800000) ∧
      ((preheating none).zoneReports.get .board).blind = true ∧
      ((preheating (some (-40))).zoneReports.get .board).tminAbs = -40 ∧
      (∀ z, ((preheating (some (-40))).zoneReports.get z).boardGate = true →
        ∃ c, ((preheating (some (-40))).zoneReports.get z).cold = some c ∧
          ((preheating (some (-40))).zoneReports.get z).tminAbs ≤ c) ∧
      (∀ z, ((preheating (some (-41))).zoneReports.get z).boardGate = true →
        ((preheating (some (-41))).zoneReports.get z).warm = false ∧
        ((preheating (some (-41))).zoneReports.get z).blind = false ∧
        ∀ c, ((preheating (some (-41))).zoneReports.get z).cold = some c →
          c < ((preheating (some (-41))).zoneReports.get z).tminAbs) := by
  refine ⟨by decide, by decide, by decide, by decide, by decide, fun z h => ?_, fun z h => ?_⟩
  · cases z with
    | board => exact ⟨-40, by decide, by decide⟩
    | display => exact absurd h (by decide)
    | front => exact absurd h (by decide)
  · cases z with
    | board => exact ⟨by decide, by decide, fun c hc => by cases hc; decide⟩
    | display => exact absurd h (by decide)
    | front => exact absurd h (by decide)

theorem witness_PowerGoodActsByState :
    let w := powered .starting (some .powerWait) (some (from4995 1000)) true false
    let unseen := { running with power := { running.power with pgSeen := false } }
    w.Quiet ∧ w.power.state = .starting ∧ w.power.phase = some .powerWait ∧ w.power.good = false ∧
      ({ w.power with pgLevel := true } : PowerSeq).good = true ∧
      running.Quiet ∧ running.power.good = true ∧ ({ running.power with pgLevel := false } : PowerSeq).good = false ∧
      running.power.pgSeen = true ∧ running.power.state = .running ∧
      booting.Quiet ∧ booting.power.good = true ∧ booting.power.pgSeen = true ∧
      (booting.power.state = .starting ∧ booting.power.phase = some .bootWait) ∧
      shuttingDown.Quiet ∧ shuttingDown.power.good = true ∧ shuttingDown.power.pgSeen = true ∧
      shuttingDown.power.state = .shutdown ∧
      ({ running.power with pgLevel := true } : PowerSeq).good = running.power.good ∧
      ({ awake.power with pgLevel := true } : PowerSeq).good = true ∧ awake.Ready ∧
      ¬(awake.power.state = .starting ∧ awake.power.phase = some .powerWait) ∧
      unseen.Ready ∧ ({ unseen.power with pgLevel := false } : PowerSeq).good = false ∧ unseen.power.pgSeen = false ∧
      State.reset.held = true := by decide

/-- WARNED, the grace timer due at 5,010 s. -/
def warned : State :=
  { running with
    clockMs := 5000000
    live := { running.live with
      stage := .warned, hbTimer := none, graceTimer := some { start := 5000000, dur := 10000 } } }

theorem witness_AutomaticCausesRestartOrHold :
    let w := powered .starting (some .powerWait) (some (from4995 1000)) true false
    w.Quiet ∧ w.power.state = .starting ∧ w.power.phase = some .powerWait ∧ w.power.timer = some (from4995 1000) ∧
      booting.Quiet ∧ booting.live.stage = .bootWait ∧ booting.live.outcome = .pending ∧
      booting.live.bootTimer = some (from4995 120000) ∧ booting.power.phase = some .bootWait ∧
      booting.power.state = .starting ∧
      warned.Quiet ∧ warned.live.stage = .warned ∧
      warned.live.graceTimer = some { start := 5000000, dur := 10000 } ∧ warned.power.state = .running := by decide

theorem witness_TimedPhasesEnd :
    let a := powered .starting (some .settle) (some (from4995 96)) true true
    let b := powered .restarting (some .pulse) (some (from4995 200)) true true
    let c := unpowered .cycling none (some (from4995 5000))
    (a.Quiet ∧ a.power.timer = some (from4995 96) ∧ a.power.state = .starting ∧ a.power.phase = some .settle) ∧
      (b.Quiet ∧ b.power.timer = some (from4995 200) ∧ b.power.state = .restarting ∧ b.power.phase = some .pulse) ∧
      (shuttingDown.Quiet ∧ shuttingDown.power.timer = some (from4995 30000) ∧ shuttingDown.power.state = .shutdown ∧
        shuttingDown.power.boardPower = true) ∧
      c.Quiet ∧ c.power.timer = some (from4995 5000) ∧ c.power.state = .cycling := by decide

theorem witness_HeartbeatTimerExpiryWarns :
    let n := tuned (fun p => { p with warnGrace := 0 }) running
    running.Quiet ∧ running.live.stage = .watching ∧ running.live.hbTimer = some (from4995 5000) ∧
      running.params.warnGrace ≠ 0 ∧ n.params.warnGrace = 0 ∧ n.Quiet ∧ n.live.stage = .watching ∧
      n.power.state = .running := by decide

theorem witness_HeartbeatActsByStage :
    let at_ (st : Stage) (o : BootOutcome) : State :=
      { running with live := { running.live with stage := st, outcome := o } }
    let early := tuned (fun p => { p with hbMin := 10 }) { running with clockMs := 4995999 }
    let onTime := tuned (fun p => { p with hbMin := 10 }) { running with clockMs := 4996000 }
    running.Quiet ∧ running.Hears ∧ (at_ .idle .pending).live.stage = .idle ∧
      (at_ .suspended .pending).live.stage = .suspended ∧
      ((at_ .bootWait .timedOut).live.stage = .bootWait ∧ (at_ .bootWait .timedOut).live.outcome = .timedOut) ∧
      (at_ .bootWait .heard).live.outcome = .heard ∧
      (early.live.stage = .watching ∧ early.live.last = some 4995000 ∧ early.params.hbMin ≠ 0 ∧
        early.clockMs - 4995000 < early.params.hbMin * 100) ∧
      (onTime.live.stage = .watching ∧ onTime.params.hbMin * 100 ≤ onTime.clockMs - 4995000) ∧
      running.params.hbMin = 0 ∧ warned.live.stage = .warned ∧ warned.Quiet ∧ warned.Hears ∧
      (booting.Quiet ∧ booting.Hears ∧ booting.live.stage = .bootWait ∧
        booting.live.outcome = .pending ∧ booting.power.phase = some .bootWait ∧ booting.power.state = .starting ∧
        booting.mgmt.queue = [] ∧ booting.power.log = firstRecord :: []) := by decide

/-! ### The panel link and the Frame Switch -/

/-- The system receive line in a break. -/
def broken : State := { running with sys := { running.sys with breakOn := true } }

/-- The system receiver in a state. -/
def receiving (rx : RxState) : State := { running with sys := { running.sys with rx := rx } }

/-- Data 63, 64, 48, 49, 1 and 0 at the bounds; CRC characters right and wrong; a wrong stop bit with one bit set, in
the data or as the mark; a line that is watched; a port that is not live, and one in a break. -/
theorem witness_SystemCharactersAreJudged :
    let watched := { running with sys := { running.sys with lineLow := true } }
    running.Ready ∧ running.Hears ∧ ¬((0#8) = 0 ∧ true = false) ∧ ¬((128#8) = 0 ∧ false = false) ∧
      (63#8).toNat < 64 ∧ 64 ≤ (64#8).toNat ∧
      running.sys.rx = .idle ∧ (receiving .discard).sys.rx = .discard ∧ (receiving .discard).Hears ∧
      (receiving (.length 4)).sys.rx = .length 4 ∧ 48 < (49#8).toNat ∧ 0 < (1#8).toNat ∧ (48#8).toNat ≤ 48 ∧
      (receiving (.payload 4 2 [7])).sys.rx = .payload 4 2 [7] ∧ (receiving (.check 4 [])).sys.rx = .check 4 [] ∧
      (0x54#8) = crc8 (byte (4 : Fin 64).val :: byte ([] : List Byte).length :: []) ∧
      (0x55#8) ≠ crc8 (byte (4 : Fin 64).val :: byte ([] : List Byte).length :: []) ∧
      (watched.Ready ∧ watched.sys.receives = true ∧ watched.sys.lineLow = true) ∧
      (awake.Ready ∧ awake.sys.receives = false) ∧
      (broken.Ready ∧ broken.sys.isLive = true ∧ broken.sys.receives = false) ∧
      Frame.row .system { cls := 4, payload := [] } = .reservedFrame .system 4 [] := by
  decide +kernel

/-- The class-4 frame without payload: its header and length, 0400, followed by CRC 54, are 41C times the generator; the
CRC of one byte 1 is the remainder of x⁸, and that of no byte is 0 (R128). -/
theorem test_crc8 :
    crc8 [4, 0] = 0x54#8 ∧ polynomialOf [4, 0, 0x54] = 0x040054 ∧ timesGenerator 0x41C = 0x040054 ∧
      crc8 [1] = 7#8 ∧ crc8 [] = 0#8 := by decide +kernel

theorem witness_CharactersOfAFrameDeliverIt :
    running.Ready ∧ (List.replicate 48 (0#8)).length ≤ 48 ∧ running.Hears ∧ running.sys.rx = .idle ∧
      (receiving .discard).Hears ∧ (receiving .discard).sys.rx = .discard ∧
      running.HearsDisplay ∧ running.disp.rx = .idle ∧ awake.HearsDisplay ∧
      awake.disp.rx = .discard := by decide

/-- Both ports idle, and each sending a class-12 frame without payload: its first character and its end. -/
theorem witness_LinesCarryTheFrames :
    let f : Frame := { cls := 12, payload := [] }
    let q : QueuedFrame := { cls := 12, payload := [], coalesce := false }
    let sys : SysPort := { running.sys with tx := some { content := .forwarded f, rate := 115200 } }
    let disp : DispPort := { running.disp with tx := some { frame := q, rate := 115200 } }
    running.sys.tx = none ∧ running.disp.tx = none ∧ sys.tx = some { content := .forwarded f, rate := 115200 } ∧
      (SysContent.forwarded f).frame.characters[0]? = some (12, true) ∧
      11 * (SysContent.forwarded f).frame.characters.length ≤ 33 ∧
      disp.tx = some { frame := q, rate := 115200 } ∧
      ({ cls := q.cls, payload := q.payload } : Frame).characters[0]? = some (12, true) ∧
      11 * (q.payload.length + 3) ≤ 33 := by decide

theorem witness_RequestRowsSpellTheirPayloads :
    requestPayload (.setEntryKeymap 8 [6, 1, 0, 0]) = some [5, 8, 1, 6, 1, 0, 0] ∧
      (awake.Ready ∧ awake.sys.isLive = false) ∧ (broken.Ready ∧ broken.sys.breakOn = true) := by decide

/-- The reply slot full while a rate waits for its reply to end. -/
def rateWaits (port : Port) (rate : Nat) : State :=
  { running with sys := { running.sys with
      slot := .held { command := 5, tag := 0, status := .ok, data := [] }, rateChange := some (port, rate) } }

theorem witness_SystemLineEventsAreFollowed :
    running.Quiet ∧ running.sys.receives = true ∧ running.sys.slot = .empty ∧
      (rateWaits .system 19200).Quiet ∧ (rateWaits .system 19200).sys.slot ≠ .empty ∧
      (rateWaits .system 19200).sys.rateChange = some (.system, 19200) ∧
      (rateWaits .display 19200).Quiet ∧ (rateWaits .display 19200).sys.slot ≠ .empty ∧
      (rateWaits .display 19200).sys.rateChange = some (.display, 19200) ∧
      115200 = (rateWaits .display 115200).disp.rate ∧ 19200 ≠ (rateWaits .display 19200).disp.rate ∧
      awake.Ready ∧ awake.sys.lineLow = false ∧ awake.sys.isLive = false ∧
      (broken.Ready ∧ broken.sys.breakOn = true) := by decide

/-- The display receiver in a state, two bad frames counted. -/
def displaying (rx : RxState) : State := { running with disp := { running.disp with rx := rx, badRun := 2 } }

/-- Data 63, 64, 48, 49, 1 and 0 at the bounds; CRC characters right and wrong; the bad frame before the third and the
third, with display power on and off; a line that is watched, and one in a break. -/
theorem witness_DisplayCharactersAreJudged :
    (running.Ready ∧ running.HearsDisplay) ∧
      (∀ rx ∈ [RxState.idle, .discard, .length 4, .payload 4 2 [7], .check 4 []],
        (displaying rx).Ready ∧ (displaying rx).HearsDisplay ∧ (displaying rx).disp.rx = rx) ∧
      (¬((0#8) = 0 ∧ true = false) ∧ ¬((128#8) = 0 ∧ false = false)) ∧
      ((displaying .idle).disp.rx.inFrame = false ∧ (displaying (.length 4)).disp.rx.inFrame = true) ∧
      ((63#8).toNat < 64 ∧ 64 ≤ (64#8).toNat ∧ 48 < (49#8).toNat ∧ 0 < (1#8).toNat ∧ (48#8).toNat ≤ 48) ∧
      (0x54#8) = crc8 (byte (4 : Fin 64).val :: byte ([] : List Byte).length :: []) ∧
      (0x55#8) ≠ crc8 (byte (4 : Fin 64).val :: byte ([] : List Byte).length :: []) ∧
      (running.disp.badRun + 1 < 3 ∧ ¬((displaying .idle).disp.badRun + 1 < 3)) ∧
      ((displaying .idle).path.power = true ∧ awake.path.power = false) := by
  refine ⟨?_, ?_, ?_, ?_, ?_, ?_, ?_, ?_, ?_⟩ <;> decide +kernel

theorem witness_DisplayCharactersAreJudged_line :
    let watched := { running with disp := { running.disp with lineLow := true } }
    let broken := { running with disp := { running.disp with breakOn := true } }
    (watched.Ready ∧ watched.disp.lineLow = true ∧ watched.disp.breakOn = false) ∧
      (broken.Ready ∧ broken.disp.lineLow = false ∧ broken.disp.breakOn = true) ∧
      (∃ data mark stop,
        Instr.receiveCharacter .display 0 false .zero = .receiveCharacter .display data mark stop) ∧
      ∃ f : Frame, Instr.reservedFrame .display 5 [] = f.row .display :=
  ⟨by decide, by decide, ⟨0, false, .zero, rfl⟩, ⟨{ cls := 5, payload := [] }, rfl⟩⟩

/-- A reply in transmission. -/
def sendingReply (s : State) : State :=
  let r : Reply := { command := 5, tag := 0, status := .ok, data := [] }
  { s with sys := { s.sys with slot := .sending r, tx := some { content := .reply r, rate := 115200 } } }

/-- Each source in turn the first that is not empty; and a notice or a reply in transmission, with a rate waiting for
the reply or none. -/
theorem witness_TransmitterTakesByPriority :
    let r : Reply := { command := 1, tag := 0, status := .ok, data := [] }
    let replying := { running with sys := { running.sys with slot := .held r } }
    let notifying := { running with mgmt := { running.mgmt with queue := [{ seq := 0, content := .sequence 3 }] } }
    let keying := { running with keypad := { running.keypad with
      queue := List.replicate 9 { key := 5, code := 5, kind := .press, time := 0 } } }
    let forwarding := { running with sys := { running.sys with fwd := [{ cls := 40, payload := [] }] } }
    let n : SysTx := { content := .notice { seq := 0, content := .sequence 3 }, rate := 115200 }
    let sentReply : SysTx :=
      { content := .reply { command := 5, tag := 0, status := .ok, data := [] }, rate := 115200 }
    let sendingNotice := { running with sys := { running.sys with tx := some n } }
    running.Ready ∧
      (running.sys.tx = none ∧ running.sys.isLive = true ∧ running.sys.breakOn = false ∧
        running.sys.hostReady = true) ∧
      running.sys.slot = .empty ∧ awake.Ready ∧ awake.sys.isLive = false ∧ replying.sys.slot = .held r ∧
      notifying.mgmt.queue = { seq := 0, content := .sequence 3 } :: [] ∧
      (keying.mgmt.queue = [] ∧ keying.keypad.queue ≠ []) ∧
      (forwarding.mgmt.queue = [] ∧ forwarding.keypad.queue = [] ∧
        forwarding.sys.fwd = { cls := 40, payload := [] } :: []) ∧
      (running.mgmt.queue = [] ∧ running.keypad.queue = [] ∧ running.sys.fwd = []) ∧
      (sendingNotice.Quiet ∧ sendingNotice.sys.tx = some n ∧ ∀ x, n.content ≠ .reply x) ∧
      ((sendingReply running).Quiet ∧ (sendingReply running).sys.tx = some sentReply ∧
        (sendingReply running).sys.rateChange = none) ∧
      ((sendingReply (rateWaits .system 19200)).Quiet ∧
        (sendingReply (rateWaits .system 19200)).sys.tx = some sentReply ∧
        (sendingReply (rateWaits .system 19200)).sys.rateChange = some (.system, 19200)) ∧
      (sendingReply (rateWaits .display 19200)).Quiet ∧
      (sendingReply (rateWaits .display 19200)).sys.rateChange = some (.display, 19200) := by
  refine ⟨by decide, by decide, by decide, by decide, by decide, by decide, by decide, by decide, by decide, by decide,
    ⟨by decide, by decide, fun x h => by cases h⟩, by decide, by decide, by decide, by decide⟩

theorem witness_UnroutedFramesAreDropped :
    running.Ready ∧ running.Hears ∧ running.HearsDisplay ∧
      (7 : Fin 64).val < 8 ∧ (7 : Fin 64) ≠ 0 ∧ (7 : Fin 64) ≠ 4 ∧
      (7 : Fin 64) ≠ 5 ∧ awake.Ready ∧ awake.sys.receives = false := by decide

theorem witness_ReadyDisplayTakesFrames :
    let starting := displayIn .starting none (some (from4995 10000)) none none
    let q : QueuedFrame := { cls := 30, payload := [], coalesce := false }
    let sending (s : State) (l : List QueuedFrame) : State :=
      { s with disp := { s.disp with tx := some { frame := q, rate := 115200 } }, path := { s.path with queue := l } }
    running.Ready ∧ running.path.state ≠ .starting ∧ starting.Ready ∧ starting.path.state = .starting ∧
      starting.path.heatDim = false ∧ starting.HearsDisplay ∧
      (let hot := { starting with path := { starting.path with heatDim := true } }
       hot.Ready ∧ hot.path.state = .starting ∧ hot.path.heatDim = true) ∧
      (sending running [q]).Ready ∧ (sending running [q]).disp.tx = some { frame := q, rate := 115200 } ∧
      (sending running [q]).path.state = .opened ∧ (sending running [q]).path.queue = q :: [] ∧
      (sending running []).path.queue = [] ∧
      ((sending starting [q]).path.state ≠ .opened ∧ (sending starting [q]).path.state ≠ .dimmed) ∧
      (let free := { sending running [q] with disp := running.disp }
       free.path.state = .opened ∧ free.disp.tx = none ∧ free.path.queue = q :: []) := by decide

/-- Class 12 with an entry. -/
def routing (e : ClassEntry) (s : State) : State :=
  { s with tables := { s.tables with classes := s.tables.classes.set 4 e } }

/-- Lengths 0 and 48 at the bounds of the default entry and 49 above them. -/
theorem witness_BoardFramesFollowTheirEntry :
    let e := ClassEntry.default
    let s := routing e running
    s.Ready ∧ s.Hears ∧ s.tables.classEntry 12 = some e ∧
      ((e.direction = .toDisplay ∨ e.direction = .both) ∧ e.minLength ≤ ([] : List Byte).length ∧
        (List.replicate 48 (0#8)).length ≤ e.maxLength) ∧
      ¬((List.replicate 49 (0#8)).length ≤ e.maxLength) ∧ e.heartbeat = false ∧
      (e.action ≠ .drop ∧ s.path.state = .opened) ∧
      ¬(({ e with action := .drop }.action ≠ .drop ∧ (s.path.state = .opened ∨ s.path.state = .dimmed)) ∨
        ({ e with action := .drop }.action = .hold ∧
          (s.path.state = .waitWarm ∨ s.path.state = .starting ∨ s.path.state = .recovering))) ∧
      (routing { e with action := .drop } running).tables.classEntry 12 = some { e with action := .drop } ∧
      (routing { e with heartbeat := true } warned).Ready ∧
      (routing { e with heartbeat := true } warned).Hears ∧
      (routing { e with heartbeat := true } warned).tables.classEntry 12 = some { e with heartbeat := true } ∧
      (routing { e with heartbeat := true } warned).live.stage = .warned := by decide

/-- A frame with the heartbeat flag in BOOT_WAIT, and the paths that take it and do not. -/
theorem witness_BoardFramesFollowTheirEntry_heartbeat :
    let e := { ClassEntry.default with heartbeat := true }
    let s := routing e booting
    let d := routing { e with action := .drop } booting
    (s.Ready ∧ s.Hears ∧ s.tables.classEntry 12 = some e ∧ e.heartbeat = true) ∧
      (d.Ready ∧ d.Hears ∧ d.tables.classEntry 12 = some { e with action := .drop }) ∧
      exec (.reservedFrame .system 4 []) s = .next (after (.reservedFrame .system 4 []) s) ∧
      (after (.reservedFrame .system 4 []) s).path.state = .opened ∧
      (after (.reservedFrame .system 4 []) s).power.state = .running :=
  ⟨by decide, by decide, rfl, by decide, by decide⟩

theorem witness_DisplayFramesAreForwarded :
    let e := ClassEntry.default
    let s := routing e running
    let f (n : Nat) (s : State) : State :=
      { s with sys := { s.sys with fwd := List.replicate n { cls := 40, payload := [] } } }
    let d := routing e (displayIn .dimmed none none (some (from4995 5000)) none)
    s.Ready ∧ s.HearsDisplay ∧ s.tables.classEntry 12 = some e ∧
      ((e.direction = .toSystem ∨ e.direction = .both) ∧ e.minLength ≤ ([] : List Byte).length ∧
        (List.replicate 48 (0#8)).length ≤ e.maxLength) ∧
      ¬({ e with direction := .toDisplay }.direction = .toSystem ∨
        { e with direction := .toDisplay }.direction = .both) ∧
      s.path.state ≠ .dimmed ∧ awake.sys.isLive = false ∧ (routing e awake).Ready ∧
      (f 15 s).sys.isLive = true ∧ (f 15 s).sys.fwd.length < 16 ∧ (f 16 s).Ready ∧ (f 16 s).sys.isLive = true ∧
      16 ≤ (f 16 s).sys.fwd.length ∧
      (d.Ready ∧ d.tables.classEntry 12 = some e ∧ e.wake = true ∧ d.path.state = .dimmed ∧ d.path.heatDim = false ∧
        d.HearsDisplay ∧ d.params.swallow = true) ∧
      (let kept := tuned (fun p => { p with swallow := false }) d
       kept.Ready ∧ kept.params.swallow = false ∧ kept.sys.isLive = true ∧ kept.sys.fwd.length < 16 ∧
         (f 16 kept).Ready ∧ 16 ≤ (f 16 kept).sys.fwd.length ∧
         { kept.sys with isLive := false }.isLive = false) := by
  refine ⟨?_, ?_, ?_⟩ <;> decide

theorem witness_QueuesReplaceInPlace :
    let n : Notice := { seq := 0, content := .sequence 3 }
    let q (c : Fin 64) : QueuedFrame := { cls := c, payload := [], coalesce := true }
    running.mgmt.kept = .running ∧ (awake.mgmt.kept ≠ .running ∧ awake.mgmt.kept ≠ .shutdown) ∧
      (∀ x ∈ [n], x.content.kind ≠ NoticeKind.hello) ∧ [n] = [] ++ n :: [] ∧
      n.content.kind = (NoticeContent.sequence 1).kind ∧
      { running.path with queue := [q 12, q 30] }.queue = [q 12] ++ q 30 :: [] ∧
      (q 30).coalesce = true ∧ (q 30).cls = { q 30 with payload := [1] }.cls ∧ (∀ x ∈ [q 12], x.cls ≠ (q 30).cls) ∧
      (List.replicate 15 (q 12)).length < 16 ∧ 16 ≤ (q 12 :: List.replicate 15 (q 12)).length ∧
      ({ q 12 with coalesce := false }.coalesce = false) ∧
      (let p := { running.path with queue := [q 30, q 12, q 31, q 12] }
       p.queue = [q 30] ++ q 12 :: [q 31, q 12] ∧ [q 31, q 12] = [q 31] ++ q 12 :: [] ∧ (q 12).cls = 12 ∧
         (∀ x ∈ [q 30], x.cls ≠ 12) ∧ (∀ x ∈ ([] : List QueuedFrame), x.cls ≠ 12) ∧
         (∀ x ∈ [q 31], x.cls ≠ 12) ∧ ∀ x ∈ p.queue, x.cls ≠ 40) := by decide

/-! ### The display path -/

/-- WAIT_WARM with DISPLAY, the one display-gate zone, at a cold value, not warm. -/
def warmingDisplay (cold : Option Int) : State :=
  let s := displayIn .waitWarm (some (from4995 1200000)) none none none
  { s with heat := { s.heat with zones := { s.heat.zones with
      display := { s.heat.zones.display with blind := cold.isNone, cold := cold, hot := cold } } } }

/-- DISPLAY blind, at Tmin_abs −80 and just below it; a start and a silence below the retry limit 3 and at it. -/
theorem witness_DisplayPathTimersExpire :
    (warmingDisplay none).Ready ∧ (warmingDisplay none).path.state = .waitWarm ∧
      (warmingDisplay none).path.waitTimer = some (from4995 1200000) ∧
      ((warmingDisplay none).zoneReports.get .display).blind = true ∧
      (∀ z, ((warmingDisplay (some (-80))).zoneReports.get z).displayGate = true →
        ∃ c, ((warmingDisplay (some (-80))).zoneReports.get z).cold = some c ∧
          ((warmingDisplay (some (-80))).zoneReports.get z).tminAbs ≤ c) ∧
      (∀ z, ((warmingDisplay (some (-81))).zoneReports.get z).displayGate = true →
        ((warmingDisplay (some (-81))).zoneReports.get z).warm = false ∧
        ((warmingDisplay (some (-81))).zoneReports.get z).blind = false ∧
        ∀ c, ((warmingDisplay (some (-81))).zoneReports.get z).cold = some c →
          c < ((warmingDisplay (some (-81))).zoneReports.get z).tminAbs) ∧
      (let r := displayIn .recovering none (some (from4995 2000)) none none
       r.Ready ∧ r.path.state = .recovering ∧ r.path.startTimer = some (from4995 2000)) ∧
      running.path.state = .opened ∧ running.path.idleTimer = some (from4995 480000) ∧
      (let st := displayIn .starting none (some (from4995 10000)) none none
       st.Ready ∧ st.path.state = .starting ∧ st.path.startTimer = some (from4995 10000) ∧
         st.path.retry < st.params.retryLimit) ∧
      (let last := { running with path := { running.path with retry := 3 } }
       last.Ready ∧ last.path.state = .opened ∧ last.path.silenceTimer = some (from4995 5000) ∧
         last.params.retryLimit ≤ last.path.retry ∧
         (after .silenceTimerExpiry last).path.state = .failed) := by
  refine ⟨by decide, by decide, by decide, by decide, fun z h => ?_, fun z h => ?_, by decide, by decide, by decide,
    by decide, by decide⟩
  · cases z with
    | display => exact ⟨-80, by decide, by decide⟩
    | board => exact absurd h (by decide)
    | front => exact absurd h (by decide)
  · cases z with
    | display => exact ⟨by decide, by decide, fun c hc => by cases hc; decide⟩
    | board => exact absurd h (by decide)
    | front => exact absurd h (by decide)

/-- A heat-dim and a power-off of one evaluation: the DIM frame is placed and lost only if heat-dim is first (R154). -/
theorem test_dim_and_power_off :
    let before := running.thermal
    let after := { before with shutdownCount := 255, heatDim := true }
    let dimming := { running.tables with dim := { running.tables.dim with enable := true, cls := 40 } }
    let s := tuned (fun p => { p with shutdownGrace := 0 }) { running with tables := dimming }
    let lost (t : State) := (t.power.boardPower, t.path.dqDiscard, t.path.heatDim)
    s.dimOrderTells before after = true ∧
      lost ((s.sendRequests before after).sendHeatDim before after) = (false, 0, true) ∧
      lost ((s.sendHeatDim before after).sendRequests before after) = (false, 1, true) := by decide +kernel

/-! ### The keypad, the sequences and the beeper -/

theorem witness_ScanDebouncesEveryKey :
    let s := { running with keypad := { running.keypad with keys := pressedKeys [3] } }
    s.Quiet ∧ s.ScanCounts ∧ (BitVec.twoPow 64 5).getLsbD 5 ≠ s.keypad.keys[(5 : Fin 64)].state.physicallyDown ∧
      s.params.debounce ≤ s.keypad.keys[(5 : Fin 64)].count + 1 ∧
      running.keypad.keys[(5 : Fin 64)].count + 1 < running.params.debounce := by decide

/-- A key is held while the part leaves cold reset and in every scan after it; where the first does not count, that is
the scan it finds. -/
theorem witness_ScanDebouncesEveryKey_held :
    let run (n : Nat) : State :=
      n.rec (after .coldResetRelease State.reset) (fun _ s => after (.scan (BitVec.twoPow 64 5)) s)
    (run 0).Quiet ∧ (run 0).keypad.scans = 0 ∧ 0 < (run 0).params.debounce ∧
      (∀ i : Fin 64, (run 0).keypad.keys[i].state = .up ∧ (run 0).keypad.keys[i].count = 0) ∧
      (∀ n, exec (.scan (BitVec.twoPow 64 5)) (run n) = .next (run (n + 1))) ∧
      (Config.firstScanCounts = false → ¬(run 0).ScanCounts) := by
  refine ⟨by decide +kernel, by decide +kernel, by decide +kernel, by decide +kernel, fun n => rfl, fun h => ?_⟩
  have hs : (after .coldResetRelease State.reset).keypad.scans = 0 := by decide +kernel
  simpa [State.ScanCounts, hs] using h

/-- RUNNING with key 5 of a kind, every key UP at the threshold of debouncing, and the built-in stuck time and Sequence
Table. -/
def lonely (kind : KeyKind) : State :=
  { running with
    tables := { running.tables with
      keymap := running.tables.keymap.set 5 { KeyEntry.default 5 with kind := kind } }
    keypad := { running.keypad with keys := pressedKeys [] } }

/-- The queue of a state at a length, one press again and again. -/
def queued (n : Nat) (s : State) : State :=
  { s with keypad := { s.keypad with queue := List.replicate n { key := 9, code := 9, kind := .press, time := 0 } } }

/-- Key 5 alone is pressed, by kind; with 30 and 31 in the queue, a dimmed path, the board off, and any-key in OFF. -/
theorem witness_LonePressIsDecided :
    let off := State.inPower .off none (lonely .normal)
    let anyKey := tuned (fun p => { p with anyKey := true }) off
    let dimmed := { lonely .normal with path := (displayIn .dimmed none none (some (from4995 5000)) none).path }
    let waiting := { lonely .normal with path := (displayIn .waitWarm none none none none).path }
    (∀ s ∈ [lonely .normal, lonely .service, lonely .disabled, queued 30 (lonely .normal), queued 31 (lonely .normal),
        off, anyKey, dimmed, waiting],
      s.Quiet ∧ s.LoneChange (BitVec.twoPow 64 5) 5 ∧ s.keypad.keys[(5 : Fin 64)].state = .up ∧
        ¬InRectangle s.keypad.isDown 5 ∧ (∀ k, ¬s.Sticks k) ∧ s.RepeatNotDue ∧ 0 < s.params.repeatDelay ∧
        5 ∉ s.keypad.reportedDown ∧ 5 ∉ s.keypad.suppressed ∧
        s.matcher.firesOn s.tables.sequences 5 = none) ∧
      (lonely .normal).tables.keymap[(5 : Fin 64)].kind = .normal ∧
      (lonely .service).tables.keymap[(5 : Fin 64)].kind = .service ∧
      (lonely .disabled).tables.keymap[(5 : Fin 64)].kind = .disabled ∧ (lonely .normal).keypad.kept = .running ∧
      (queued 30 (lonely .normal)).keypad.load + 2 ≤ 32 ∧ 32 < (queued 31 (lonely .normal)).keypad.load + 2 ∧
      (dimmed.path.state = .dimmed ∧ dimmed.path.heatDim = false ∧ dimmed.params.swallow = true) ∧
      (off.keypad.kept ≠ .running ∧ off.keypad.kept ≠ .shutdown ∧ off.params.anyKey = false) ∧
      (anyKey.params.anyKey = true ∧ anyKey.keypad.kept = .off ∧ anyKey.power.state = .off) ∧
      (lonely .normal).path.state = .opened ∧ waiting.path.state = .waitWarm := by
  refine ⟨?_, ?_⟩ <;> decide +kernel

/-- Key 5 alone is pressed on a dimmed path, under heat-dim and with the swallow flag clear. -/
theorem witness_LonePressIsDecided_dimmed :
    let dimmed := { lonely .normal with path := (displayIn .dimmed none none (some (from4995 5000)) none).path }
    let hot := { dimmed with path := { dimmed.path with heatDim := true } }
    let passing := tuned (fun p => { p with swallow := false }) dimmed
    (∀ s ∈ [hot, passing],
      s.Quiet ∧ s.LoneChange (BitVec.twoPow 64 5) 5 ∧ s.keypad.keys[(5 : Fin 64)].state = .up ∧
        ¬InRectangle s.keypad.isDown 5 ∧ (∀ k, ¬s.Sticks k) ∧ s.RepeatNotDue ∧ 0 < s.params.repeatDelay ∧
        5 ∉ s.keypad.reportedDown ∧ 5 ∉ s.keypad.suppressed ∧
        s.matcher.firesOn s.tables.sequences 5 = none ∧ s.params.anyKey = false) ∧
      (hot.path.state = .dimmed ∧ hot.path.heatDim = true) ∧
      (passing.path.state = .dimmed ∧ passing.path.heatDim = false ∧ passing.params.swallow = false) := by
  decide +kernel

/-- RUNNING with keys down at the threshold of debouncing. -/
def heldDown (down : List (Fin 64)) (f : Keypad → Keypad) : State :=
  { running with keypad := f { running.keypad with keys := pressedKeys down } }

/-- The first part's hypotheses for key 5. -/
abbrev ReleasesFive (s : State) : Prop :=
  s.Quiet ∧ s.LoneChange 0 5 ∧ s.keypad.keys[(5 : Fin 64)].state ≠ .up ∧
    (∀ k, k ≠ 5 → ¬s.Sticks k ∧ s.keypad.keys[k].state ≠ .blocked) ∧ s.RepeatNotDue

/-- The second part's hypotheses for key 5. -/
abbrev FiveSticks (s : State) : Prop :=
  s.Quiet ∧ s.NoChange (BitVec.twoPow 64 5) ∧ (∀ k, s.Sticks k ↔ k = 5) ∧ s.RepeatNotDue

/-- Key 5 alone is released from DOWN, suppressed, reported or neither, from BLOCKED and from STUCK; and key 5 reaches
the stuck time of 30 s at scan time 30,000, reported or not. -/
theorem witness_LoneReleaseAndStuckKey :
    let in_ (st : KeyState) (k : Keypad) : Keypad :=
      { k with keys := k.keys.set 5 { count := 4, state := st, entry := 0, code := 0 } }
    let reported (k : Keypad) : Keypad := { k with reportedDown := [5], typematic := some (5, 500) }
    let long (k : Keypad) : Keypad := { k with scans := 7500 }
    ReleasesFive (heldDown [5] (fun k => { k with suppressed := [5] })) ∧ ReleasesFive (heldDown [5] reported) ∧
      ReleasesFive (heldDown [5] id) ∧ ReleasesFive (heldDown [] (in_ .blocked)) ∧
      ReleasesFive (heldDown [] (in_ .stuck)) ∧ 5 ∈ (heldDown [5] reported).keypad.reportedDown ∧
      5 ∉ (heldDown [5] reported).keypad.suppressed ∧ 5 ∉ (heldDown [5] id).keypad.reportedDown ∧
      FiveSticks (heldDown [5] long) ∧
      FiveSticks (heldDown [5] (fun k => { long k with reportedDown := [5] })) := by
  refine ⟨?_, ?_, ?_, ?_, ?_, ?_, ?_, ?_, ?_, ?_⟩ <;> decide +kernel

/-- Keys read as down. -/
def reads (l : List (Fin 64)) : BitVec 64 := l.foldl (fun r k => r ||| BitVec.twoPow 64 k.val) 0

/-- The chapter's rectangle of 10, 13, 34 and 37: 37 is pressed last. -/
theorem witness_GhostsAreBlocked :
    let s := heldDown [10, 13, 34] id
    s.Quiet ∧ s.LoneChange (reads [10, 13, 34, 37]) 37 ∧ s.keypad.keys[(37 : Fin 64)].state = .up ∧
      InRectangle s.keypad.isDown 37 ∧ (∀ k, ¬s.Sticks k) ∧ s.RepeatNotDue := by decide +kernel

/-- 37 BLOCKED, with key 0 outside the rectangle also down, and 30 in the queue. -/
def ghosted : State :=
  queued 30 (heldDown [0, 10, 13, 34] (fun k =>
    { k with
      keys := k.keys.set 37 { count := 4, state := .blocked, entry := 0, code := 0 }, suppressed := [37] }))

/-- A key is released, 37 being the one BLOCKED key. -/
abbrev Reexamines (reading : BitVec 64) (j : Fin 64) : Prop :=
  ghosted.LoneChange reading j ∧ ghosted.keypad.keys[j].state ≠ .up ∧ (37 : Fin 64) ≠ j ∧
    (∀ k : Fin 64, ghosted.keypad.keys[k].state = .blocked ↔ k = 37 ∨
      (k = j ∧ ghosted.keypad.keys[j].state = .blocked)) ∧
    (∀ k, k ≠ j → ¬ghosted.Sticks k) ∧ (ghosted.matcher.leave j).firesOn ghosted.tables.sequences 37 = none

/-- Key 0 is released, and the rectangle stays; key 10 is, and it is gone. -/
theorem witness_GhostsAreBlocked_released :
    ghosted.Quiet ∧ Reexamines (reads [10, 13, 34, 37]) 0 ∧ Reexamines (reads [0, 13, 34, 37]) 10 ∧
      InRectangle (fun k => decide (k ≠ 0) && ghosted.keypad.isDown k) 37 ∧
      ¬InRectangle (fun k => decide (k ≠ 10) && ghosted.keypad.isDown k) 37 ∧
      ghosted.tables.keymap[(37 : Fin 64)].kind = .normal ∧ ghosted.keypad.kept = .running ∧
      ghosted.path.state ≠ .dimmed ∧ ghosted.keypad.load + 2 ≤ 32 ∧ ghosted.RepeatNotDue ∧
      0 < ghosted.params.repeatDelay ∧ ghosted.matcher.firesOn ghosted.tables.sequences 37 = none := by
  refine ⟨?_, ?_, ?_, ?_, ?_, ?_, ?_, ?_, ?_, ?_, ?_, ?_⟩ <;> decide +kernel

/-- Key 5's repeat due at 500, in the scans of 496 and 500, with 31 and 32 in the queue; and a request that takes the
board out of RUNNING. -/
theorem witness_RepeatsComeAndFlushesEmpty :
    let s (n : Nat) := heldDown [5] (fun k => { k with typematic := some (5, 500), scans := n })
    (∀ n ∈ [124, 125], (s n).Quiet ∧ (s n).NoChange (BitVec.twoPow 64 5) ∧ (∀ k, ¬(s n).Sticks k) ∧
        (s n).keypad.typematic = some (5, 500)) ∧
      4 * (s 124).keypad.scans < 500 ∧ 500 ≤ 4 * (s 125).keypad.scans ∧ (queued 31 (s 125)).keypad.load + 1 ≤ 32 ∧
      ¬((queued 32 (s 125)).keypad.load + 1 ≤ 32) ∧
      exec (.requestPowerCycle 1 []) running = .next (after (.requestPowerCycle 1 []) running) ∧
      running.keypad.kept = .running ∧ (after (.requestPowerCycle 1 []) running).keypad.kept = .cycling :=
  ⟨by decide +kernel, by decide, by decide, by decide, by decide, rfl, by decide, by decide⟩

/-- The built-in slot 1 (RESTART in RUNNING, keys 56, 57, 63, hold 5 s): advanced, missed, ended, and cancelled in
HOLDING; slot 2 does not judge in RUNNING. A slot of key 5 and hold time 0 gives a NOTICE. -/
theorem witness_MatcherFollowsThePresses :
    let e := defaultSequences[(1 : Fin 4)]
    let quick : SeqSlot := { action := .notice, mask := 8, hold := 0, steps := [5] }
    let s := { lonely .service with tables := { (lonely .service).tables with
      sequences := (lonely .service).tables.sequences.set 3 quick } }
    e.JudgesIn .running ∧ ¬defaultSequences[(2 : Fin 4)].JudgesIn .running ∧ (e.reaches 3 0 = 0) ∧
      (e.reaches 56 0 = 1 ∧ 1 ≠ e.steps.length) ∧ (e.reaches 63 2 = e.steps.length ∧ e.hold ≠ 0) ∧
      ({ SlotProgress.clear with holding := some 63 }.holding.isSome = true) ∧
      (quick.JudgesIn .running ∧ quick.hold = 0 ∧ quick.reaches 5 0 = quick.steps.length) ∧
      s.Quiet ∧ s.LoneChange (BitVec.twoPow 64 5) 5 ∧ s.keypad.keys[(5 : Fin 64)].state = .up ∧
      ¬InRectangle s.keypad.isDown 5 ∧ (∀ k, ¬s.Sticks k) ∧ s.RepeatNotDue ∧
      s.tables.keymap[(5 : Fin 64)].kind = .service ∧ s.matcher.firesOn s.tables.sequences 5 = some 3 ∧
      s.tables.sequences[(3 : Fin 4)].action = .notice ∧ e.mask.getLsbD PowerState.running.code = true ∧
      e.mask.getLsbD PowerState.off.code = false := by decide +kernel

/-- A scan in RUNNING in which key 4 restarts the board by slot 2 and key 5 is slot 3's one step, both with hold 0. -/
def twoPresses : State :=
  { running with
    keypad := { running.keypad with scanning := true }
    tables := { running.tables with
      sequences := (running.tables.sequences.set 2 { action := .restart, mask := 8, hold := 0, steps := [4] }).set 3
        { action := .notice, mask := 8, hold := 0, steps := [5] } } }

/-- Key 4's press leaves the report of RESTARTING waiting at the matcher. -/
theorem witness_MatcherFollowsThePresses_report :
    (twoPresses.matcherPress 4).matcher.deferred = [.restarting] ∧
      (twoPresses.matcherPress 4).matcher.kept = .running := by decide +kernel

/-- Key 5's press then fires slot 3 if it is taken first, judged against RUNNING, and not if the report is (R116). -/
theorem test_press_or_report_first :
    let s := { twoPresses.matcherPress 4 with clockMs := 4995001 }
    let started (t : State) := t.beeper.oneShot.map OneShotPlay.start
    (started (s.judgePress 5), started (s.takeReports.judgePress 5)) = (some 4995001, some 4995000) ∧
      s.takeReports.matcher.kept = .restarting := by decide +kernel

/-- Slot 3 HOLDING, its action given. -/
def holding (a : SlotAction) (s : State) : State :=
  { s with
    tables := { s.tables with
      sequences := s.tables.sequences.set 3 ({ action := a, mask := 9, hold := 1, steps := [56] } : SeqSlot) }
    matcher := { s.matcher with
      slots := s.matcher.slots.set 3
        ({ progress := 1, holding := some 56, stepTimer := none, holdTimer := some (from4995 100) } : SlotProgress) } }

/-- Slots 2 and 3 due at one moment. -/
theorem witness_SequenceTimersExpire_together :
    let p : SlotProgress := { progress := 1, holding := some 56, stepTimer := none, holdTimer := some (from4995 100) }
    let s := { running with matcher := { running.matcher with
      slots := (running.matcher.slots.set 3 p).set 2 { p with holdTimer := some { start := 4995050, dur := 50 } } } }
    s.Quiet ∧ s.matcher.slots[(3 : Fin 4)].holdTimer = some (from4995 100) ∧
      s.matcher.slots[(2 : Fin 4)].holdTimer = some { start := 4995050, dur := 50 } ∧
      4995050 + 50 = (from4995 100).start + (from4995 100).dur := by decide

/-- Each action in the state that takes it and in one that does not. -/
theorem witness_SequenceTimersExpire :
    let p : SlotProgress := { progress := 2, holding := none, stepTimer := some (from4995 2000), holdTimer := none }
    let stepping := { running with matcher := { running.matcher with slots := running.matcher.slots.set 0 p } }
    let service := unpowered .serviceHold none none
    stepping.Quiet ∧ stepping.matcher.slots[(0 : Fin 4)].stepTimer = some (from4995 2000) ∧
      (∀ x ∈ [(SlotAction.notice, running), (.powerOn, running), (.powerOn, awake), (.restart, running),
          (.restart, awake), (.serviceRelease, service), (.serviceRelease, running)],
        let s := holding x.1 x.2
        s.Quiet ∧ s.matcher.slots[(3 : Fin 4)].holdTimer = some (from4995 100) ∧
          s.tables.sequences[(3 : Fin 4)].action = x.1 ∧
          ∀ j < (3 : Fin 4), s.matcher.slots[j].holdTimer.map (fun x => x.start + x.dur) ≠
            some ((from4995 100).start + (from4995 100).dur)) ∧
      running.power.state = .running ∧ awake.power.state = .off ∧ service.power.state = .serviceHold := by decide

theorem witness_BeeperKeepsItsPatterns :
    let b (o : Option OneShotPlay) (g : Option BackgroundPlay) : State :=
      { running with beeper := { oneShot := o, background := g, silenced := false } }
    let refuse : OneShotPlay := { pattern := .refuse, start := 4995000, seg := 1 }
    let service : BackgroundPlay := { pattern := .service, start := 4995000, seg := 4 }
    let hot : BackgroundPlay := { pattern := .hot, start := 4995000, seg := 0 }
    (b (some refuse) none).Ready ∧ (b (some refuse) none).beeper.oneShot = some refuse ∧ refuse.seg < 2 ∧
      (b none (some service)).beeper.oneShot = none ∧ (b none (some service)).beeper.background = some service ∧
      service.seg < 5 ∧ (b none (some hot)).beeper.background = some hot ∧
      (OneShot.click = .click ∧ refuse.pattern ≠ .click) ∧ OneShot.refuse ≠ .click ∧
      ({ refuse with pattern := .click }.pattern = .click) ∧
      (PowerState.off ≠ .serviceHold ∧ PowerState.off ≠ .hotOff) := by decide

/-! ### Management -/

/-- A commit is in progress. -/
def committing : State := { running with mgmt := { running.mgmt with commit := .inProgress } }

/-- The slot full, and empty with payloads of 0, 1 and more characters; a commit in progress. -/
theorem witness_RequestsTurnedAway :
    (running.Ready ∧ running.Hears ∧ running.sys.slot = .empty) ∧
      ((sendingReply running).Ready ∧ (sendingReply running).Hears ∧ (sendingReply running).sys.slot ≠ .empty) ∧
      requestPayload (.unknownCommand []) = some [] ∧ requestPayload (.unknownCommand [1]) = some [1] ∧
      requestPayload (.unknownCommand [14, 9]) = some (14 :: 9 :: []) ∧ 13 < (14#8).toNat ∧
      requestPayload (.commitProfile 9 []) = some (12 :: 9 :: []) ∧
      (committing.Ready ∧ committing.Hears ∧ committing.sys.slot = .empty ∧
        committing.mgmt.commit = .inProgress) := by decide

/-- Every argument that is turned away, at its bound. -/
theorem witness_RequestsTurnedAway_arguments :
    running.Served ∧ running.ServedFree ∧ ([0#8] : List Byte) ≠ [] ∧ ([] : List Byte).length ≠ 1 ∧
      6 < (7#8).toNat ∧ (6#8).toNat ≤ 6 ∧ ([64, 64, 4, 3, 8, 54, 2][(0#8).toNat]?.getD 0 ≤ (64#8).toNat) ∧
      ([64, 64, 4, 3, 8, 54, 2][(6#8).toNat]?.getD 0 ≤ (2#8).toNat) ∧ 64 ≤ (64#8).toNat ∧ 2 < (3#8).toNat ∧
      running.power.log.length ≤ (1#8).toNat ∧ (7#8).toNat < 8 ∧ 3 < (4#8).toNat ∧ 10 < (11#8).toNat ∧
      ([64#8].length = (1#8).toNat ∧ 4 ≤ (4#8).toNat ∧ ∃ k ∈ [64#8], 64 ≤ k.toNat) ∧
      (List.replicate 17 (0#8)).length = 17 ∧ 3 ≤ (3#8).toNat ∧ (List.replicate 15 (0#8)).length = 15 ∧
      (6 ≤ (254#8).toNat ∧ 254#8 ≠ 255#8) ∧ 8 ≤ (8#8).toNat ∧ 16 < (17#8).toNat ∧ 2 ≤ (2#8).toNat ∧
      (1 < (2#8).toNat ∧ ([1#8] : List Byte).length < 2 ∧ ([1#8, 2, 3] : List Byte).length ≠ 2) := by decide

/-- The clear flag clear and set; first class 63; record 0; and a class with an entry beside one without. -/
theorem witness_ReadingRequestsAnswer :
    running.Served ∧ (2#8).getLsbD 0 = false ∧ (1#8).getLsbD 0 = true ∧
      ((7 : Fin 64).val < 8 ∧ (63 : Fin 64).val = (55 : Fin 56).val + 8) ∧
      (63#8).toNat < 64 ∧ running.power.log[(0#8).toNat]? = some firstRecord := by decide

theorem witness_SetEntryStoresTheEntry :
    let e : SeqSlot := { action := .notice, mask := 8, hold := 101, steps := List.replicate 10 63 }
    let r := { defaultZones.board with priority := 0 }
    running.ServedFree ∧ ClassEntry.default.minLength < 256 ∧ ClassEntry.default.maxLength < 256 ∧
      ClassEntry.default.coalesce = false ∧ { ClassEntry.default with coalesce := true }.coalesce = true ∧
      running.tables.classes[(0 : Fin 56)].coalesce = false ∧ (8 : Fin 64).val = (0 : Fin 56).val + 8 ∧
      (-32768 ≤ (-32768 : Int) ∧ (32767 : Int) < 32768) ∧ (List.replicate 16 (0#8)).length ≤ 16 ∧
      (e.hold < 256 ∧ e.steps.length ≤ 10) ∧ PrioritiesPermuted running.tables.zones ∧
      (-32768 ≤ r.tstart ∧ r.tstart < 32768 ∧ r.hyst ≤ 255 ∧ r.soakTarget ≤ 65535 ∧ -32768 ≤ r.thold ∧
        r.thold < 32768 ∧ r.band ≤ 255 ∧ -32768 ≤ r.tcut ∧ r.tcut < 32768 ∧ -32768 ≤ r.tminAbs ∧ r.tminAbs < 32768 ∧
        r.watts ≤ 255 ∧ r.priority ≤ 255) ∧ ZoneId.display ≠ .board ∧ 63 < (64#8).toNat ∧
      (List.replicate 16 (0#8)).length = (16#8).toNat ∧ (16#8).toNat ≤ 16 := by decide

/-- Parameters 1 and 53 at the ends of the list, one of listed values and one with a range that another bounds. -/
theorem witness_ParameterWritesChangeOneValue :
    Params.default.Ordered ∧ (1 ≤ 1 ∧ 53 ≤ 53) ∧ acceptedValues 1 = some [250, 500, 1000, 2000] ∧
      (250 : Int) ∈ [(250 : Int), 500, 1000, 2000] ∧ (251 : Int) ∉ [(250 : Int), 500, 1000, 2000] ∧
      acceptedValues 53 = some [0, 1] ∧ Params.default.limits 3 = some (0, 7) ∧
      Params.default.limits 7 = some (0, 60) ∧ (0 ≤ (60 : Int) ∧ (60 : Int) ≤ 60) ∧ ¬((61 : Int) ≤ 60) ∧
      (4 : Nat) ≠ 5 := by decide

theorem witness_SetParameterStoresTheValue :
    running.ServedFree ∧ 53 < (54#8).toNat ∧ 1 ≤ (1#8).toNat ∧ (53#8).toNat ≤ 53 ∧
      (running.params.write (1#8).toNat (0#8 ++ 0#8 ++ 0#8 ++ 251#8 : BitVec 32).toInt).2 = .badValue ∧
      (running.params.write (53#8).toNat (0#8 ++ 0#8 ++ 0#8 ++ 0#8 : BitVec 32).toInt).2 ≠ .badValue ∧
      (running.params.write (30#8).toNat (0#8 ++ 0#8 ++ 0#8 ++ 1#8 : BitVec 32).toInt).2 ≠ .badValue ∧
      (running.params.write (44#8).toNat (0#8 ++ 0#8 ++ 75#8 ++ 0#8 : BitVec 32).toInt).2 ≠ .badValue ∧
      (running.params.write (45#8).toNat (0#8 ++ 0#8 ++ 75#8 ++ 0#8 : BitVec 32).toInt).2 ≠ .badValue := by decide

theorem witness_PowerRequestsActByState :
    running.Served ∧ running.mgmt.pendingSoft = false ∧ running.power.state = .running ∧
      running.power.resetAsserted = false ∧ running.params.hostOffDelay ≠ 0 ∧
      (let n := tuned (fun p => { p with hostOffDelay := 0 }) running
       n.Served ∧ n.mgmt.pendingSoft = false ∧ n.power.state = .running ∧ n.power.resetAsserted = false ∧
         n.params.hostOffDelay = 0) ∧
      shuttingDown.Served ∧ shuttingDown.mgmt.pendingSoft = false ∧ shuttingDown.power.state = .shutdown ∧
      booting.Served ∧ booting.mgmt.pendingSoft = false ∧ booting.power.state ≠ .running ∧
      booting.power.state ≠ .shutdown ∧
      (running.power.boardPower = true ∧ { running.heat with reserveHeld := true }.reserveHeld = true) := by decide

theorem witness_DisplayRequestsActByState :
    let d := displayIn .dimmed none none (some (from4995 5000)) none
    (running.Served ∧ running.path.state = .opened) ∧ (d.Served ∧ d.path.state ≠ .opened ∧ d.path.state = .dimmed) ∧
      d.path.heatDim = false ∧ { d.path with heatDim := true }.heatDim = true ∧ d.path.state ≠ .off ∧
      (displayIn .off none none none none).Served ∧ (displayIn .off none none none none).path.state = .off ∧
      ([0#8] : List Byte) ≠ [] := by decide

theorem witness_WaitingWorkIsNotedAndCommitted :
    running.Served ∧ (-32768 ≤ (-32768 : Int) ∧ (32767 : Int) < 32768) ∧ 7 ≤ (7#8).toNat ∧
      running.mgmt.commit ≠ .inProgress ∧ running.Ready ∧ committing.Ready ∧
      committing.mgmt.commit = .inProgress := by decide

/-- A soft reset pending: its reply sent, and its reply discarded by a BREAK. -/
theorem witness_SoftResetFollowsItsReply :
    let s := sendingReply { running with mgmt := { running.mgmt with pendingSoft := true } }
    s.Ready ∧ s.mgmt.pendingSoft = true ∧
      s.sys.tx = some { content := .reply { command := 5, tag := 0, status := .ok, data := [] }, rate := 115200 } ∧
      running.live.stage = .watching ∧ s.sys.receives = true ∧ s.sys.slot ≠ .empty ∧
      exec (.lineBreak .system) s = .next (after (.lineBreak .system) s) ∧
      (after (.lineBreak .system) s).held = false ∧ (after (.lineBreak .system) s).sys.slot = .empty :=
  ⟨by decide, by decide, by decide, by decide, by decide, by decide, rfl, by decide, by decide⟩

/-- A break, and board power lost, end the reply: an image that is not accepted, the stage kept right, a zone with
other channels, a class that the load makes coalesce with a frame queued, and no rate to change. -/
theorem witness_SoftResetFollowsItsReply_discarded :
    let soft (s : State) := sendingReply { s with mgmt := { s.mgmt with pendingSoft := true } }
    let lost := soft { running with power := { running.power with pgSeen := true, pgLevel := true } }
    let merging : Tables :=
      { Tables.default with classes := Tables.default.classes.set 4 { ClassEntry.default with coalesce := true } }
    let s := soft { running with
      tables := { running.tables with zones := { running.tables.zones with
        board := { running.tables.zones.board with first := 5 } } }
      store := { version := 1, crcOk := true, unknownEnum := false, tables := merging.image }
      path := { running.path with queue := [{ cls := 12, payload := [], coalesce := false }] } }
    let t := after (.lineBreak .system) s
    (lost.Ready ∧ lost.sys.slot ≠ .empty ∧ (after (.powerGoodChange false) lost).sys.slot = .empty ∧
      (after (.powerGoodChange false) lost).held = false) ∧
    (s.Ready ∧ s.mgmt.pendingSoft = true ∧ s.sys.slot ≠ .empty ∧ t.sys.slot = .empty ∧ t.held = false ∧
      s.KeptRight ∧ s.StageRight ∧ t.live.stage = .watching ∧
      (s.tables.zones.get .board).first ≠ (t.tables.zones.get .board).first ∧
      t.tables.coalesceOf 12 = true ∧ s.tables.coalesceOf 12 = false) ∧
    (after (.lineBreak .system) (soft running)).store.accepted = false ∧
    (soft running).sys.rateChange = none ∧
    (soft running).sys.rate = (after .systemFrameSent (soft running)).params.systemRate ∧
    (soft running).disp.rate = (after .systemFrameSent (soft running)).params.displayRate := by decide +kernel

/-! ### The invariants -/

theorem witness_StepsKeepTheBlocksTogether :
    (waiting .graceTimerExpiry warned).AtRest ∧ (waiting .graceTimerExpiry warned).KeptRight ∧
      (waiting .graceTimerExpiry warned).StageRight ∧ ∃ t, step (waiting .graceTimerExpiry warned) = .next t :=
  ⟨by decide, by decide, by decide, _, rfl⟩

theorem witness_StepsKeepTheOutputsAndLinksRight :
    let a := waiting .graceTimerExpiry { warned with heat := { warned.heat with reserveHeld := true, reserve := 60 } }
    let b := waiting (.requestPowerCycle 1 []) running
    (a.power.OutputsRight ∧ a.ReserveRight ∧ ∃ t, step a = .next t) ∧ b.LinkRight ∧ b.PathRight ∧
      b.path.heatDim = b.thermal.heatDim ∧ ∃ t, step b = .next t :=
  ⟨⟨by decide, by decide, _, rfl⟩, by decide, by decide, by decide, _, rfl⟩

theorem witness_StepsKeepTheQueuesBounded :
    let s := waiting (.scan (BitVec.twoPow 64 5)) (lonely .normal)
    let f := waiting (.loadableSystemFrame 12 []) running
    s.ListsBounded ∧ s.keypad.RoomKept ∧ s.mgmt.QueueRight ∧ (∃ t, step s = .next t) ∧ f.DisplayQueueRight ∧
      ∃ t, step f = .next t :=
  ⟨by decide, by decide, by decide, ⟨_, rfl⟩, by decide +kernel, _, rfl⟩

theorem witness_StepsKeepTheKeypadAndSlotsRight :
    let s := waiting (.scan (BitVec.twoPow 64 5)) (heldDown [5, 6] (fun k =>
      { k with reportedDown := [5], suppressed := [6], typematic := some (5, 500) }))
    s.keypad.SetsRight ∧ s.SlotsRight ∧ ∃ t, step s = .next t := ⟨by decide +kernel, by decide +kernel, _, rfl⟩

theorem witness_StepsKeepTheTablesOrdered :
    let s := waiting (.setEntryParameter 1 [2, 5, 0, 0, 0]) running
    s.params.Ordered ∧ PrioritiesPermuted s.tables.zones ∧ ∃ t, step s = .next t := ⟨by decide, by decide, _, rfl⟩

theorem witness_StepsKeepTheHeatersRight :
    let s := waiting (.conversionComplete 2050) (finalOf 30 60 (valid 450) running)
    s.heat.Right ∧ ∃ t, step s = .next t := ⟨by decide, _, rfl⟩

/-- The third cool evaluation in HOT_OFF, and the service release's hold expiry in SERVICE_HOLD: both states are
left. -/
theorem witness_HotOffAndServiceHoldAreLeftOnlyAsStated :
    let a := waiting (.conversionComplete 2050) (finalOf 230 60 (valid 450) cooling)
    let b := waiting (.holdTimerExpiry 3) (holding .serviceRelease (unpowered .serviceHold none none))
    (a.held = false ∧ a.power.state = .hotOff ∧ (∀ cause rest, a.pending ≠ .coldReset cause :: rest) ∧
      step a = .next (after (.conversionComplete 2050) { a with pending := [] }) ∧
      (after (.conversionComplete 2050) { a with pending := [] }).power.state = .preheat) ∧
    (b.held = false ∧ b.power.state = .serviceHold ∧ (∀ cause rest, b.pending ≠ .coldReset cause :: rest) ∧
      step b = .next (after (.holdTimerExpiry 3) { b with pending := [] }) ∧
      (after (.holdTimerExpiry 3) { b with pending := [] }).power.state = .preheat) :=
  ⟨⟨by decide, by decide, (by intro _ _ h; cases h), rfl, by decide⟩,
    ⟨by decide, by decide, (by intro _ _ h; cases h), rfl, by decide⟩⟩

end Sys2Proof.Tests
end

section
/-! PROOF. Writes of a parameter, of a zone record and the load of an image: what they store, and the orders that they
keep (R3, R17, R24, R78, R177). -/

namespace Sys2Proof.Machine

/-- The parameters are in order and the priorities a permutation (R3, R17, R24, R78). -/
structure Tables.InOrder (t : Tables) : Prop where
  params : t.params.Ordered
  priorities : PrioritiesPermuted t.zones

/-! ## The four kinds of parameter write -/

theorem writeRange_fst {P : Params → Prop} {lo hi v : Int} {store : Int → Params} (h : lo ≤ hi)
    (hs : ∀ w, lo ≤ w → w ≤ hi → P (store w)) : P (writeRange lo hi v store).1 :=
  hs _ (clampInt_mem h v).1 (clampInt_mem h v).2

theorem writeNat_fst {P : Params → Prop} {lo hi : Nat} {v : Int} {store : Nat → Params} (h : lo ≤ hi)
    (hs : ∀ w, lo ≤ w → w ≤ hi → P (store w)) : P (writeNat lo hi v store).1 :=
  writeRange_fst (P := P) (by omega) (fun w h1 h2 => hs w.toNat (by omega) (by omega))

theorem writeFlag_fst {P : Params → Prop} {p : Params} {v : Int} {store : Bool → Params} (hp : P p)
    (hs : ∀ b, P (store b)) : P (writeFlag p v store).1 := by
  unfold writeFlag
  split
  · exact hs false
  · split
    · exact hs true
    · exact hp

theorem writeListed_fst {P : Params → Prop} {p : Params} {vs : List Nat} {v : Int} {store : Nat → Params} (hp : P p)
    (hs : ∀ x, P (store x)) : P (writeListed p vs v store).1 := by
  unfold writeListed
  split
  · exact hs _
  · exact hp

/-! ## The parameters stay in order (R3, R24, R78) -/

theorem index8_val {n : Nat} (h : n < 8) : (index8 n).val = n := Nat.mod_eq_of_lt h

theorem Params.writeFirst_ordered {p : Params} (h : p.Ordered) (v : Int) : (p.writeFirst v).1.Ordered := by
  obtain ⟨hidx, hrest⟩ := h
  exact writeNat_fst (P := Params.Ordered) (by decide) (fun w _ _ => ⟨le_max_right _ _, hrest⟩)

theorem Params.writeLast_ordered {p : Params} (h : p.Ordered) (v : Int) : (p.writeLast v).1.Ordered := by
  obtain ⟨hidx, hrest⟩ := h
  have hv := clampInt_mem (lo := 0) (hi := 7) (by decide) v
  refine ⟨?_, hrest⟩
  show p.firstIndex.val ≤ (index8 (max p.firstIndex.val (clampInt 0 7 v).toNat)).val
  rw [index8_val (by omega)]
  exact le_max_left _ _

theorem Params.writeNormalBudget_ordered {p : Params} (h : p.Ordered) (v : Int) :
    (p.writeNormalBudget v).1.Ordered := by
  obtain ⟨hidx, hres, hbud, hrest⟩ := h
  refine writeNat_fst (P := Params.Ordered) (by decide) (fun w _ _ => ⟨hidx, ?_, ?_, hrest⟩)
  · exact min_le_right _ _
  · exact min_le_right _ _

theorem Params.writeBrownoutBudget_ordered {p : Params} (h : p.Ordered) (v : Int) :
    (p.writeBrownoutBudget v).1.Ordered := by
  obtain ⟨hidx, hres, hbud, hrest⟩ := h
  exact writeNat_fst (P := Params.Ordered) (Nat.zero_le _) (fun w _ hw => ⟨hidx, min_le_right _ _, hw, hrest⟩)

theorem Params.writeHbMax_ordered {p : Params} (h : p.Ordered) (v : Int) : (p.writeHbMax v).1.Ordered := by
  obtain ⟨hidx, hres, hbud, hrest⟩ := h
  refine writeNat_fst (P := Params.Ordered) (by decide) (fun w h1 h2 => ⟨hidx, hres, hbud, h1, h2, ?_⟩)
  show (if w ≤ p.hbMin then w - 1 else p.hbMin) < w
  split <;> omega

theorem Params.writeHbMin_ordered {p : Params} (h : p.Ordered) (v : Int) : (p.writeHbMin v).1.Ordered := by
  obtain ⟨hidx, hres, hbud, h1, h2, hmin⟩ := h
  refine ⟨hidx, hres, hbud, h1, h2, ?_⟩
  show min _ (p.hbMax - 1) < p.hbMax
  omega

/-- No other write touches a field that is ordered. -/
theorem Params.write_ordered {p : Params} (h : p.Ordered) (n : Nat) (v : Int) : (p.write n v).1.Ordered := by
  unfold Params.write
  split
  case h_2 => exact p.writeFirst_ordered h v
  case h_3 => exact p.writeLast_ordered h v
  case h_5 => exact p.writeNormalBudget_ordered h v
  case h_6 => exact p.writeBrownoutBudget_ordered h v
  case h_7 =>
    obtain ⟨hidx, hres, hrest⟩ := h
    exact writeNat_fst (P := Params.Ordered) (Nat.zero_le _) (fun w _ hw => ⟨hidx, hw, hrest⟩)
  case h_35 => exact p.writeHbMax_ordered h v
  case h_36 => exact p.writeHbMin_ordered h v
  case h_1 | h_24 | h_44 | h_45 => exact writeListed_fst h (fun _ => h)
  case h_12 | h_21 | h_31 | h_32 | h_33 | h_42 | h_52 | h_53 => exact writeFlag_fst h (fun _ => h)
  all_goals exact h

theorem Params.default_ordered : Params.default.Ordered := by decide

theorem loadParams_ordered (v : Vector Int 53) : (loadParams v).Ordered := by
  unfold loadParams
  generalize List.finRange 53 = l
  generalize hq : Params.default = q
  have h : q.Ordered := hq ▸ Params.default_ordered
  clear hq
  induction l generalizing q with
  | nil => exact h
  | cons n l ih => exact ih _ (Params.write_ordered h _ _)

/-! ## The priorities stay a permutation (R17, R18) -/

@[simp] theorem PerZone.get_set {α : Type} (p : PerZone α) (z o : ZoneId) (x : α) :
    (p.set z x).get o = if o = z then x else p.get o := by
  cases z <;> cases o <;> rfl

@[simp] theorem PerZone.get_map {α β : Type} (f : α → β) (p : PerZone α) (z : ZoneId) :
    (p.map f).get z = f (p.get z) := by
  cases z <;> rfl

theorem prioritiesPermuted_iff (t : PerZone ZoneRecord) : PrioritiesPermuted t ↔
    (∀ z, (t.get z).priority < 3) ∧ ∀ a b, (t.get a).priority = (t.get b).priority → a = b := by
  constructor
  · rintro ⟨hb, hd, hf, hbd, hbf, hdf⟩
    refine ⟨fun z => by cases z <;> assumption, fun a b hab => ?_⟩
    cases a <;> cases b <;> simp_all [PerZone.get]
  · rintro ⟨hlt, hinj⟩
    have hne {a b : ZoneId} (hab : a ≠ b) : (t.get a).priority ≠ (t.get b).priority := mt (hinj a b) hab
    exact ⟨hlt .board, hlt .display, hlt .front, hne (a := .board) (b := .display) (by decide),
      hne (a := .board) (b := .front) (by decide), hne (a := .display) (b := .front) (by decide)⟩

theorem swapPriorities_get (z o : ZoneId) (r : ZoneRecord) (t : PerZone ZoneRecord) :
    (swapPriorities z r t).get o =
      if o = z then r
      else { t.get o with
        priority := if (t.get o).priority = r.priority then (t.get z).priority else (t.get o).priority } := by
  simp only [swapPriorities, PerZone.get_set, PerZone.get_map]
  split
  · rfl
  · split <;> rfl

/-- A store exchanges two numbers among the priorities: the written one and the record's former one. -/
theorem swapPriorities_priority {t : PerZone ZoneRecord} (h : PrioritiesPermuted t) (z o : ZoneId) (r : ZoneRecord) :
    ((swapPriorities z r t).get o).priority =
      Equiv.swap (t.get z).priority r.priority (t.get o).priority := by
  have hinj := ((prioritiesPermuted_iff t).mp h).2 o z
  rw [swapPriorities_get, Equiv.swap_apply_def]
  by_cases ho : o = z
  · simp [ho]
  · simp [ho, mt hinj ho]

theorem swapPriorities_permuted {t : PerZone ZoneRecord} (h : PrioritiesPermuted t) (z : ZoneId) {r : ZoneRecord}
    (hr : r.priority < 3) : PrioritiesPermuted (swapPriorities z r t) := by
  obtain ⟨hlt, hinj⟩ := (prioritiesPermuted_iff t).mp h
  refine (prioritiesPermuted_iff _).mpr ⟨fun o => ?_, fun a b hab => ?_⟩
  · have hz := hlt z
    have ho := hlt o
    rw [swapPriorities_priority h, Equiv.swap_apply_def]
    split_ifs <;> assumption
  · rw [swapPriorities_priority h, swapPriorities_priority h] at hab
    exact hinj a b ((Equiv.swap _ _).injective hab)

theorem ZoneRecord.corrected_priority_lt (r : ZoneRecord) : r.corrected.priority < 3 :=
  Nat.lt_succ_of_le (clampNat_mem (by decide) _).2

theorem normaliseZones_permuted (z : PerZone ZoneRecord) : PrioritiesPermuted (normaliseZones z) := by
  have hd : PrioritiesPermuted defaultZones := by decide
  exact swapPriorities_permuted (swapPriorities_permuted (swapPriorities_permuted hd _
    (ZoneRecord.corrected_priority_lt _)) _ (ZoneRecord.corrected_priority_lt _)) _
    (ZoneRecord.corrected_priority_lt _)

end Sys2Proof.Machine
end


section
namespace Sys2Proof.Machine

/-! ## Every step keeps the orders -/

theorem Tables.InOrder.of_eq {t u : Tables} (h : t.InOrder) (he : u.params = t.params ∧ u.zones = t.zones) :
    u.InOrder := by
  obtain ⟨hp, hz⟩ := he
  exact ⟨hp ▸ h.params, hz ▸ h.priorities⟩

theorem Tables.default_inOrder : Tables.default.InOrder := ⟨by decide, by decide⟩

theorem StoreImage.load_inOrder (i : StoreImage) : i.load.InOrder := by
  unfold StoreImage.load
  split
  · exact ⟨loadParams_ordered _, normaliseZones_permuted _⟩
  · exact Tables.default_inOrder

@[simp] theorem Tables.setClass_params (c : Nat) (e : ClassEntry) (t : Tables) :
    (t.setClass c e).params = t.params := by
  unfold Tables.setClass; split <;> rfl

@[simp] theorem Tables.setClass_zones (c : Nat) (e : ClassEntry) (t : Tables) :
    (t.setClass c e).zones = t.zones := by
  unfold Tables.setClass; split <;> rfl

/-! ### The requests: only SET_ENTRY of a zone and of a parameter write what is ordered -/

@[simp] theorem State.setClass_params_zones (args : List Byte) (s : State) :
    (s.setClass args).state.tables.params = s.tables.params ∧
      (s.setClass args).state.tables.zones = s.tables.zones := by
  unfold State.setClass; (repeat' split) <;> simp; split <;> simp

@[simp] theorem State.setKeymap_params_zones (args : List Byte) (s : State) :
    (s.setKeymap args).state.tables.params = s.tables.params ∧
      (s.setKeymap args).state.tables.zones = s.tables.zones := by
  unfold State.setKeymap; (repeat' split) <;> simp

@[simp] theorem State.setSequence_params_zones (args : List Byte) (s : State) :
    (s.setSequence args).state.tables.params = s.tables.params ∧
      (s.setSequence args).state.tables.zones = s.tables.zones := by
  unfold State.setSequence; (repeat' split) <;> simp

@[simp] theorem State.setChannel_params_zones (args : List Byte) (s : State) :
    (s.setChannel args).state.tables.params = s.tables.params ∧
      (s.setChannel args).state.tables.zones = s.tables.zones := by
  unfold State.setChannel; (repeat' split) <;> simp

@[simp] theorem State.setInject_params_zones (args : List Byte) (s : State) :
    (s.setInject args).state.tables.params = s.tables.params ∧
      (s.setInject args).state.tables.zones = s.tables.zones := by
  unfold State.setInject; (repeat' split) <;> simp

theorem State.setZone_inOrder {s : State} (h : s.tables.InOrder) (args : List Byte) :
    (s.setZone args).state.tables.InOrder := by
  unfold State.setZone
  split
  · split
    · exact h
    · split
      · exact ⟨h.1, swapPriorities_permuted h.2 _ (ZoneRecord.corrected_priority_lt _)⟩
      · exact h
  · exact h

theorem State.parameterStored_tables (n : Nat) (s : State) : (s.parameterStored n).tables = s.tables := by simp

theorem State.setParameter_inOrder {s : State} (h : s.tables.InOrder) (args : List Byte) :
    (s.setParameter args).state.tables.InOrder := by
  unfold State.setParameter
  split
  · split
    · dsimp only
      split
      · exact h
      · simp only [State.parameterStored_tables, State.onTables_tables]
        exact ⟨Params.write_ordered h.1 _ _, h.2⟩
    · exact h
  · exact h

theorem State.setEntry_inOrder {s : State} (h : s.tables.InOrder) (args : List Byte) :
    (s.setEntry args).state.tables.InOrder := by
  unfold State.setEntry
  split
  · exact h
  · split
    case h_4 => exact State.setZone_inOrder h _
    case h_6 => exact State.setParameter_inOrder h _
    all_goals exact h.of_eq (by simp)

theorem State.unlessCommitting_inOrder {s : State} {request : State → Answer} (h : s.tables.InOrder)
    (hr : (request s).state.tables.InOrder) : (s.unlessCommitting request).state.tables.InOrder := by
  unfold State.unlessCommitting
  split
  · exact h
  · exact hr

theorem State.command_inOrder {s : State} (h : s.tables.InOrder) (code : Nat) (args : List Byte) :
    (s.command code args).state.tables.InOrder := by
  unfold State.command
  split
  case h_5 => exact State.unlessCommitting_inOrder h (State.setEntry_inOrder h args)
  case h_12 | h_13 => exact State.unlessCommitting_inOrder h (by simpa using h)
  all_goals simpa using h

theorem State.serve_inOrder {s : State} {request : State → Answer} (command tag : Byte) (h : s.tables.InOrder)
    (hr : (request s).state.tables.InOrder) : (s.serve command tag request).tables.InOrder := by
  unfold State.serve
  split
  · simpa using h
  · simpa using hr

theorem State.manage_inOrder {s : State} (h : s.tables.InOrder) (payload : List Byte) :
    (s.manage payload).tables.InOrder := by
  unfold State.manage
  split
  · exact State.serve_inOrder _ _ h h
  · exact State.serve_inOrder _ _ h h
  · exact State.serve_inOrder _ _ h (State.command_inOrder h _ _)

/-! ### Work that keeps the orders -/

/-- A command's work keeps the tables in order. -/
abbrev KeepsOrder (work : State → State) : Prop := ∀ s, s.tables.InOrder → (work s).tables.InOrder

theorem KeepsOrder.of_tables {work : State → State} (h : ∀ s, (work s).tables = s.tables) : KeepsOrder work :=
  fun s hs => (h s).symm ▸ hs

theorem State.reservedFromBoard_keepsOrder (f : Frame) : KeepsOrder (State.reservedFromBoard f) := by
  intro s h
  unfold State.reservedFromBoard
  split
  · exact State.manage_inOrder (by simpa using h) _
  · simpa using h
  · simpa using h

theorem State.frameFromBoard_keepsOrder (f : Frame) : KeepsOrder (State.frameFromBoard f) := by
  intro s h
  unfold State.frameFromBoard
  split
  · exact State.reservedFromBoard_keepsOrder f s h
  · simpa using h

theorem State.boardFrame_keepsOrder {route : State → State} (h : KeepsOrder route) :
    KeepsOrder (State.boardFrame route) := by
  intro s hs
  unfold State.boardFrame
  split
  · exact h _ (by simpa using hs)
  · exact hs

theorem State.displayFrame_tables {route : State → State} (h : ∀ s, (route s).tables = s.tables) (s : State) :
    (s.displayFrame route).tables = s.tables := by
  simp [State.displayFrame, h]

theorem State.requestFrame_keepsOrder {request : State → Answer} (code : Nat) (tag : Byte)
    (h : ∀ s : State, s.tables.InOrder → (request s).state.tables.InOrder) :
    KeepsOrder (State.requestFrame code tag request) :=
  State.boardFrame_keepsOrder (fun s hs =>
    State.serve_inOrder _ _ (by simpa using hs) (h (s.passed 0) (by simpa using hs)))

theorem State.boardJudgement_keepsOrder (j : Judgement) : KeepsOrder (State.boardJudgement j) := by
  intro s hs
  have h1 : (j.outcomes.foldl State.systemOutcome (s.onSys (fun p => { p with rx := j.rx }))).tables.InOrder := by
    rw [foldl_keeps State.tables State.systemOutcome (by simp)]
    exact hs
  unfold State.boardJudgement
  split
  · exact State.frameFromBoard_keepsOrder _ _ h1
  · exact h1

theorem State.characterAt_keepsOrder (port : Port) (data : Byte) (mark stop : Bool) :
    KeepsOrder (State.characterAt port data mark stop) := by
  intro s hs
  cases port
  · show (s.boardCharacter data mark stop).tables.InOrder
    unfold State.boardCharacter
    split
    · dsimp only
      split
      · simpa using hs
      · exact State.boardJudgement_keepsOrder _ _ (by simpa using hs)
    · exact hs
  · show (s.displayCharacter data mark stop).tables.InOrder
    simpa using hs

theorem State.character_keepsOrder (port : Port) (data : Byte) (mark : Bool) (stop : StopBit) :
    KeepsOrder (State.character port data mark stop) := by
  cases stop
  · exact State.characterAt_keepsOrder port data mark true
  · exact State.characterAt_keepsOrder port data mark false
  · exact .of_tables (fun s => by simp [State.character])

theorem State.onExpiry_tables (timer : Option Timer) {work : Timer → State → State}
    (h : ∀ t s, (work t s).tables = s.tables) (s : State) : (s.onExpiry timer work).tables = s.tables := by
  unfold State.onExpiry
  split <;> simp [h]

theorem State.onExpiryIn_tables (here : Bool) (timer : Option Timer) {work : State → State}
    (h : ∀ s, (work s).tables = s.tables) (s : State) : (s.onExpiryIn here timer work).tables = s.tables := by
  unfold State.onExpiryIn
  split
  · exact State.onExpiry_tables timer (fun _ => h) s
  · rfl

/-- The end of a step changes the tables only by a soft reset, which loads the store (R179). -/
theorem State.finish_tables (s : State) : s.finish.tables = s.tables ∨ s.finish.tables = s.store.load := by
  unfold State.finish State.replyEndTaken State.softReset
  by_cases h : s.mgmt.replyEnded = true <;> by_cases hp : s.mgmt.pendingSoft = true <;>
    simp [h, hp, State.reload, State.blocksSoftReset]

theorem State.finish_keepsOrder : KeepsOrder State.finish := by
  intro s h
  rcases s.finish_tables with ht | ht <;> rw [ht]
  · exact h
  · exact s.store.load_inOrder

theorem State.perform_keepsOrder {work : State → State} (h : KeepsOrder work) : KeepsOrder (State.perform work) := by
  intro s hs
  unfold State.perform
  split
  · exact hs
  · exact State.finish_keepsOrder _ (h s hs)

theorem State.leaveReset_inOrder (s : State) : s.leaveReset.tables.InOrder := by
  have h : s.leaveReset.tables = s.store.load := by simp [State.leaveReset, State.loadProfile]
  exact h ▸ s.store.load_inOrder

/-- Every command keeps the orders: the requests and frames that carry them write in order, the two resets load in
order, and no other command's work touches the tables. -/
theorem exec_keepsOrder (c : Instr) {s t : State} (h : s.tables.InOrder) (ht : exec c s = .next t) :
    t.tables.InOrder := by
  have perform {work : State → State} (hw : KeepsOrder work) (ht : (.next (s.perform work) : Answered) = .next t) :
      t.tables.InOrder := by
    cases ht
    exact State.perform_keepsOrder hw s h
  have request {code : Nat} {tag : Byte} {r : State → Answer}
      (hr : ∀ s : State, s.tables.InOrder → (r s).state.tables.InOrder)
      (ht : (.next (s.perform (State.requestFrame code tag r)) : Answered) = .next t) : t.tables.InOrder :=
    perform (State.requestFrame_keepsOrder code tag hr) ht
  cases c with
  | coldReset cause => cases ht; exact Tables.default_inOrder
  | coldResetRelease =>
    cases ht
    split
    · exact State.finish_keepsOrder _ s.leaveReset_inOrder
    · exact h
  | powerGoodChange high =>
    cases ht
    split
    · exact h
    · exact State.perform_keepsOrder (.of_tables (by simp)) s h
  | hostReadyChange asserted => cases ht; exact h
  | cycleStart | conversionComplete _ | reserveGranted | heaterSlotStart | lineBreak _ | systemTxBegin
  | systemFrameSent | displayFrameSent | scan _ | beeperSegmentEnd | oneShotEnd | backgroundPeriodStart | commitEnd _
  | breakEnd => exact perform (.of_tables (by simp)) ht
  | preheatLimitExpiry | powerGoodTimeout | settleExpiry | resetPulseExpiry | shutdownGraceExpiry | offTimeExpiry
  | bootTimeout | graceTimerExpiry | waitLimitExpiry | startTimerExpiry | silenceTimerExpiry | recoveryOffTimeExpiry
  | idleTimerExpiry => exact perform (.of_tables (State.onExpiryIn_tables _ _ (by simp))) ht
  | stepTimerExpiry _ | holdTimerExpiry _ => exact perform (.of_tables (State.onExpiry_tables _ (by simp))) ht
  | heartbeatTimerExpiry =>
    refine perform (.of_tables fun u => ?_) ht
    split
    · exact State.onExpiry_tables _ (by simp) u
    · rfl
  | receiveCharacter port data mark stop => exact perform (State.character_keepsOrder port data mark stop) ht
  | reservedFrame port cls payload =>
    cases port
    · exact perform (State.boardFrame_keepsOrder (State.reservedFromBoard_keepsOrder _)) ht
    · exact perform (.of_tables (State.displayFrame_tables (by simp))) ht
  | loadableSystemFrame _ _ => exact perform (State.boardFrame_keepsOrder (.of_tables (by simp))) ht
  | loadableDisplayFrame _ _ | displayManagementFrame _ =>
    exact perform (.of_tables (State.displayFrame_tables (by simp))) ht
  | unknownCommand payload =>
    exact perform (State.boardFrame_keepsOrder fun u hu => State.manage_inOrder (by simpa using hu) payload) ht
  | setEntryZone _ args =>
    exact request (fun u hu => State.unlessCommitting_inOrder hu (State.setZone_inOrder hu args)) ht
  | setEntryParameter _ args =>
    exact request (fun u hu => State.unlessCommitting_inOrder hu (State.setParameter_inOrder hu args)) ht
  | setEntryClass _ _ | setEntryKeymap _ _ | setEntrySequence _ _ | setEntryChannel _ _ | setEntryInject _ _
  | commitProfile _ _ | resetSupervisor _ _ =>
    exact request (fun u hu => State.unlessCommitting_inOrder hu (hu.of_eq (by simp))) ht
  | getStatus _ _ | getZones _ _ | getSamples _ _ | getEntry _ _ | getCounters _ _ | clearCounters _ _ | getLog _ _
  | requestPowerOff _ _ | requestPowerRestart _ _ | requestPowerCycle _ _ | requestDisplayDim _ _
  | requestDisplayWake _ _ | requestDisplayRestart _ _ | forceSampleSet _ _ _ | forceSampleRelease _ _ _ =>
    exact request (fun u hu => by simpa using hu) ht

end Sys2Proof.Machine

namespace Sys2Proof.Proofs

open Sys2Proof.Machine

/-- Settles O57: with no command waiting the tables stay, and every command keeps the orders. -/
theorem stepsKeepTheTablesOrdered : Obligations.StepsKeepTheTablesOrdered := by
  intro s t hp hz ht
  unfold step at ht
  split at ht
  · cases ht
    unfold State.tick
    split <;> exact ⟨hp, hz⟩
  next c rest _ =>
    have hkept := exec_keepsOrder c (s := { s with pending := rest }) ⟨hp, hz⟩ ht
    exact ⟨hkept.params, hkept.priorities⟩

end Sys2Proof.Proofs
end


section
/-! PROOF. The parameter list by number, the bytes of the layouts of chapter 12 and their readings, and a request that
is served. -/

namespace Sys2Proof.Machine

/-! ## The parameter list (chapter 12, section 12.6) -/

/-- The list holds the parameters by their numbers. -/
theorem Params.listed_eq_ofFn (p : Params) : p.listed = List.ofFn (fun n : Fin 53 => p.get (n.val + 1)) := by
  have hpolicy : (if decide (p.mainsPolicy = .stayOff) = true then (1 : Int) else 0) = p.mainsPolicy.code := by
    cases p.mainsPolicy <;> rfl
  have hpolarity (q : Polarity) : (if decide (q = .activeHigh) = true then (1 : Int) else 0) = q.code := by
    cases q <;> rfl
  simp only [Params.listed, hpolicy, hpolarity]
  rfl

theorem Params.listed_getElem? (p : Params) (n : Fin 53) : p.listed[n.val]? = some (p.get (n.val + 1)) := by
  rw [p.listed_eq_ofFn, List.getElem?_ofFn, dif_pos n.isLt]

theorem Params.values_getElem (p : Params) (n : Fin 53) : p.values[n] = p.get (n.val + 1) := by
  simp [Params.values]

/-! ## Bytes (R181) -/

@[simp] theorem byte_toNat (n : Nat) : (byte n).toNat = n % 256 := BitVec.toNat_ofNat n 8

theorem byte_toNat_of_lt {n : Nat} (h : n < 256) : (byte n).toNat = n := by
  rw [byte_toNat, Nat.mod_eq_of_lt h]

/-- The low and the high byte of a word give the word. -/
theorem BitVec16.append_bytes (w : BitVec 16) : w.extractLsb' 8 8 ++ w.extractLsb' 0 8 = w := by
  rw [BitVec.extractLsb'_append_extractLsb'_eq_extractLsb' (by rfl)]
  exact BitVec.extractLsb'_eq_self

theorem bytes16_toNat (w : BitVec 16) : (w.extractLsb' 0 8).toNat + 256 * (w.extractLsb' 8 8).toNat = w.toNat := by
  have h := w.isLt
  simp only [BitVec.extractLsb'_toNat, Nat.shiftRight_eq_div_pow]
  omega

theorem bytes32_toNat (w : BitVec 32) : (w.extractLsb' 0 8).toNat + 256 * ((w.extractLsb' 8 8).toNat +
    256 * ((w.extractLsb' 16 8).toNat + 256 * (w.extractLsb' 24 8).toNat)) = w.toNat := by
  have h := w.isLt
  simp only [BitVec.extractLsb'_toNat, Nat.shiftRight_eq_div_pow]
  omega

/-- A 16-bit field read back. -/
theorem readU16_bytes16 (w : BitVec 16) : readU16 (w.extractLsb' 0 8) (w.extractLsb' 8 8) = w.toNat := bytes16_toNat w

theorem readU16_u16 {n : Nat} (h : n < 65536) {lo hi : Byte} (hb : u16 n = [lo, hi]) : readU16 lo hi = n := by
  cases hb
  rw [readU16_bytes16, BitVec.toNat_ofNat, Nat.mod_eq_of_lt h]

/-- A signed field of a 16-bit value read back. -/
theorem readS16_s16 {v : Int} (h : -32768 ≤ v) (h' : v < 32768) {lo hi : Byte} (hb : s16 v = [lo, hi]) :
    readS16 lo hi = v := by
  cases hb
  rw [readS16, BitVec16.append_bytes, BitVec.toInt_ofInt_eq_self (by decide) h h']

/-! ## Fields of a layout (R181) -/

theorem carries_byte {d : List Byte} {k n : Nat} (h : d[k]? = some (byte n)) : Carries d k 1 n := by
  simp [Carries, fieldAt, h]

theorem fieldAt_bytes16 {d : List Byte} {k : Nat} {w : BitVec 16} (h0 : d[k]? = some (w.extractLsb' 0 8))
    (h1 : d[k + 1]? = some (w.extractLsb' 8 8)) : fieldAt d k 2 = w.toNat := by
  simp only [fieldAt, h0, h1, Option.getD_some, Nat.mul_zero, Nat.add_zero]
  exact bytes16_toNat w

theorem carries_u16 {d : List Byte} {k n : Nat} (h0 : d[k]? = some ((BitVec.ofNat 16 n).extractLsb' 0 8))
    (h1 : d[k + 1]? = some ((BitVec.ofNat 16 n).extractLsb' 8 8)) : Carries d k 2 n := by
  simp [Carries, fieldAt_bytes16 h0 h1]

theorem carries_s16 {d : List Byte} {k : Nat} {v : Int} (h0 : d[k]? = some ((BitVec.ofInt 16 v).extractLsb' 0 8))
    (h1 : d[k + 1]? = some ((BitVec.ofInt 16 v).extractLsb' 8 8)) : Carries d k 2 v := by
  simp only [Carries, fieldAt_bytes16 h0 h1, BitVec.toNat_ofInt]
  omega

theorem carries_bytes32 {d : List Byte} {k : Nat} {w : BitVec 32} (h0 : d[k]? = some (w.extractLsb' 0 8))
    (h1 : d[k + 1]? = some (w.extractLsb' 8 8)) (h2 : d[k + 1 + 1]? = some (w.extractLsb' 16 8))
    (h3 : d[k + 1 + 1 + 1]? = some (w.extractLsb' 24 8)) : fieldAt d k 4 = w.toNat := by
  simp only [fieldAt, h0, h1, h2, h3, Option.getD_some, Nat.mul_zero, Nat.add_zero]
  exact bytes32_toNat w

theorem testBit_foldr_bits (bits : List Bool) (j : Nat) :
    (bits.foldr (fun b acc => (if b = true then 1 else 0) + 2 * acc) 0).testBit j = bits[j]?.getD false := by
  induction bits generalizing j with
  | nil => simp
  | cons b bits ih =>
    cases j with
    | zero => cases b <;> simp [Nat.testBit_zero]
    | succ j =>
      rw [List.foldr_cons, Nat.testBit_succ, List.getElem?_cons_succ, ← ih]
      congr 1
      split <;> omega

theorem flagByte_getLsbD (bits : List Bool) {j : Nat} (hj : j < 8) :
    (flagByte bits).getLsbD j = bits[j]?.getD false := by
  rw [flagByte, byte, BitVec.getLsbD_ofNat, testBit_foldr_bits, decide_eq_true hj, Bool.true_and]

theorem carriesFlags {d : List Byte} {k : Nat} {bits : List Bool} (h : d[k]? = some (flagByte bits)) :
    CarriesFlags d k bits := fun j => by
  rw [h]
  exact flagByte_getLsbD bits j.isLt

/-! ## A request that is served (R168, R169) -/

/-- A request frame received and executed: the command's own work, and its reply waits in the slot. -/
theorem State.perform_requestFrame {s u : State} {request : State → Answer} {st : Status} {d : List Byte}
    (h : s.Served) (code : Nat) (tag : Byte) (hr : request (s.received 0) = ⟨u, st, d⟩)
    (hlive : u.sys.isLive = s.sys.isLive) (hm : u.mgmt.replyEnded = s.mgmt.replyEnded)
    (hj : u.mgmt.justReported = s.mgmt.justReported) :
    s.perform (State.requestFrame code tag request) = u.replied code tag st d := by
  obtain ⟨⟨hheld, hended, hjust, -⟩, ⟨hrec, hlow⟩, hslot⟩ := h
  have hl : s.sys.isLive = true := (Bool.and_eq_true_iff.mp hrec).1
  rw [State.perform_of_running _ hheld, State.requestFrame_served code tag request hrec hlow hslot, hr]
  simp only [State.placeReply, hlive, hl, if_true]
  exact State.finish_at_rest (hm.trans hended) (hj.trans hjust)

/-- As `perform_requestFrame`, for a request that a commit in progress would have answered BUSY. -/
theorem State.perform_requestFrame_free {s u : State} {request : State → Answer} {st : Status} {d : List Byte}
    (h : s.ServedFree) (code : Nat) (tag : Byte) (hr : request (s.received 0) = ⟨u, st, d⟩)
    (hlive : u.sys.isLive = s.sys.isLive) (hm : u.mgmt.replyEnded = s.mgmt.replyEnded)
    (hj : u.mgmt.justReported = s.mgmt.justReported) :
    s.perform (State.requestFrame code tag (State.unlessCommitting request)) = u.replied code tag st d := by
  obtain ⟨hs, hc⟩ := h
  refine State.perform_requestFrame hs code tag ?_ hlive hm hj
  exact (if_neg hc : (s.received 0).unlessCommitting request = _).trans hr

/-- A flag reported by a command that ends no reply (R174). -/
theorem State.finish_report {s : State} (h : s.mgmt.replyEnded = false) (hj : s.mgmt.justReported = 0)
    (f : StickyFlag) :
    (s.report f).finish = { s with mgmt := { s.mgmt with sticky := s.mgmt.withFlag f } } := by
  rw [State.finish_of_no_reply (s := s.report f) h]
  simp [State.report, State.onMgmt, Mgmt.report, Mgmt.withFlag, h, hj]

end Sys2Proof.Machine
end


section
/-! PROOF. Overrides, commits and the supervisor's reset (R12, R178, R179). -/

namespace Sys2Proof.Machine

theorem valueRange_eq (ch : Nat) : valueRange ch = (if ch = 6 then 0 else -240, 600) := by
  unfold valueRange; split <;> rfl

theorem State.forceSet_of_channel (s : State) (ch : Fin 7) {v : Int} (h : -32768 ≤ v) (h' : v < 32768) :
    s.forceSet (byte ch.val) (s16 v) =
      { state := s.onMeas (Meas.setChange ch (.set (max (if ch.val = 6 then 0 else -240) (min 600 v))))
        status := if (if ch.val = 6 then 0 else -240) ≤ v ∧ v ≤ 600 then .ok else .clamped
        data := [] } := by
  have hch : (byte ch.val).toNat = ch.val := byte_toNat_of_lt (by omega)
  have hlt : (byte ch.val).toNat < 7 := by omega
  have hfin : (⟨(byte ch.val).toNat, hlt⟩ : Fin 7) = ch := Fin.ext hch
  have hread := readS16_s16 h h' (rfl : s16 v = [_, _])
  unfold State.forceSet
  simp only [s16, bytes16] at hread ⊢
  rw [dif_pos hlt, hfin, hch, hread, valueRange_eq]
  simp only [clampInt, statusOf]
  congr 2
  split <;> simp <;> omega

theorem State.forceRelease_of_channel (s : State) (ch : Fin 7) (b0 b1 : Byte) :
    s.forceRelease (byte ch.val) [b0, b1] = (s.onMeas (Meas.setChange ch .release)).done := by
  have hch : (byte ch.val).toNat = ch.val := byte_toNat_of_lt (by omega)
  have hlt : (byte ch.val).toNat < 7 := by omega
  have hfin : (⟨(byte ch.val).toNat, hlt⟩ : Fin 7) = ch := Fin.ext hch
  show (if h : _ then _ else _) = _
  rw [dif_pos hlt, hfin]

theorem State.forceSet_no_channel (s : State) {ch : Byte} (h : 7 ≤ ch.toNat) (b0 b1 : Byte) :
    s.forceSet ch [b0, b1] = s.turnDown .badIndex := dif_neg (by omega)

theorem State.forceRelease_no_channel (s : State) {ch : Byte} (h : 7 ≤ ch.toNat) (b0 b1 : Byte) :
    s.forceRelease ch [b0, b1] = s.turnDown .badIndex := dif_neg (by omega)

end Sys2Proof.Machine

namespace Sys2Proof.Proofs

open Sys2Proof.Machine

/-- Settles O51: each request by its own rule, the image field by field, and the two ends of a commit. -/
theorem waitingWorkIsNotedAndCommitted : Obligations.WaitingWorkIsNotedAndCommitted := by
  refine ⟨fun s tag h => ⟨fun ch v hlo hhi => ⟨rfl, carries_s16 rfl rfl, ?_⟩, fun ch b0 b1 => ?_,
    fun ch b0 b1 hch => ⟨?_, ?_⟩, fun hc => ⟨?_, ?_⟩⟩, fun t => ⟨rfl, rfl, rfl, rfl, rfl, rfl, rfl, fun n => ?_⟩,
    fun s hs => ⟨fun hc => ⟨?_, ?_⟩, fun hc ok => ?_⟩⟩
  · exact congrArg Host.Outcome.next
      (State.perform_requestFrame h 11 tag (State.forceSet_of_channel _ ch hlo hhi) rfl rfl rfl)
  · exact congrArg Host.Outcome.next
      (State.perform_requestFrame h 11 tag (State.forceRelease_of_channel _ ch b0 b1) rfl rfl rfl)
  · exact congrArg Host.Outcome.next
      (State.perform_requestFrame h 11 tag (State.forceSet_no_channel _ hch b0 b1) rfl rfl rfl)
  · exact congrArg Host.Outcome.next
      (State.perform_requestFrame h 11 tag (State.forceRelease_no_channel _ hch b0 b1) rfl rfl rfl)
  · exact congrArg Host.Outcome.next
      (State.perform_requestFrame_free ⟨h, hc⟩ 12 tag (request := State.commitProfile []) rfl rfl rfl rfl)
  · exact congrArg Host.Outcome.next
      (State.perform_requestFrame_free ⟨h, hc⟩ 13 tag (request := State.resetSupervisor []) rfl rfl rfl rfl)
  · rw [t.params.listed_getElem? n]
    exact congrArg some (t.params.values_getElem n)
  · obtain ⟨hheld, hended, hjust, -⟩ := hs
    refine congrArg Host.Outcome.next ?_
    rw [State.perform_of_running _ hheld, State.endCommit, if_pos hc, if_pos rfl]
    exact State.finish_at_rest hended hjust
  · obtain ⟨hheld, hended, hjust, -⟩ := hs
    refine congrArg Host.Outcome.next ?_
    rw [State.perform_of_running _ hheld, State.endCommit, if_pos hc, if_neg (by decide)]
    exact State.finish_report (s := s.onMgmt (fun m => { m with commit := .failed })) hended hjust .commitFailed
  · obtain ⟨hheld, hended, hjust, -⟩ := hs
    refine congrArg Host.Outcome.next ?_
    rw [State.perform_of_running _ hheld, State.endCommit, if_neg hc]
    exact State.finish_at_rest hended hjust

end Sys2Proof.Proofs
end


section
/-! PROOF. The measurement cycle: calibration, the cycle start, and what a conversion does to the records and the flags
(R2 to R14). -/

namespace Sys2Proof.Machine

/-! ## Calibration (R6) -/

theorem roundQuotient_near (x : Int) : (2 * (1024 * roundQuotient x - x)).natAbs ≤ 1024 := by
  unfold roundQuotient
  split <;> omega

theorem roundQuotient_tie {x : Int} (h : (2 * (1024 * roundQuotient x - x)).natAbs = 1024) :
    x.natAbs < (1024 * roundQuotient x).natAbs := by
  unfold roundQuotient at h ⊢
  split at h <;> rename_i hx
  · rw [if_pos hx]; omega
  · rw [if_neg hx]; omega

theorem roundQuotient_mono {x y : Int} (h : x ≤ y) : roundQuotient x ≤ roundQuotient y := by
  unfold roundQuotient
  split <;> split <;> omega

theorem faultReading_eq_false {code : BitVec 12} : faultReading code = false ↔ 16 ≤ code.toNat ∧ code.toNat ≤ 4079 := by
  simp [faultReading]

theorem faultReading_eq_true {code : BitVec 12} : faultReading code = true ↔ code.toNat < 16 ∨ 4079 < code.toNat := by
  simp [faultReading]

/-! ## The four cases of a conversion (R5, R12) -/

theorem convertRecord_forced (n : Nat) (af : Bool) (v : Int) (cal : Calibration) (range : Int × Int)
    (code : BitVec 12) (r : Sample) :
    convertRecord n af (some v) cal range code r = { r with raw := some code, state := .forced, value := some v } := rfl

theorem convertRecord_adcFault (n : Nat) (cal : Calibration) (range : Int × Int) (code : BitVec 12) (r : Sample) :
    convertRecord n true none cal range code r = { r with raw := some code, state := .fault } := rfl

theorem convertRecord_faultReading {code : BitVec 12} (h : faultReading code = true) (n : Nat) (cal : Calibration)
    (range : Int × Int) (r : Sample) :
    convertRecord n false none cal range code r =
      { r with
        raw := some code, faults := count255 r.faults
        state := if r.value.isSome ∧ count255 r.faults < n then .suspect else .fault } := by
  simp [convertRecord, h]

theorem convertRecord_good {code : BitVec 12} (h : faultReading code = false) (n : Nat) (cal : Calibration)
    (range : Int × Int) (r : Sample) :
    convertRecord n false none cal range code r =
      { raw := some code, faults := 0, value := some (clampInt range.1 range.2 (calibrate cal code))
        state := if calibrate cal code = clampInt range.1 range.2 (calibrate cal code) then .valid else .clamped } := by
  simp [convertRecord, h]

/-! ## The cycle start (R2, R4, R12) -/

theorem Meas.startCycle_sample (p : Params) (now : Nat) (m : Meas) {ch : Nat} (h : ch < 8) :
    (m.startCycle p now).samples[ch] = m.recordAtStart p.firstIndex p.lastIndex ch m.samples[ch] := by
  simp [Meas.startCycle]

theorem Meas.startCycle_override (p : Params) (now : Nat) (m : Meas) (ch : Fin 7) :
    (m.startCycle p now).overrides[ch] = m.changes[ch].override m.overrides[ch] := by
  simp [Meas.startCycle]

theorem Meas.startCycle_change (p : Params) (now : Nat) (m : Meas) (ch : Fin 7) :
    (m.startCycle p now).changes[ch] = .none := by
  simp [Meas.startCycle]

/-- Channel 7 has no override: outside the range it is STALE (R4, R12). -/
theorem Meas.recordAtStart_seven (m : Meas) (first last : Fin 8) (r : Sample) :
    m.recordAtStart first last 7 r = if last.val = 7 then r else { r with state := .stale } := by
  have hf : first.val ≤ 7 := by omega
  have hl : 7 ≤ last.val ↔ last.val = 7 := by omega
  simp [Meas.recordAtStart, PendingChange.apply, PendingChange.override, Meas.overrideOf, markOutside, hf, hl]

/-- A channel 0 to 6: its pending change, then the mark if the range leaves it out (R4). -/
theorem Meas.recordAtStart_channel (m : Meas) (first last : Fin 8) (ch : Fin 7) (r : Sample) :
    m.recordAtStart first last ch.val r =
      if first.val ≤ ch.val ∧ ch.val ≤ last.val then m.changes[ch].apply m.adcFault m.overrides[ch] r
      else if (m.changes[ch].override m.overrides[ch]).isSome then m.changes[ch].apply m.adcFault m.overrides[ch] r
      else
        { m.changes[ch].apply m.adcFault m.overrides[ch] r with
          state := if m.adcFault then .fault else .stale } := by
  simp only [Meas.recordAtStart, Meas.overrideOf, ch.isLt, dite_true, markOutside, decide_true, Bool.true_and]
  cases m.adcFault <;> rfl

theorem exec_cycleStart {s : State} (h : s.Ready) (hn : s.meas.next = none) :
    exec .cycleStart s = .next { s with
        clockMs := max s.clockMs (s.meas.cycleStart + s.meas.period)
        meas := s.meas.startCycle s.params (s.meas.cycleStart + s.meas.period) } := by
  obtain ⟨hheld, hended, hjust, -⟩ := h
  have hwork : s.cycleStart = { s with
        clockMs := max s.clockMs (s.meas.cycleStart + s.meas.period)
        meas := s.meas.startCycle s.params (s.meas.cycleStart + s.meas.period) } := by
    simp only [State.cycleStart, hn]
    rfl
  refine congrArg Host.Outcome.next ?_
  rw [State.perform_of_running _ hheld, hwork]
  exact State.finish_at_rest hended hjust

end Sys2Proof.Machine

namespace Sys2Proof.Proofs

open Sys2Proof.Machine

/-- Settles O7: the rounded quotient is the nearest integer, and monotone; the store clamps it. -/
theorem calibrationRoundsToNearest : Obligations.CalibrationRoundsToNearest := by
  refine ⟨fun c code => ⟨_, rfl, roundQuotient_near _, roundQuotient_tie⟩, fun c low high hs hle => ?_,
    fun n c lo hi code r h h' => ?_⟩
  · have hmul : (high.toNat : Int) * c.slope ≤ low.toNat * c.slope :=
      Int.mul_le_mul_of_nonpos_right (by omega) (by omega)
    exact Int.add_le_add_left (roundQuotient_mono hmul) _
  · rw [convertRecord_good (faultReading_eq_false.mpr ⟨h, h'⟩)]
    rfl

/-- Settles O5: the cycle start's record of each channel, by its pending change. -/
theorem cycleStartAppliesAndMarks : Obligations.CycleStartAppliesAndMarks := by
  intro s hready hnext
  refine ⟨_, exec_cycleStart hready hnext, rfl, rfl, rfl, rfl, rfl, rfl, rfl, ?_,
    fun ch => ⟨Meas.startCycle_change _ _ _ ch, fun v hc => ?_,
    fun hc hov => ?_, fun hc => ?_⟩⟩
  · exact (Meas.startCycle_sample _ _ _ _).trans (Meas.recordAtStart_seven _ _ _ _)
  all_goals
    rw [Meas.startCycle_override, Meas.startCycle_sample _ _ _ (by omega), Meas.recordAtStart_channel]
  · rw [hc]
    simp [PendingChange.override, PendingChange.apply]
  · rw [hc]
    refine ⟨rfl, ?_⟩
    simp only [PendingChange.override, PendingChange.apply, hov]
    split <;> simp
  · have hov : s.meas.changes[ch].override s.meas.overrides[ch] = s.meas.overrides[ch] := by
      obtain hc | ⟨hc, hnone⟩ := hc
      · rw [hc]; rfl
      · rw [hc, hnone]; rfl
    have hr : s.meas.changes[ch].apply s.meas.adcFault s.meas.overrides[ch] s.meas.samples[ch.val] =
        s.meas.samples[ch.val] := by
      obtain hc | ⟨hc, hnone⟩ := hc
      · rw [hc]; rfl
      · rw [hc, hnone]; rfl
    rw [hov, hr]
    refine ⟨rfl, ?_⟩
    by_cases hin : s.params.firstIndex.val ≤ ch.val ∧ ch.val ≤ s.params.lastIndex.val
    · rw [if_pos hin, if_pos (.inr hin)]
    · by_cases hs : s.meas.overrides[ch].isSome = true
      · rw [if_neg hin, if_pos hs, if_pos (.inl hs)]
      · rw [if_neg hin, if_neg hs, if_neg (not_or.mpr ⟨hs, hin⟩)]

end Sys2Proof.Proofs
end


section
namespace Sys2Proof.Machine

/-! ## The sticky flags (R174) -/

theorem StickyFlag.coded (f : StickyFlag) : codedFlags[f.bit.val]? = some f := by
  cases f <;> rfl

theorem StickyFlag.bit_injective {f g : StickyFlag} (h : f.bit = g.bit) : f = g := by
  have hf := f.coded
  rw [h, g.coded] at hf
  exact (Option.some.inj hf).symm

theorem StickyFlag.mask_getLsb (f g : StickyFlag) : f.mask.getLsb g.bit = decide (g = f) := by
  have hbit : decide (g.bit.val = f.bit.val) = decide (g = f) :=
    decide_eq_decide.mpr ⟨fun h => StickyFlag.bit_injective (Fin.ext h), fun h => h ▸ rfl⟩
  rw [← hbit, Bool.eq_iff_iff]
  simp [StickyFlag.mask, BitVec.getElem_shiftLeft]
  omega

/-- A report sets its own flag and no other (R174). -/
theorem Mgmt.report_hasFlag (m : Mgmt) (f g : StickyFlag) :
    (m.report f).hasFlag g = (m.hasFlag g || decide (g = f)) := by
  rw [← StickyFlag.mask_getLsb f g]
  simp [Mgmt.report, Mgmt.hasFlag]

/-! ## What the events of a cycle's end leave of the conversion's flags (R14)

Of the sticky flags only BROWNOUT, THERMAL_WARN and QUEUE_DISCARD are reported on a cycle-complete event. -/

/-- The three flags that conversions report (R7, R8, R10), and whether a soft reset is pending. -/
def Mgmt.conversionMarks (m : Mgmt) : Bool × Bool × Bool × Bool :=
  (m.hasFlag .sensorFault, m.hasFlag .sampleClamped, m.hasFlag .adcFault, m.pendingSoft)

theorem Mgmt.conversionMarks_eq_iff {m m' : Mgmt} : m.conversionMarks = m'.conversionMarks ↔
    (∀ f ∈ [StickyFlag.sensorFault, .sampleClamped, .adcFault], m.hasFlag f = m'.hasFlag f) ∧
      m.pendingSoft = m'.pendingSoft := by
  simp [Mgmt.conversionMarks, and_assoc]

theorem Mgmt.report_conversionMarks {f : StickyFlag} (h : f ∉ [StickyFlag.sensorFault, .sampleClamped, .adcFault])
    (m : Mgmt) : (m.report f).conversionMarks = m.conversionMarks := by
  refine Mgmt.conversionMarks_eq_iff.mpr ⟨fun g hg => ?_, rfl⟩
  have hne : g ≠ f := fun hgf => h (hgf ▸ hg)
  rw [Mgmt.report_hasFlag, decide_eq_false hne, Bool.or_false]

@[simp] theorem State.report_conversionMarks {f : StickyFlag}
    (h : f ∉ [StickyFlag.sensorFault, .sampleClamped, .adcFault]) (s : State) :
    (s.report f).mgmt.conversionMarks = s.mgmt.conversionMarks := s.mgmt.report_conversionMarks h

@[simp] theorem State.reportIf_conversionMarks {f : StickyFlag}
    (h : f ∉ [StickyFlag.sensorFault, .sampleClamped, .adcFault]) (c : Bool) (s : State) :
    (s.reportIf c f).mgmt.conversionMarks = s.mgmt.conversionMarks := by
  unfold State.reportIf
  split
  · exact s.report_conversionMarks h
  · rfl

@[simp] theorem State.post_conversionMarks (c : NoticeContent) (s : State) :
    (s.post c).mgmt.conversionMarks = s.mgmt.conversionMarks := rfl

@[simp] theorem State.dropReply_conversionMarks (s : State) :
    s.dropReply.mgmt.conversionMarks = s.mgmt.conversionMarks := by
  unfold State.dropReply
  split <;> rfl

@[simp] theorem State.portReport_conversionMarks (s : State) :
    s.portReport.mgmt.conversionMarks = s.mgmt.conversionMarks := by
  unfold State.portReport State.portDies; simp only []; (repeat' split) <;> simp

@[simp] theorem State.pathReport_conversionMarks (turnedOn turnedOff : Bool) (s : State) :
    (s.pathReport turnedOn turnedOff).mgmt.conversionMarks = s.mgmt.conversionMarks := by
  unfold State.pathReport; (repeat' split) <;> simp

@[simp] theorem State.transition_conversionMarks (t : Target) (cs : List (Cause × Option SlotField)) (s : State) :
    (s.transition t cs).mgmt.conversionMarks = s.mgmt.conversionMarks := by
  obtain ⟨h, p, ht⟩ := s.transition_eq_report t cs
  have hmgmt (m : Mgmt) (st : PowerState) : (m.onReport st).conversionMarks = m.conversionMarks := rfl
  simp [ht, State.reportPower, hmgmt]

@[simp] theorem State.endIfNoGrace_conversionMarks (g : Nat) (s : State) :
    (s.endIfNoGrace g).mgmt.conversionMarks = s.mgmt.conversionMarks := by
  unfold State.endIfNoGrace State.endShutdown; (repeat' split) <;> simp

@[simp] theorem State.thermalShutdown_conversionMarks (s : State) :
    s.thermalShutdown.mgmt.conversionMarks = s.mgmt.conversionMarks := by
  unfold State.thermalShutdown; split <;> simp

@[simp] theorem State.thermalResume_conversionMarks (s : State) :
    s.thermalResume.mgmt.conversionMarks = s.mgmt.conversionMarks := by
  unfold State.thermalResume; split <;> simp

@[simp] theorem State.sendRequests_conversionMarks (before after : Thermal) (s : State) :
    (s.sendRequests before after).mgmt.conversionMarks = s.mgmt.conversionMarks := by
  unfold State.sendRequests State.sendResume State.sendShutdown; (repeat' split) <;> simp

@[simp] theorem State.inject_conversionMarks (e : InjectEntry) (s : State) :
    (s.inject e).mgmt.conversionMarks = s.mgmt.conversionMarks := by
  unfold State.inject State.placeFrame; split <;> simp

@[simp] theorem State.sendHeatDim_conversionMarks (before after : Thermal) (s : State) :
    (s.sendHeatDim before after).mgmt.conversionMarks = s.mgmt.conversionMarks := by
  unfold State.sendHeatDim State.heatDimOn State.dim; simp only []; (repeat' split) <;> simp

@[simp] theorem State.sendRequestsAndDim_conversionMarks (before after : Thermal) (s : State) :
    (s.sendRequestsAndDim before after).mgmt.conversionMarks = s.mgmt.conversionMarks := by
  obtain ⟨c, h | h⟩ := s.sendRequestsAndDim_cases before after <;> simp [h]

@[simp] theorem State.sendWarn_conversionMarks (before after : Thermal) (board : ZoneReport) (s : State) :
    (s.sendWarn before after board).mgmt.conversionMarks = s.mgmt.conversionMarks := by
  unfold State.sendWarn; (repeat' split) <;> simp

@[simp] theorem State.sendBlind_conversionMarks (before : Thermal) (board : ZoneReport) (s : State) :
    (s.sendBlind before board).mgmt.conversionMarks = s.mgmt.conversionMarks := by
  unfold State.sendBlind; split <;> simp

@[simp] theorem State.sendFilter_conversionMarks (before after : Thermal) (board : ZoneReport) (s : State) :
    (s.sendFilter before after board).mgmt.conversionMarks = s.mgmt.conversionMarks := by
  unfold State.sendFilter; (repeat' split) <;> simp

@[simp] theorem State.thermalZones_conversionMarks (z : PerZone ZoneReport) (s : State) :
    (s.thermalZones z).mgmt.conversionMarks = s.mgmt.conversionMarks := by
  simp [State.thermalZones]

@[simp] theorem State.sequencerZones_conversionMarks (z : PerZone ZoneReport) (s : State) :
    (s.sequencerZones z).mgmt.conversionMarks = s.mgmt.conversionMarks := by
  unfold State.sequencerZones State.enterReserve; split <;> simp

theorem State.oneOf_mgmt (s a b : State) : (s.oneOf a b).mgmt = a.mgmt ∨ (s.oneOf a b).mgmt = b.mgmt := by
  unfold State.oneOf; (repeat' split) <;> simp

@[simp] theorem State.zonesEvaluated_conversionMarks (z : PerZone ZoneReport) (s : State) :
    (s.zonesEvaluated z).mgmt.conversionMarks = s.mgmt.conversionMarks := by
  unfold State.zonesEvaluated eitherOrder
  split
  · rcases State.oneOf_mgmt (s.pathZones z) (((s.pathZones z).sequencerZones z).thermalZones z)
      (((s.pathZones z).thermalZones z).sequencerZones z) with h | h <;> simp [h]
  · simp

@[simp] theorem State.cycleComplete_conversionMarks (s : State) :
    s.cycleComplete.mgmt.conversionMarks = s.mgmt.conversionMarks := by
  simp [State.cycleComplete, State.evaluateZones]

end Sys2Proof.Machine
end


section
namespace Sys2Proof.Machine

/-! ## The end of a step and the conversion's marks (R16, R179) -/

/-- The end of a step rewrites no more of the Measurement Unit than the pending changes, and those only by a soft
reset. -/
theorem State.finish_meas (s : State) : ∃ c, s.finish.meas = { s.meas with changes := c } ∧
    (s.mgmt.pendingSoft = false → c = s.meas.changes) := by
  unfold State.finish State.replyEndTaken State.softReset
  by_cases h : s.mgmt.replyEnded = true <;> by_cases hp : s.mgmt.pendingSoft = true
  · refine ⟨s.meas.softReset.changes, ?_, by simp [hp]⟩
    simp [h, hp, State.blocksSoftReset, Meas.softReset]
  all_goals
    refine ⟨s.meas.changes, ?_, fun _ => rfl⟩
    simp [h, hp]

theorem State.finish_hasFlag {s : State} (hp : s.mgmt.pendingSoft = false) (f : StickyFlag) :
    s.finish.mgmt.hasFlag f = s.mgmt.hasFlag f := by
  unfold State.finish State.replyEndTaken
  by_cases h : s.mgmt.replyEnded = true <;> simp [h, hp, Mgmt.hasFlag]

/-! ## A conversion (R5 to R8, R10, R11) -/

/-- The record of a channel 0 to 6 after the conversion in progress (R5). -/
def State.channelRecord (s : State) (ch : Fin 7) (code : BitVec 12) : Sample :=
  convertRecord s.params.persistence s.meas.adcFault s.meas.overrides[ch] s.tables.channels[ch] (valueRange ch.val) code
    s.meas.samples[ch.val]

/-- The flag that the conversion of a channel 0 to 6 reports (R7, R8). -/
def State.channelReport (s : State) (ch : Fin 7) (code : BitVec 12) : Option StickyFlag :=
  convertReport s.meas.adcFault s.meas.overrides[ch] code (s.channelRecord ch code)

theorem State.convert_channel (s : State) (ch : Fin 7) (code : BitVec 12) :
    s.convert ch.castSucc code =
      { s with
        meas := { s.meas with samples := s.meas.samples.set ch.val (s.channelRecord ch code) }
        mgmt := (s.channelReport ch code).elim s.mgmt (fun f => s.mgmt.report f) } := by
  have hne : ch.castSucc ≠ (7 : Fin 8) := Fin.ne_of_lt ch.castSucc_lt_last
  have hov : s.meas.overrideOf ch.castSucc.val = s.meas.overrides[ch] := dif_pos ch.isLt
  have hcal : s.tables.calibration ch.castSucc.val = s.tables.channels[ch] := dif_pos ch.isLt
  unfold State.convert
  simp only [if_neg hne, hov, hcal]
  split <;> rename_i h
  · have hr : s.channelReport ch code = none := h
    rw [hr]
    rfl
  · have hr : s.channelReport ch code = some _ := h
    rw [hr]
    rfl

theorem State.convert_seven (s : State) (code : BitVec 12) :
    s.convert 7 code =
      { s with
        meas := s.meas.selfCheck s.params.persistence code
        mgmt := if s.meas.setsAdcFault s.params.persistence code then s.mgmt.report .adcFault else s.mgmt } := by
  unfold State.convert State.reportIf
  rw [if_pos rfl]
  split <;> rfl

@[simp] theorem Meas.selfCheck_lastChannel (n : Nat) (code : BitVec 12) (m : Meas) :
    (m.selfCheck n code).lastChannel = m.lastChannel := by
  unfold Meas.selfCheck
  (repeat' split) <;> rfl

@[simp] theorem State.convert_lastChannel (s : State) (ch : Fin 8) (code : BitVec 12) :
    (s.convert ch code).meas.lastChannel = s.meas.lastChannel := by
  simp only [State.convert]
  (repeat' split) <;> simp

@[simp] theorem Meas.selfCheck_changes (n : Nat) (code : BitVec 12) (m : Meas) :
    (m.selfCheck n code).changes = m.changes := by
  unfold Meas.selfCheck
  (repeat' split) <;> rfl

@[simp] theorem State.convert_changes (s : State) (ch : Fin 8) (code : BitVec 12) :
    (s.convert ch code).meas.changes = s.meas.changes := by
  simp only [State.convert]
  (repeat' split) <;> simp

@[simp] theorem State.convert_pendingSoft (s : State) (ch : Fin 8) (code : BitVec 12) :
    (s.convert ch code).mgmt.pendingSoft = s.mgmt.pendingSoft := by
  simp only [State.convert, State.reportIf]
  (repeat' split) <;> rfl

theorem State.conversionDone_of_next {s : State} {ch : Fin 8} (hn : s.meas.next = some ch) (code : BitVec 12) :
    s.conversionDone code =
      if ch.val < s.meas.lastChannel.val then (s.convert ch code).onMeas (Meas.advance ch)
      else ((s.convert ch code).onMeas (Meas.advance ch)).cycleComplete := by
  have hnext : ((s.convert ch code).onMeas (Meas.advance ch)).meas.next.isNone = true ↔
      ¬ ch.val < s.meas.lastChannel.val := by
    simp [Meas.advance]
  unfold State.conversionDone
  simp only [hn, hnext]
  by_cases hlt : ch.val < s.meas.lastChannel.val <;> simp [hlt]

/-- After the last conversion of a cycle: the records are the conversion's, the cycle is complete, and the flags that
conversions report are as the conversion left them, unless a pending soft reset is performed (R14, R16). -/
theorem State.perform_lastConversion {s : State} (hs : s.held = false) {ch : Fin 8} (hn : s.meas.next = some ch)
    (code : BitVec 12) (hl : s.meas.lastChannel.val ≤ ch.val) :
    (∃ c, (s.perform (State.conversionDone code)).meas =
        { (s.convert ch code).meas with next := none, changes := c } ∧
      (s.mgmt.pendingSoft = false → c = s.meas.changes)) ∧
    (s.mgmt.pendingSoft = false → ∀ f ∈ [StickyFlag.sensorFault, .sampleClamped, .adcFault],
      (s.perform (State.conversionDone code)).mgmt.hasFlag f = (s.convert ch code).mgmt.hasFlag f) := by
  rw [State.perform_of_running _ hs, State.conversionDone_of_next hn, if_neg (by omega),
    ← s.convert_pendingSoft ch code, ← s.convert_changes ch code]
  rw [← s.convert_lastChannel ch code] at hl
  generalize s.convert ch code = u at hl
  have hmeas : (u.onMeas (Meas.advance ch)).cycleComplete.meas = { u.meas with next := none } := by
    simp [Meas.advance, Nat.not_lt.mpr hl]
  obtain ⟨hflags, hsoft⟩ := Mgmt.conversionMarks_eq_iff.mp (u.onMeas (Meas.advance ch)).cycleComplete_conversionMarks
  obtain ⟨c, hc, hchanges⟩ := (u.onMeas (Meas.advance ch)).cycleComplete.finish_meas
  rw [hmeas] at hc hchanges
  refine ⟨⟨c, hc, fun hp => hchanges (hsoft.trans hp)⟩, fun hp f hf => ?_⟩
  rw [State.finish_hasFlag (hsoft.trans hp)]
  exact hflags f hf

/-- Before the last conversion of a cycle nothing but the record and the reported flag changes. -/
theorem State.perform_earlierConversion {s : State} (hs : s.Ready) {ch : Fin 7} (hn : s.meas.next = some ch.castSucc)
    (code : BitVec 12) (hl : ch.val < s.meas.lastChannel.val) :
    s.perform (State.conversionDone code) =
      { s with
        meas := { s.meas with
          samples := s.meas.samples.set ch.val (s.channelRecord ch code), next := some ch.succ }
        mgmt := { s.mgmt with
          sticky := (s.channelReport ch code).elim s.mgmt.sticky (fun f => s.mgmt.withFlag f) } } := by
  obtain ⟨hheld, hended, hjust, -⟩ := hs
  have hmeas : Meas.advance ch.castSucc { s.meas with
      samples := s.meas.samples.set ch.val (s.channelRecord ch code) } =
      { s.meas with samples := s.meas.samples.set ch.val (s.channelRecord ch code), next := some ch.succ } := by
    simp [Meas.advance, hl]
  rw [State.perform_of_running _ hheld, State.conversionDone_of_next hn, State.convert_channel,
    if_pos (c := ch.castSucc.val < s.meas.lastChannel.val) hl]
  simp only [State.onMeas, hmeas]
  generalize ({ s.meas with samples := _, next := some ch.succ } : Meas) = m
  cases s.channelReport ch code with
  | none => exact State.finish_at_rest (s := { s with meas := m }) hended hjust
  | some f => exact State.finish_report (s := { s with meas := m }) hended hjust f

theorem State.channelRecord_raw (s : State) (ch : Fin 7) (code : BitVec 12) :
    (s.channelRecord ch code).raw = some code := by
  simp only [State.channelRecord, convertRecord]
  (repeat' split) <;> rfl

/-! The cases of R5, each with its report. -/

theorem State.channel_forced {s : State} {ch : Fin 7} {v : Int} (h : s.meas.overrides[ch] = some v)
    (code : BitVec 12) :
    s.channelRecord ch code =
        { s.meas.samples[ch.val] with raw := some code, state := .forced, value := some v } ∧
      s.channelReport ch code = none := by
  simp [State.channelRecord, State.channelReport, h, convertRecord_forced, convertReport]

theorem State.channel_adcFault {s : State} {ch : Fin 7} (h : s.meas.overrides[ch] = none)
    (haf : s.meas.adcFault = true) (code : BitVec 12) :
    s.channelRecord ch code = { s.meas.samples[ch.val] with raw := some code, state := .fault } ∧
      s.channelReport ch code = none := by
  simp [State.channelRecord, State.channelReport, h, haf, convertRecord_adcFault, convertReport]

theorem State.channel_faultReading {s : State} {ch : Fin 7} (h : s.meas.overrides[ch] = none)
    (haf : s.meas.adcFault = false) {code : BitVec 12} (hc : faultReading code = true) :
    s.channelRecord ch code =
        { s.meas.samples[ch.val] with
          raw := some code, faults := count255 s.meas.samples[ch.val].faults
          state := if s.meas.samples[ch.val].value.isSome ∧
              count255 s.meas.samples[ch.val].faults < s.params.persistence then .suspect else .fault } ∧
      s.channelReport ch code =
        if (s.channelRecord ch code).state = .fault then some .sensorFault else none := by
  refine ⟨?_, ?_⟩
  · simp only [State.channelRecord, h, haf]
    exact convertRecord_faultReading hc _ _ _ _
  · simp [State.channelReport, convertReport, h, haf, hc]

theorem State.channel_good {s : State} {ch : Fin 7} (h : s.meas.overrides[ch] = none)
    (haf : s.meas.adcFault = false) {code : BitVec 12} (hc : faultReading code = false) :
    s.channelRecord ch code =
        { raw := some code, faults := 0
          value := some (clampInt (valueRange ch.val).1 (valueRange ch.val).2 (calibrate s.tables.channels[ch] code))
          state := if calibrate s.tables.channels[ch] code = clampInt (valueRange ch.val).1 (valueRange ch.val).2
              (calibrate s.tables.channels[ch] code) then .valid else .clamped } ∧
      s.channelReport ch code =
        if (s.channelRecord ch code).state = .clamped then some .sampleClamped else none := by
  refine ⟨?_, ?_⟩
  · simp only [State.channelRecord, h, haf]
    exact convertRecord_good hc _ _ _ _
  · simp [State.channelReport, convertReport, h, haf, hc]

/-! ## The reference self-check (R10, R11) -/

theorem inWindow_eq_true {code : BitVec 12} : inWindow code = true ↔ 1900 ≤ code.toNat ∧ code.toNat ≤ 2196 := by
  simp [inWindow]

theorem inWindow_eq_false {code : BitVec 12} : inWindow code = false ↔ code.toNat < 1900 ∨ 2196 < code.toNat := by
  simp [inWindow]
  omega

theorem Meas.selfCheck_seven (n : Nat) (code : BitVec 12) (m : Meas) :
    (m.selfCheck n code).samples[7] = referenceRecord code m.samples[7] := by
  unfold Meas.selfCheck
  (repeat' split) <;> simp [Meas.allFault]

theorem Meas.selfCheck_channel (n : Nat) (code : BitVec 12) (m : Meas) (ch : Fin 7) :
    (m.selfCheck n code).samples[ch.val] =
      if m.setsAdcFault n code = true ∧ m.overrides[ch] = none then { m.samples[ch.val] with state := .fault }
      else m.samples[ch.val] := by
  have hne : ¬ 7 = ch.val := by omega
  by_cases hw : inWindow code = true
  · simp [Meas.selfCheck, Meas.setsAdcFault, hw, hne]
  · by_cases hset : m.setsAdcFault n code = true
    · simp [Meas.selfCheck, hw, hset, Meas.allFault, hne, Meas.overrideOf]
    · simp [Meas.selfCheck, hw, hset, hne]

theorem Meas.selfCheck_inside {code : BitVec 12} (h : inWindow code = true) (n : Nat) (m : Meas) :
    (m.selfCheck n code).goodCount = count255 m.goodCount ∧
      (m.selfCheck n code).adcFault = (m.adcFault && !decide (n ≤ count255 m.goodCount)) := by
  simp [Meas.selfCheck, h]

theorem Meas.selfCheck_outside {code : BitVec 12} (h : inWindow code = false) (n : Nat) (m : Meas) :
    (m.selfCheck n code).goodCount = 0 ∧
      (m.selfCheck n code).adcFault = (m.adcFault || decide (n ≤ count255 m.samples[7].faults)) := by
  have hsets : m.setsAdcFault n code = (!m.adcFault && decide (n ≤ count255 m.samples[7].faults)) := by
    simp [Meas.setsAdcFault, h]
  cases haf : m.adcFault <;> by_cases hn : n ≤ count255 m.samples[7].faults <;>
    simp [Meas.selfCheck, h, hsets, haf, hn]

theorem Meas.setsAdcFault_iff (n : Nat) (code : BitVec 12) (m : Meas) :
    m.setsAdcFault n code = true ↔ m.adcFault = false ∧ (m.selfCheck n code).adcFault = true := by
  cases hw : inWindow code with
  | true =>
    rw [(Meas.selfCheck_inside hw n m).2]
    cases haf : m.adcFault <;> simp [Meas.setsAdcFault, hw]
  | false =>
    rw [(Meas.selfCheck_outside hw n m).2]
    cases haf : m.adcFault <;> simp [Meas.setsAdcFault, hw, haf]

end Sys2Proof.Machine
namespace Sys2Proof.Proofs

open Sys2Proof.Machine

/-- What a conversion's report does to the flags, before the cycle's last conversion and at it. -/
theorem channelReport_flags {s : State} (hs : s.Ready) {ch : Fin 7} (hn : s.meas.next = some ch.castSucc)
    (code : BitVec 12) {o : Option StickyFlag} (ho : s.channelReport ch code = o) :
    (ch.val < s.meas.lastChannel.val → (s.perform (State.conversionDone code)).mgmt.sticky =
      o.elim s.mgmt.sticky (fun f => s.mgmt.withFlag f)) ∧
    (s.meas.lastChannel.val ≤ ch.val → s.mgmt.pendingSoft = false →
      ∀ f ∈ [StickyFlag.sensorFault, .sampleClamped, .adcFault],
        (s.perform (State.conversionDone code)).mgmt.hasFlag f = (s.mgmt.hasFlag f || decide (o = some f))) := by
  refine ⟨fun hl => ?_, fun hl hp f hf => ?_⟩
  · rw [State.perform_earlierConversion hs hn code hl, ho]
  · have hlast := (State.perform_lastConversion hs.1 hn code hl).2
    rw [State.convert_channel, ho] at hlast
    cases o with
    | none => exact (hlast hp f hf).trans (by simp)
    | some g => exact (hlast hp f hf).trans ((s.mgmt.report_hasFlag g f).trans (by simp [eq_comm]))

/-- Settles O6: the record by the four cases of R5, and the rest of the state by whether the cycle goes on. -/
theorem conversionUpdatesTheRecord : Obligations.ConversionUpdatesTheRecord := by
  intro s ch code hs hn
  refine ⟨s.perform (State.conversionDone code), s.channelRecord ch code, rfl, fun hl => ?_, fun hl => ?_, ?_⟩
  · rw [State.perform_earlierConversion hs hn code hl]
  · obtain ⟨⟨c, hc, hchanges⟩, -⟩ := State.perform_lastConversion hs.1 hn code hl
    rw [State.convert_channel] at hc
    rw [hc]
    exact ⟨rfl, hchanges⟩
  refine ⟨s.channelRecord_raw ch code, ?_⟩
  have hreports := fun {o} => channelReport_flags hs hn code (o := o)
  refine ⟨fun v hov => ?_, fun hov haf => ?_, fun hov haf hcode => ?_, fun hov haf h1 h2 => ?_⟩
  · obtain ⟨hr, ho⟩ := State.channel_forced hov code
    rw [hr]
    exact ⟨rfl, rfl, rfl, hreports ho⟩
  · obtain ⟨hr, ho⟩ := State.channel_adcFault hov haf code
    rw [hr]
    exact ⟨rfl, rfl, rfl, hreports ho⟩
  · obtain ⟨hr, ho⟩ := State.channel_faultReading hov haf (faultReading_eq_true.mpr hcode)
    rw [hr] at ho ⊢
    refine ⟨rfl, rfl, fun hv hf => ?_, fun hv => ?_⟩
    · have hsuspect := And.intro hv hf
      simp only [if_pos hsuspect] at ho ⊢
      exact ⟨trivial, hreports ho⟩
    · have hfault : ¬ (s.meas.samples[ch.val].value.isSome = true ∧
          count255 s.meas.samples[ch.val].faults < s.params.persistence) := by
        rintro ⟨hsome, hlt⟩
        obtain hnone | hle := hv
        · exact absurd hsome (by simp [show s.meas.samples[ch.val].value = none from hnone])
        · exact absurd hlt (Nat.not_lt.mpr hle)
      simp only [if_neg hfault] at ho ⊢
      exact ⟨trivial, hreports ho⟩
  · obtain ⟨hr, ho⟩ := State.channel_good hov haf (faultReading_eq_false.mpr ⟨h1, h2⟩)
    rw [hr] at ho ⊢
    rw [valueRange_eq] at ho ⊢
    refine ⟨rfl, rfl, fun hv => ?_, fun hv => ?_⟩
    · have hvalid := (Option.some.inj hv).symm
      simp only [if_pos hvalid] at ho ⊢
      exact ⟨trivial, hreports ho⟩
    · have hclamped : ¬ calibrate s.tables.channels[ch] code =
          clampInt (if ch.val = 6 then 0 else -240) 600 (calibrate s.tables.channels[ch] code) :=
        fun h => hv (congrArg some h.symm)
      simp only [if_neg hclamped] at ho ⊢
      exact ⟨trivial, hreports ho⟩

/-- Settles O8: the self-check's record, good count and ADC_FAULT, on a conversion that ends its cycle. -/
theorem referenceSelfCheck : Obligations.ReferenceSelfCheck := by
  intro s code hs hn
  refine ⟨s.perform (State.conversionDone code), rfl, ?_⟩
  obtain ⟨⟨c, hc, -⟩, hflags⟩ := State.perform_lastConversion hs.1 hn code (by omega)
  rw [State.convert_seven] at hc hflags
  generalize s.perform (State.conversionDone code) = t at hc hflags
  rw [hc]
  have hseven := s.meas.selfCheck_seven s.params.persistence code
  have hchannel := s.meas.selfCheck_channel s.params.persistence code
  have hsets := s.meas.setsAdcFault_iff s.params.persistence code
  refine ⟨fun hp => ?_, ?_, ?_, fun hin => ?_, fun hout => ?_⟩
  · have hflag := hflags hp .adcFault (by simp)
    refine ⟨fun h0 h1 => ?_, fun h => ?_⟩
    · rw [hflag, if_pos (hsets.mpr ⟨h0, h1⟩), Mgmt.report_hasFlag]
      simp
    · rw [hflag, if_neg]
      intro hset
      obtain ⟨h0, h1⟩ := hsets.mp hset
      obtain h | h := h
      · exact Bool.false_ne_true (h0.symm.trans h)
      · exact Bool.false_ne_true (h.symm.trans h1)
  · exact congrArg Sample.raw hseven
  · exact congrArg Sample.value hseven
  · have hw := inWindow_eq_true.mpr hin
    obtain ⟨hgood, haf⟩ := Meas.selfCheck_inside hw s.params.persistence s.meas
    refine ⟨?_, ?_, hgood, ?_, fun ch => ?_⟩
    · simp [hseven, referenceRecord, hw]
    · simp [hseven, referenceRecord, hw]
    · exact haf.trans (by rw [← hgood])
    · exact (hchannel ch).trans (by simp [Meas.setsAdcFault, hw])
  · have hw := inWindow_eq_false.mpr hout
    obtain ⟨hgood, haf⟩ := Meas.selfCheck_outside hw s.params.persistence s.meas
    refine ⟨?_, ?_, hgood, ?_, fun ch => ?_⟩
    · simp [hseven, referenceRecord, hw]
    · simp [hseven, referenceRecord, hw, count255]
    · simpa [hseven, referenceRecord, hw] using haf
    · refine (hchannel ch).trans ?_
      simp only [hsets, and_assoc]

end Sys2Proof.Proofs
end


section
/-! PROOF. Loading the parameters of an image: each is stored as its write stores it, and no later write of the list
touches it or the parameters that bound it (R177; log 5). -/

namespace Sys2Proof.Machine

/-! ## What a write stores (R172, R181) -/

/-- A parameter holds what a write of a value stores: the value itself if it is one of those listed, and the value at
the nearest of the limits in force (chapter 12, section 12.6). -/
def Params.Holds (p : Params) (n : Nat) (v : Int) : Prop :=
  (∀ vs, acceptedValues n = some vs → v ∈ vs → p.get n = v) ∧
    ∀ lo hi, p.limits n = some (lo, hi) → p.get n = max lo (min hi v)

theorem writeNat_get {lo hi n : Nat} {v : Int} {store : Nat → Params} (h : lo ≤ hi)
    (hs : ∀ w ≤ hi, (store w).get n = w) :
    (writeNat lo hi v store).1.get n = max (lo : Int) (min (hi : Int) v) := by
  have hmem := clampInt_mem (Int.ofNat_le.mpr h) v
  have hw := hs (clampInt lo hi v).toNat (by omega)
  rw [Int.toNat_of_nonneg (by omega)] at hw
  exact hw

theorem writeFlag_get {p : Params} {n : Nat} {v : Int} {store : Bool → Params} (hv : v ∈ [(0 : Int), 1])
    (h0 : (store false).get n = 0) (h1 : (store true).get n = 1) : (writeFlag p v store).1.get n = v := by
  unfold writeFlag
  obtain rfl | rfl : v = 0 ∨ v = 1 := by simpa using hv
  · exact h0
  · exact h1

theorem writeListed_get {p : Params} {vs : List Nat} {n : Nat} {v : Int} {store : Nat → Params}
    (hv : v ∈ vs.map (fun x : Nat => (x : Int))) (hs : ∀ x, (store x).get n = x) :
    (writeListed p vs v store).1.get n = v := by
  unfold writeListed
  split
  next x hx => rw [hs x]; simpa using List.find?_some hx
  next hx =>
    obtain ⟨x, hmem, rfl⟩ := List.mem_map.mp hv
    simpa using List.find?_eq_none.mp hx x hmem

theorem Params.write_holds {p : Params} (h : p.Ordered) {n : Nat} (hn : 1 ≤ n ∧ n ≤ 53) (v : Int) :
    (p.write n v).1.Holds n v := by
  unfold Params.write
  split
  case h_1 | h_24 | h_44 | h_45 =>
    refine ⟨?_, nofun⟩
    rintro _ ⟨⟩ hv
    exact writeListed_get hv (fun _ => rfl)
  case h_12 | h_21 | h_31 | h_32 | h_33 | h_42 | h_52 | h_53 =>
    refine ⟨?_, nofun⟩
    rintro _ ⟨⟩ hv
    exact writeFlag_get hv rfl rfl
  case h_2 =>
    refine ⟨nofun, ?_⟩
    rintro _ _ ⟨⟩
    exact writeNat_get (by decide) (fun w hw => congrArg Nat.cast (index8_val (by omega)))
  case h_3 =>
    refine ⟨nofun, ?_⟩
    rintro _ _ ⟨⟩
    have hmem := clampInt_mem (lo := 0) (hi := 7) (by decide) v
    show ((index8 (max p.firstIndex.val (clampInt 0 7 v).toNat)).val : Int) = max (p.firstIndex.val : Int) (min 7 v)
    rw [index8_val (by omega)]
    simp only [clampInt] at hmem ⊢
    omega
  case h_6 | h_7 =>
    refine ⟨nofun, ?_⟩
    rintro _ _ ⟨⟩
    exact writeNat_get (Nat.zero_le _) (fun _ _ => rfl)
  case h_36 =>
    refine ⟨nofun, ?_⟩
    rintro _ _ ⟨⟩
    obtain ⟨-, -, -, h1, h255, -⟩ := h
    show ((min (clampInt 0 255 v).toNat (p.hbMax - 1) : Nat) : Int) = max 0 (min ((p.hbMax : Int) - 1) v)
    simp only [clampInt]
    omega
  case h_13 | h_15 | h_16 | h_17 =>
    refine ⟨nofun, ?_⟩
    rintro _ _ ⟨⟩
    rfl
  case h_54 => simp only [imp_false] at *; omega
  all_goals
    refine ⟨nofun, ?_⟩
    rintro _ _ ⟨⟩
    exact writeNat_get (by decide) (fun _ _ => rfl)

/-- A write turns down exactly the values that a parameter of listed values does not accept (R181). -/
theorem Params.write_badValue_iff (p : Params) {n : Nat} (hn : 1 ≤ n ∧ n ≤ 53) (v : Int) :
    (p.write n v).2 = .badValue ↔ ∃ vs, acceptedValues n = some vs ∧ v ∉ vs := by
  have hstatus (w : Int) : statusOf v w ≠ .badValue := by unfold statusOf; split <;> decide
  have hflag (store : Bool → Params) : (writeFlag p v store).2 = .badValue ↔ v ∉ [(0 : Int), 1] := by
    unfold writeFlag; split_ifs <;> simp_all
  have hlisted (vs : List Nat) (store : Nat → Params) :
      (writeListed p vs v store).2 = .badValue ↔ v ∉ vs.map (fun x : Nat => (x : Int)) := by
    unfold writeListed
    split <;> rename_i hx
    · simp only [reduceCtorEq, false_iff, not_not]
      exact List.mem_map.mpr ⟨_, List.mem_of_find?_eq_some hx, by simpa using List.find?_some hx⟩
    · simpa using hx
  have hnumeric {st : Status} {o : Option (List Int)} (hst : st ≠ .badValue) (ho : o = none) :
      st = .badValue ↔ ∃ vs, o = some vs ∧ v ∉ vs := by simp [hst, ho]
  have hone {st : Status} {vs : List Int} (hst : st = .badValue ↔ v ∉ vs) :
      st = .badValue ↔ ∃ ws, some vs = some ws ∧ v ∉ ws := by simp [hst]
  unfold Params.write
  split
  case h_1 | h_24 | h_44 | h_45 => exact hone (hlisted _ _)
  case h_12 | h_21 | h_31 | h_32 | h_33 | h_42 | h_52 | h_53 => exact hone (hflag _)
  case h_54 => simp only [imp_false] at *; omega
  all_goals exact hnumeric (hstatus _) rfl

/-! ## What a write leaves (R172) -/

/-- A write leaves every parameter of a lower number as it was. -/
theorem Params.write_listed_take (p : Params) (n : Nat) (v : Int) :
    (p.write n v).1.listed.take (n - 1) = p.listed.take (n - 1) := by
  unfold Params.write
  split
  case h_1 | h_24 | h_44 | h_45 =>
    exact writeListed_fst (P := fun q => q.listed.take _ = p.listed.take _) rfl (fun _ => rfl)
  case h_12 | h_21 | h_31 | h_32 | h_33 | h_42 | h_52 | h_53 =>
    exact writeFlag_fst (P := fun q => q.listed.take _ = p.listed.take _) rfl (fun _ => rfl)
  all_goals rfl

theorem Params.write_get_lower (p : Params) {m : Fin 53} {n : Nat} (h : m.val + 1 < n) (v : Int) :
    (p.write n v).1.get (m.val + 1) = p.get (m.val + 1) := by
  have htake := congrArg (fun l : List Int => l[m.val]?) (p.write_listed_take n v)
  simpa [List.getElem?_take, show m.val < n - 1 by omega, Params.listed_getElem?] using htake

/-- The limits of a parameter rest on parameters of lower numbers alone. -/
theorem Params.limits_congr {p q : Params} {n : Nat}
    (h : ∀ m : Fin 53, m.val + 1 < n → p.get (m.val + 1) = q.get (m.val + 1)) : p.limits n = q.limits n := by
  unfold Params.limits
  split
  case h_2 => rw [show (p.firstIndex.val : Int) = q.firstIndex.val from h 1 (by decide)]
  case h_6 => rw [show (p.normalBudget : Int) = q.normalBudget from h 4 (by decide)]
  case h_7 => rw [show (p.brownoutBudget : Int) = q.brownoutBudget from h 5 (by decide)]
  case h_35 => rw [show (p.hbMax : Int) = q.hbMax from h 34 (by decide)]
  all_goals rfl

theorem Params.Holds.congr {p q : Params} {n : Fin 53} {v : Int} (hp : p.Holds (n.val + 1) v)
    (h : ∀ m ≤ n, q.get (m.val + 1) = p.get (m.val + 1)) : q.Holds (n.val + 1) v := by
  have hlim : q.limits (n.val + 1) = p.limits (n.val + 1) :=
    Params.limits_congr (fun m hm => h m (Fin.le_def.mpr (by omega)))
  exact ⟨fun vs hvs hv => (h n le_rfl).trans (hp.1 vs hvs hv),
    fun lo hi hl => (h n le_rfl).trans (hp.2 lo hi (hlim ▸ hl))⟩

/-! ## The load (R177) -/

/-- Some parameters of an image written in the order given. -/
def writeAll (v : Vector Int 53) (l : List (Fin 53)) (q : Params) : Params :=
  l.foldl (fun q n => (q.write (n.val + 1) v[n]).1) q

theorem loadParams_eq_writeAll (v : Vector Int 53) : loadParams v = writeAll v (List.finRange 53) Params.default := rfl

theorem writeAll_get_lower (v : Vector Int 53) {l : List (Fin 53)} {m : Fin 53} (h : ∀ n ∈ l, m < n) (q : Params) :
    (writeAll v l q).get (m.val + 1) = q.get (m.val + 1) := by
  induction l generalizing q with
  | nil => rfl
  | cons n l ih =>
    have hn : m < n := h n (by simp)
    exact (ih (fun k hk => h k (by simp [hk])) _).trans (Params.write_get_lower _ (by omega) _)

theorem writeAll_holds (v : Vector Int 53) {l : List (Fin 53)} (hl : l.Pairwise (· < ·)) {q : Params}
    (hq : q.Ordered) {n : Fin 53} (hn : n ∈ l) : (writeAll v l q).Holds (n.val + 1) v[n] := by
  induction l generalizing q with
  | nil => cases hn
  | cons a l ih =>
    obtain ⟨ha, hl⟩ := List.pairwise_cons.mp hl
    obtain rfl | hn := List.mem_cons.mp hn
    · exact (Params.write_holds hq (n := n.val + 1) (by omega) v[n]).congr
        (fun m hm => writeAll_get_lower v (fun k hk => lt_of_le_of_lt hm (ha k hk)) _)
    · exact ih hl (Params.write_ordered hq _ _) hn

theorem loadParams_holds (v : Vector Int 53) (n : Fin 53) : (loadParams v).Holds (n.val + 1) v[n] := by
  rw [loadParams_eq_writeAll]
  exact writeAll_holds v (List.pairwise_lt_finRange 53) Params.default_ordered (List.mem_finRange n)

end Sys2Proof.Machine
end


section
/-! PROOF. An image's acceptance and load, and the part leaving cold reset (R2, R54, R56, R177, R180). -/

namespace Sys2Proof.Machine

/-! ## Acceptance (R177) -/

theorem paramsKnown_iff (v : Vector Int 53) : paramsKnown v = true ↔
    ∀ (n : Fin 53) (vs : List Int), acceptedValues (n.val + 1) = some vs → v[n] ∈ vs := by
  have hn (n : Fin 53) : 1 ≤ n.val + 1 ∧ n.val + 1 ≤ 53 := by omega
  simp [paramsKnown, Params.write_badValue_iff _ (hn _)]

theorem ImageTables.lengthsKnown_iff (t : ImageTables) : t.lengthsKnown = true ↔
    (∀ n : Fin 4, t.sequences[n].steps.length ≤ 10) ∧ t.dim.payload.length ≤ 16 ∧ t.wake.payload.length ≤ 16 := by
  simp [ImageTables.lengthsKnown, Vector.all_eq_true, Fin.forall_iff, and_assoc]

theorem StoreImage.accepted_iff (i : StoreImage) : i.accepted = true ↔
    i.version = 1 ∧ i.crcOk = true ∧ i.unknownEnum = false ∧
      (∀ (n : Fin 53) (vs : List Int), acceptedValues (n.val + 1) = some vs → i.tables.params[n] ∈ vs) ∧
      (∀ n : Fin 4, i.tables.sequences[n].steps.length ≤ 10) ∧
      i.tables.dim.payload.length ≤ 16 ∧ i.tables.wake.payload.length ≤ 16 := by
  simp only [StoreImage.accepted, Bool.and_eq_true, paramsKnown_iff, ImageTables.lengthsKnown_iff, decide_eq_true_eq,
    Bool.not_eq_true', and_assoc]

/-! ## The loaded entries (R177) -/

theorem ZoneRecord.corrected_eq_limited (r : ZoneRecord) : r.corrected = r.limited := by
  simp [ZoneRecord.corrected, ZoneRecord.limited, clampInt, clampNat]

/-- Whatever the swaps do, they do to the priorities. -/
theorem normaliseZones_get (t : PerZone ZoneRecord) (z : ZoneId) :
    (normaliseZones t).get z = { (t.get z).limited with priority := ((normaliseZones t).get z).priority } := by
  rw [← ZoneRecord.corrected_eq_limited]
  cases z <;> simp [normaliseZones, swapPriorities_get]

/-- Priorities that are a permutation are loaded as they stand. -/
theorem normaliseZones_priority {t : PerZone ZoneRecord} (h : PrioritiesPermuted t) (z : ZoneId) :
    ((normaliseZones t).get z).priority = (t.get z).priority := by
  obtain ⟨hlt, hinj⟩ := (prioritiesPermuted_iff t).mp h
  have hcorrected (o : ZoneId) : (t.get o).corrected.priority = (t.get o).priority := by
    have ho := hlt o
    simp only [ZoneRecord.corrected, clampNat]
    omega
  have hne {a b : ZoneId} (hab : a ≠ b) : ¬ (t.get a).priority = (t.get b).priority := mt (hinj a b) hab
  cases z <;> simp [normaliseZones, swapPriorities_get, hcorrected, hne]

theorem classAtLimit_val (n : Nat) : (classAtLimit n).val = max 8 (min 63 n) := by
  show clampNat 8 63 n % 64 = max 8 (min 63 n)
  simp only [clampNat]
  omega

/-! ## The part leaves cold reset (R53, R56) -/

/-- No grant stands at cold reset, so a report leaves the Heating Controller's zones as they are (R30, R38). -/
theorem Heat.cold_onReport (t : Tables) (st : PowerState) :
    (Heat.cold t).onReport st = { Heat.cold t with kept := st } := by
  unfold Heat.onReport
  split <;> rfl

/-- Every slot is clear at cold reset, whatever its mask (R116, R125). -/
theorem Matcher.cold_onReport (slots : Vector SeqSlot 4) (st : PowerState) :
    Matcher.cold.onReport slots st = { Matcher.cold with kept := st } := by
  have hslots : Matcher.cold.slots.mapFinIdx
      (fun i p h => if (slots[i]'h).allows st then p else SlotProgress.clear) = Matcher.cold.slots :=
    Vector.ext fun i hi => by simp [Matcher.cold]
  simp only [Matcher.onReport, hslots]

/-- PROFILE_DEFAULTED is the one flag of a load, where the image is not accepted (R177). -/
def StoreImage.loadFlags (i : StoreImage) : BitVec 16 := if i.accepted then 0 else StickyFlag.profileDefaulted.mask

/-- The part out of cold reset: every block at its cold reset values with the tables loaded, the power state taken by
the mains-return policy reported, and the first cycle started (R56, R2). -/
def State.released (st : PowerState) (timer : Option Timer) (s : State) : State :=
  let l := s.store.load
  { s with
    held := false
    clockMs := 0
    tables := l
    meas := Meas.cold.startCycle l.params 0
    heat := { Heat.cold l with kept := st }
    thermal := { Thermal.cold with kept := st }
    power :=
      { PowerSeq.cold l.params.resetPolarity l.params.powerGoodPolarity s.power.pgLevel with
        state := st, timer := timer, nextSeq := 1
        log := [{ seq := 0, uptime := BitVec.ofNat 32 (0 / 1000), cause := .mainsReturn, stateLeft := .off, hot := none
                  slot := none, listLen := 0 }] }
    live := Liveness.cold
    keypad := { Keypad.cold with kept := st }
    matcher := { Matcher.cold with kept := st }
    beeper := Beeper.cold
    sys := SysPort.cold l.params.systemRate s.sys.hostReady
    disp := DispPort.cold l.params.displayRate
    switch := Switch.cold
    path := DisplayPath.cold
    mgmt :=
      { Mgmt.cold s.store.source with
        kept := st, sticky := s.store.loadFlags } }

/-- The mains-return policy as a state and a timer (R56). -/
def mainsTarget (p : Params) : Target :=
  match p.mainsPolicy with
  | .start => toPreheat p
  | .stayOff => toOff

theorem State.mainsReturn_eq (s : State) :
    s.mainsReturn = s.transition (mainsTarget s.params) [(.mainsReturn, none)] := by
  unfold State.mainsReturn mainsTarget
  cases s.params.mainsPolicy <;> rfl

/-- The loaded part before the policy: OFF at cold reset (R53, R177). -/
def State.loaded (s : State) : State :=
  { s.released .off none with
    meas := Meas.cold
    heat := Heat.cold s.store.load
    matcher := Matcher.cold
    power := PowerSeq.cold s.store.load.params.resetPolarity s.store.load.params.powerGoodPolarity s.power.pgLevel
    mgmt := { Mgmt.cold s.store.source with sticky := s.store.loadFlags, justReported := s.store.loadFlags } }

theorem Mgmt.cold_report (source : ProfileSource) (f : StickyFlag) :
    (Mgmt.cold source).report f = { Mgmt.cold source with sticky := f.mask, justReported := f.mask } := by
  simp [Mgmt.report, Mgmt.cold]

theorem State.loadProfile_eq (s : State) : s.loadProfile = s.loaded := by
  unfold State.loadProfile State.reportIf State.loaded StoreImage.loadFlags
  cases s.store.accepted
  case true => rfl
  case false =>
    have hm := Mgmt.cold_report s.store.source .profileDefaulted
    exact congrArg (fun m => { s.loaded with mgmt := m }) hm

/-- The policy's transition from the loaded part: every block takes its report in its cold reset values. -/
theorem State.loaded_transition (s : State) (st : PowerState) (timer : Option Nat) (h : st = .off ∨ st = .preheat) :
    s.loaded.transition { state := st, phase := none, dest := none, timer := timer } [(.mainsReturn, none)] =
      { s.released st (timer.map (fun d => { start := 0, dur := d })) with
        meas := Meas.cold
        mgmt :=
          { Mgmt.cold s.store.source with
            kept := st, sticky := s.store.loadFlags, justReported := s.store.loadFlags } } := by
  have hreport (u : State) (hu : u.heat = { Heat.cold s.store.load with kept := st })
      (hm : u.matcher = { Matcher.cold with kept := st }) :
      { u with
        heat := (Heat.cold s.store.load).onReport st
        matcher := Matcher.cold.onReport s.store.load.sequences st } = u := by
    rw [Heat.cold_onReport, Matcher.cold_onReport, ← hu, ← hm]
  rw [← hreport { s.released st _ with meas := Meas.cold, mgmt := _ } rfl rfl]
  obtain rfl | rfl := h <;> rfl

/-- The part out of cold reset, in the state that the loaded policy names (R56). -/
def State.releasedByPolicy (s : State) : State :=
  let target := mainsTarget s.store.load.params
  s.released target.state (target.timer.map (fun d => { start := 0, dur := d }))

theorem exec_coldResetRelease {s : State} (h : s.held = true) :
    exec .coldResetRelease s = .next s.releasedByPolicy := by
  have hleave : exec .coldResetRelease s = .next s.leaveReset.finish := congrArg Host.Outcome.next (if_pos h)
  have hparams : s.loaded.params = s.store.load.params := rfl
  rw [hleave, State.leaveReset, State.mainsReturn_eq, State.loadProfile_eq, hparams, State.releasedByPolicy]
  unfold mainsTarget
  cases s.store.load.params.mainsPolicy
  · exact congrArg (fun t : State => Host.Outcome.next (t.onMeas (Meas.startCycle s.store.load.params 0)).finish)
      (s.loaded_transition .preheat (some (s.store.load.params.preheatLimit * 60000)) (.inr rfl))
  · exact congrArg (fun t : State => Host.Outcome.next (t.onMeas (Meas.startCycle s.store.load.params 0)).finish)
      (s.loaded_transition .off none (.inl rfl))

/-! ## What the loaded tables are (R177) -/

/-- An image that is not accepted: the built-in values and PROFILE_DEFAULTED. -/
theorem StoreImage.refused_load {i : StoreImage} (h : i.accepted = false) :
    i.load = Tables.default ∧ i.source = .defaults ∧ i.loadFlags = StickyFlag.profileDefaulted.mask := by
  simp [StoreImage.load, StoreImage.source, StoreImage.loadFlags, h]

theorem StoreImage.accepted_load {i : StoreImage} (h : i.accepted = true) :
    i.load = i.tables.load ∧ i.source = .store ∧ i.loadFlags = 0 := by
  simp [StoreImage.load, StoreImage.source, StoreImage.loadFlags, h]

section
variable (i : ImageTables)

theorem ImageTables.load_class (c : Fin 56) : i.load.classes[c] = { i.classes[c] with
    minLength := min i.classes[c].minLength 48
    maxLength := max (min i.classes[c].maxLength 48) (min i.classes[c].minLength 48) } := by
  simp [ImageTables.load, ClassEntry.corrected]

theorem ImageTables.load_sequence (n : Fin 4) :
    i.load.sequences[n] = { i.sequences[n] with hold := min i.sequences[n].hold 100 } := by
  simp [ImageTables.load, SeqSlot.corrected]

theorem ImageTables.load_channel (ch : Fin 7) : i.load.channels[ch] =
    { slope := max (-8192) (min 8191 i.channels[ch].slope)
      offset := max (-2048) (min 2047 i.channels[ch].offset) } := by
  simp [ImageTables.load, Calibration.corrected, clampInt]

theorem ImageTables.load_param {n : Fin 53} {vs : List Int} (h : acceptedValues (n.val + 1) = some vs)
    (hv : i.params[n] ∈ vs) : i.load.params.get (n.val + 1) = i.params[n] :=
  (loadParams_holds i.params n).1 vs h hv

theorem ImageTables.load_param_limits {n : Fin 53} {lo hi : Int}
    (h : i.load.params.limits (n.val + 1) = some (lo, hi)) :
    i.load.params.get (n.val + 1) = max lo (min hi i.params[n]) :=
  (loadParams_holds i.params n).2 lo hi h

end

/-! ## The released part -/

/-- With no change pending and nothing forced, the first cycle only marks the channels outside its range (R4). -/
theorem Meas.cold_startCycle_sample (p : Params) (now : Nat) (ch : Fin 8) :
    (Meas.cold.startCycle p now).samples[ch] =
      { Meas.cold.samples[ch] with state := if p.firstIndex ≤ ch ∧ ch ≤ p.lastIndex then .none else .stale } := by
  have hrecord : Meas.cold.recordAtStart p.firstIndex p.lastIndex ch.val Sample.blank =
      { Sample.blank with state := if p.firstIndex ≤ ch ∧ ch ≤ p.lastIndex then .none else .stale } := by
    by_cases hin : p.firstIndex ≤ ch ∧ ch ≤ p.lastIndex <;>
      simp [Meas.recordAtStart, Meas.cold, PendingChange.apply, PendingChange.override, Meas.overrideOf, markOutside,
        Sample.blank, hin]
  have hblank (n : Nat) (h : n < 8) : Meas.cold.samples[n] = Sample.blank := by simp [Meas.cold]
  refine (Meas.startCycle_sample p now Meas.cold ch.isLt).trans ?_
  rw [hblank, hrecord]
  exact congrArg (fun r : Sample => { r with state := if p.firstIndex ≤ ch ∧ ch ≤ p.lastIndex then .none else .stale })
    (hblank ch.val ch.isLt).symm

theorem Meas.cold_startCycle_overrides (p : Params) (now : Nat) :
    (Meas.cold.startCycle p now).overrides = Meas.cold.overrides :=
  Vector.ext fun i hi => by simp [Meas.startCycle, Meas.cold, PendingChange.override]

theorem Heat.cold_zone (t : Tables) (z : ZoneId) :
    (Heat.cold t).zones.get z = { (Heat.cold Tables.default).zones.get z with inForce := t.zones.get z } := by
  simp [Heat.cold, ZoneState.atReset]

theorem mainsTarget_start {p : Params} (h : p.mainsPolicy = .start) : mainsTarget p = toPreheat p := by
  simp [mainsTarget, h]

theorem mainsTarget_stayOff {p : Params} (h : p.mainsPolicy = .stayOff) : mainsTarget p = toOff := by
  simp [mainsTarget, h]

end Sys2Proof.Machine

namespace Sys2Proof.Proofs
open Sys2Proof.Machine

/-- Settles O4: the load and the policy's transition give the released part as one state, and the clauses are read off
it. -/
theorem coldResetReleaseStartsThePart : Obligations.ColdResetReleaseStartsThePart := by
  refine ⟨StoreImage.accepted_iff, fun s h => ⟨_, exec_coldResetRelease h, rfl, rfl, fun hrefused => ?_,
    fun haccepted => ?_, rfl, rfl, rfl,
    ⟨rfl, rfl, rfl, rfl, rfl, rfl, rfl, rfl, rfl, rfl, rfl, Heat.cold_zone s.store.load,
      Meas.cold_startCycle_overrides _ _, rfl, rfl, rfl, Meas.cold_startCycle_sample s.store.load.params 0⟩,
    rfl, rfl, rfl, rfl, rfl, rfl, rfl, fun hstart => ?_, fun hstay => ?_, ⟨rfl, rfl, rfl, rfl, rfl⟩,
    rfl, rfl, rfl, rfl, rfl, rfl, rfl, rfl⟩⟩
  · exact StoreImage.refused_load hrefused
  · obtain ⟨hload, hsource, hflags⟩ := StoreImage.accepted_load haccepted
    obtain ⟨-, -, -, hlisted, -, -, -⟩ := (StoreImage.accepted_iff _).mp haccepted
    have htables : s.releasedByPolicy.tables = s.store.tables.load := hload
    simp only [State.params, htables]
    have hzones := normaliseZones_permuted s.store.tables.zones
    exact ⟨hsource, hflags, ImageTables.load_class _, rfl, ImageTables.load_sequence _, normaliseZones_get _, hzones,
      normaliseZones_priority, ImageTables.load_channel _, ⟨rfl, rfl, classAtLimit_val _⟩,
      ⟨rfl, rfl, classAtLimit_val _⟩,
      fun n => ⟨fun vs hvs => ImageTables.load_param _ hvs (hlisted n vs hvs),
        fun lo hi => ImageTables.load_param_limits _⟩⟩
  · rw [State.releasedByPolicy, mainsTarget_start (p := s.store.load.params) hstart]
    exact ⟨rfl, rfl⟩
  · rw [State.releasedByPolicy, mainsTarget_stayOff (p := s.store.load.params) hstay]
    exact ⟨rfl, rfl⟩

end Sys2Proof.Proofs
end


section
/-! PROOF. The layouts of chapter 12: the records, entries and counters that the reading requests answer with. -/

namespace Sys2Proof.Machine

/-! ## Fields of records laid one after another (R181) -/

theorem getElem?_flatten_of_length {α : Type} {n : Nat} {records : List (List α)} (h : ∀ l ∈ records, l.length = n)
    (i : Nat) {j : Nat} (hj : j < n) : records.flatten[n * i + j]? = records[i]?.bind (·[j]?) := by
  induction records generalizing i with
  | nil => simp
  | cons r records ih =>
    obtain ⟨hr, hrest⟩ := List.forall_mem_cons.mp h
    cases i with
    | zero => simp [List.getElem?_append_left (hr.symm ▸ hj)]
    | succ i =>
      have hlen : r.length ≤ n * (i + 1) + j := by rw [hr, Nat.mul_succ]; omega
      have hsub : n * (i + 1) + j - n = n * i + j := by rw [Nat.mul_succ]; omega
      rw [List.flatten_cons, List.getElem?_append_right hlen, hr, hsub, ih hrest, List.getElem?_cons_succ]

theorem fieldAt_congr {d e : List Byte} {j k n : Nat} (h : ∀ i < n, d[k + i]? = e[j + i]?) :
    fieldAt d k n = fieldAt e j n := by
  induction n generalizing j k with
  | zero => rfl
  | succ n ih =>
    have hrest : fieldAt d (k + 1) n = fieldAt e (j + 1) n :=
      ih fun i hi => by simpa only [Nat.add_assoc, Nat.add_comm 1 i] using h (i + 1) (by omega)
    have hfirst : d[k]? = e[j]? := h 0 (Nat.succ_pos n)
    simp only [fieldAt, hfirst, hrest]

/-- A field inside one of some records of one length. -/
theorem fieldAt_flatten {n : Nat} {records : List (List Byte)} (h : ∀ l ∈ records, l.length = n) {i j m : Nat}
    {r : List Byte} (hr : records[i]? = some r) (hj : j + m ≤ n) :
    fieldAt records.flatten (n * i + j) m = fieldAt r j m :=
  fieldAt_congr fun k hk => by
    rw [Nat.add_assoc, getElem?_flatten_of_length h i (by omega), hr, Option.bind_some]

/-! ## Codes (sections 12.4 and 12.5) -/

theorem PowerState.code_eq (st : PowerState) : st.code = codeIn codedPowerStates st := by cases st <;> rfl

theorem Cause.code_eq (c : Cause) : c.code = codeIn codedCauses c := by cases c <;> rfl

theorem phaseCode_eq (ph : Option Phase) : phaseCode ph =
    codeIn [none, some .reserve, some .powerWait, some .settle, some .bootWait, some .pulse] ph := by
  rcases ph with - | (_ | _ | _ | _ | _) <;> rfl

theorem destCode_eq (dest : Option Destination) : destCode dest = codeIn [none, some .hotOff, some .off] dest := by
  rcases dest with - | (_ | _) <;> rfl

theorem PathState.code_eq (p : PathState) :
    p.code = codeIn [.off, .waitWarm, .starting, .opened, .dimmed, .recovering, .failed] p := by cases p <;> rfl

theorem Stage.code_eq (st : Stage) : st.code = codeIn [.idle, .bootWait, .watching, .warned, .suspended] st := by
  cases st <;> rfl

theorem CommitState.code_eq (c : CommitState) : c.code = codeIn [.none, .inProgress, .done, .failed] c := by
  cases c <;> rfl

theorem SampleState.code_eq (st : SampleState) :
    st.code = codeIn [.none, .valid, .clamped, .suspect, .fault, .stale, .forced] st := by cases st <;> rfl

theorem Direction.code_eq (d : Direction) : d.code = codeIn [.none, .toDisplay, .toSystem, .both] d := by
  cases d <;> rfl

theorem ClassAction.code_eq (a : ClassAction) : a.code = codeIn [.hold, .liveOnly, .drop] a := by cases a <;> rfl

theorem KeyKind.code_eq (k : KeyKind) : k.code = codeIn [.normal, .service, .disabled] k := by cases k <;> rfl

theorem SlotAction.code_eq (a : SlotAction) :
    a.code = codeIn [.none, .powerOn, .restart, .serviceRelease, .notice] a := by cases a <;> rfl

/-- A byte of a code. -/
theorem carries_code {d : List Byte} {k code n : Nat} (hcode : code = n) (h : d[k]? = some (byte code)) :
    Carries d k 1 n := carries_byte (hcode ▸ h)

/-! ## Counters (section 12.4) -/

theorem carriesCounts_flatMap_u16 (counts : List Nat) : CarriesCounts (counts.flatMap u16) counts := by
  have hlen : ∀ l ∈ counts.map u16, l.length = 2 := by
    intro l hl
    obtain ⟨n, -, rfl⟩ := List.mem_map.mp hl
    rfl
  refine ⟨?_, fun j n hn => ?_⟩
  · induction counts with
    | nil => rfl
    | cons n counts ih => 
      have hrest := ih fun l hl => hlen l (List.mem_cons_of_mem _ hl)
      rw [List.flatMap_cons, List.length_append, hrest, hlen _ (List.mem_map_of_mem List.mem_cons_self)]
      exact (Nat.mul_succ 2 counts.length ▸ Nat.add_comm ..)
  · have hrecord : (counts.map u16)[j]? = some (u16 n) := by rw [List.getElem?_map, hn, Option.map_some]
    have hfield : fieldAt (counts.flatMap u16) (2 * j) 2 = fieldAt (u16 n) 0 2 :=
      fieldAt_flatten (j := 0) hlen hrecord (Nat.le_refl 2)
    rw [Carries, hfield]
    exact carries_u16 rfl rfl

theorem errorBytes_counts (e : PortErrors) : CarriesCounts (errorBytes e) e.counts :=
  carriesCounts_flatMap_u16 e.counts

theorem Switch.groupBytes_eq (w : Switch) (first : Nat) : w.groupBytes first = (w.counts first).flatMap u16 := by
  have hclasses : ((List.range 64).drop first).take 11 = List.range' first (min 11 (64 - first)) :=
    List.ext_getElem (by simp) (by simp)
  simp [Switch.groupBytes, Switch.counts, hclasses, List.flatMap_assoc]

/-! ## Entries (section 12.5) -/

theorem carries_toNat {d : List Byte} {k : Nat} {b : Byte} (h : d[k]? = some b) : Carries d k 1 b.toNat := by
  refine carries_byte (h.trans (congrArg some ?_))
  simp [byte]

theorem classBytes_layout (e : ClassEntry) : ClassLayout e (classBytes e) :=
  ⟨rfl, carries_code e.direction.code_eq rfl, carries_code e.action.code_eq rfl, carriesFlags rfl, carries_byte rfl,
    carries_byte rfl⟩

theorem keyBytes_layout (e : KeyEntry) : KeyLayout e (keyBytes e) :=
  ⟨rfl, carries_toNat rfl, carries_code e.kind.code_eq rfl, carriesFlags rfl⟩

theorem slotBytes_mask (e : SeqSlot) : fieldAt (slotBytes e) 1 2 = e.mask.toNat := by
  have h := e.mask.isLt
  rw [fieldAt_bytes16 (w := BitVec.ofNat 16 e.mask.toNat) rfl rfl, BitVec.toNat_ofNat]
  omega

theorem slotBytes_layout (e : SeqSlot) : SlotLayout e (slotBytes e) := by
  refine ⟨?_, carries_code e.action.code_eq rfl, fun st => ?_, ?_, carries_byte rfl, carries_byte rfl, fun j k hk => ?_⟩
  · simp only [slotBytes, u16, bytes16, List.length_append, List.length_cons, List.length_nil, List.length_map]
  · rw [slotBytes_mask, ← st.code_eq]
    rfl
  · rw [slotBytes_mask]
    exact e.mask.isLt
  · refine carries_byte ?_
    have hstep : (slotBytes e)[5 + j]? = (e.steps.map fun k => byte k.val)[j]? := by
      simp [slotBytes, u16, bytes16, Nat.add_comm 5 j]
    rw [hstep, List.getElem?_map, hk, Option.map_some]

theorem zoneBytes_layout (r : ZoneRecord) : ZoneLayout r (zoneBytes r) :=
  ⟨rfl, carries_byte rfl, carries_byte rfl, carriesFlags rfl, carries_s16 rfl rfl, carries_byte rfl,
    carries_u16 rfl rfl, carries_s16 rfl rfl, carries_byte rfl, carries_s16 rfl rfl, carries_s16 rfl rfl, carries_byte rfl, carries_byte rfl⟩

theorem calibrationBytes_layout (c : Calibration) : ChannelLayout c (calibrationBytes c) :=
  ⟨rfl, carries_s16 rfl rfl, carries_s16 rfl rfl⟩

theorem paramBytes_layout (v : Int) : ParameterLayout v (paramBytes v) := by
  refine ⟨rfl, ?_⟩
  rw [Carries, carries_bytes32 (w := BitVec.ofInt 32 v) rfl rfl rfl rfl, BitVec.toNat_ofInt]
  omega

theorem injectBytes_layout (e : InjectEntry) : InjectLayout e (injectBytes e) :=
  ⟨carriesFlags rfl, carries_byte rfl, carries_byte rfl, rfl⟩

/-! ## The records (section 12.4) -/

theorem logBytes_layout (r : LogRecord) : LogLayout r (logBytes r) := by
  refine ⟨rfl, ?_, ?_, carries_code r.cause.code_eq rfl, carries_code r.stateLeft.code_eq rfl, carries_s16 rfl rfl, ?_,
    carries_byte rfl⟩
  · have h := r.seq.isLt
    rw [Carries, fieldAt_bytes16 (w := r.seq) rfl rfl]
    omega
  · have h := r.uptime.isLt
    rw [Carries, carries_bytes32 (w := r.uptime) rfl rfl rfl rfl]
    omega
  · obtain ⟨-, -, -, -, -, - | (_ | _), -⟩ := r <;> exact carries_byte rfl

theorem codedFlags_bit {j : Fin 16} {f : StickyFlag} (h : codedFlags[j.val]? = some f) : j = f.bit :=
  Fin.ext ((List.getElem?_inj (l := codedFlags) j.isLt (by decide)).mp (h.trans f.coded.symm))

theorem State.statusBytes_layout (s : State) : StatusLayout s s.statusBytes := by
  refine ⟨rfl, carries_code s.power.state.code_eq rfl, carries_code (phaseCode_eq _) rfl,
    carries_code (destCode_eq _) rfl, carries_code s.path.state.code_eq rfl, carries_code s.live.stage.code_eq rfl, carriesFlags rfl, carriesFlags rfl,
    carries_code s.mgmt.commit.code_eq rfl, fun j f hf => ?_⟩
  rw [fieldAt_bytes16 (w := s.mgmt.sticky) rfl rfl, codedFlags_bit hf]
  rfl

theorem State.zonesBytes_layout (s : State) : ZonesLayout s s.zonesBytes := by
  refine ⟨rfl, fun z => ?_, carries_u16 rfl rfl, carries_u16 rfl rfl, carries_u16 rfl rfl, carriesFlags rfl⟩
  cases z <;> exact ⟨carries_s16 rfl rfl, carries_s16 rfl rfl, carries_u16 rfl rfl, carriesFlags rfl, carries_byte rfl,
    carries_byte rfl⟩

theorem sampleBytes_word (ch : Nat) (r : Sample) : fieldAt (sampleBytes ch r) 0 2 =
    (r.raw.getD (Config.absentRawCode ch)).toNat + 4096 * r.state.code + if r.raw = none then 32768 else 0 := by
  have hraw := (r.raw.getD (Config.absentRawCode ch)).isLt
  have hcode : r.state.code ≤ 6 := by cases r.state <;> decide
  rw [fieldAt_bytes16 (w := BitVec.ofNat 16 _) rfl rfl, BitVec.toNat_ofNat]
  simp only [Option.isNone_iff_eq_none]
  split <;> omega

/-- The word of a sample record: the raw code, the state's code above it and the absent flag on top. -/
theorem sampleBytes_word_fields (ch : Nat) (r : Sample) :
    (∀ c, r.raw = some c → fieldAt (sampleBytes ch r) 0 2 % 4096 = c.toNat) ∧
      fieldAt (sampleBytes ch r) 0 2 / 4096 % 8 = r.state.code ∧
      fieldAt (sampleBytes ch r) 0 2 / 32768 = if r.raw = none then 1 else 0 := by
  have hraw := (r.raw.getD (Config.absentRawCode ch)).isLt
  have hcode : r.state.code ≤ 6 := by cases r.state <;> decide
  rw [sampleBytes_word]
  refine ⟨fun c hc => ?_, ?_, ?_⟩
  · have hlt := c.isLt
    simp only [hc, Option.getD_some, reduceCtorEq, if_false]
    omega
  · split <;> omega
  · split <;> omega

/-- The sample records one by one. -/
def State.sampleRecords (s : State) : List (List Byte) :=
  (s.meas.samples.mapFinIdx (fun i r _ => sampleBytes i r)).toList

theorem State.sampleRecords_length (s : State) : ∀ l ∈ s.sampleRecords, l.length = 5 := by
  intro l hl
  obtain ⟨i, hi, rfl⟩ := List.getElem_of_mem hl
  simp [State.sampleRecords, sampleBytes, s16opt, s16, bytes16]

theorem State.samplesBytes_length (s : State) : s.samplesBytes.length = 40 := by
  have hlengths : s.sampleRecords.map List.length = List.replicate 8 5 := by
    refine List.eq_replicate_iff.mpr ⟨by simp [State.sampleRecords], fun n hn => ?_⟩
    obtain ⟨l, hl, rfl⟩ := List.mem_map.mp hn
    exact s.sampleRecords_length l hl
  exact List.length_flatten.trans (congrArg List.sum hlengths)

theorem State.samplesBytes_field (s : State) (ch : Fin 8) {j m : Nat} (h : j + m ≤ 5) :
    fieldAt s.samplesBytes (5 * ch.val + j) m = fieldAt (sampleBytes ch s.meas.samples[ch]) j m :=
  fieldAt_flatten s.sampleRecords_length (by simp [State.sampleRecords]) h

theorem State.samplesBytes_layout (s : State) : SamplesLayout s s.samplesBytes := by
  refine ⟨s.samplesBytes_length, fun ch => ?_⟩
  obtain ⟨hraw, hstate, habsent⟩ := sampleBytes_word_fields ch s.meas.samples[ch]
  have hword := s.samplesBytes_field ch (j := 0) (m := 2) (by decide)
  have hvalue := s.samplesBytes_field ch (j := 2) (m := 2) (by decide)
  have hfaults := s.samplesBytes_field ch (j := 4) (m := 1) (by decide)
  rw [Nat.add_zero] at hword
  simp only [hword, Carries, hvalue, hfaults, ← SampleState.code_eq]
  exact ⟨hraw, hstate, habsent, carries_s16 rfl rfl, carries_byte rfl⟩

end Sys2Proof.Machine
end


section
/-! PROOF. The requests that read (R13, R37, R74, R170 to R172). -/

namespace Sys2Proof.Machine

/-- A request that changes nothing and answers OK. -/
theorem State.perform_reading {s : State} {request : State → Answer} {d : List Byte} (h : s.Served) (code : Nat)
    (tag : Byte) (hr : request (s.received 0) = { state := s.received 0, status := .ok, data := d }) :
    s.perform (State.requestFrame code tag request) = (s.received 0).replied code tag .ok d :=
  State.perform_requestFrame h code tag hr rfl rfl rfl

/-! ## GET_STATUS (R170) -/

theorem State.getStatus_keep (s : State) {f : Byte} (hf : f.getLsbD 0 = false) :
    s.getStatus [f] = { state := s, status := .ok, data := s.statusBytes } := by
  simp only [State.getStatus, hf, Bool.false_eq_true, if_false]

theorem State.getStatus_clear (s : State) {f : Byte} (hf : f.getLsbD 0 = true) : s.getStatus [f] =
    { state := s.onMgmt (fun m => { m with sticky := 0 }), status := .ok, data := s.statusBytes } := by
  simp only [State.getStatus, hf, if_true]

/-! ## GET_ENTRY (R172) -/

theorem State.getEntry_of_readEntry {s : State} {t i : Byte} {d : List Byte} (ht : t.toNat ≤ 6)
    (h : s.readEntry t.toNat i.toNat = some d) : s.getEntry [t, i] = { state := s, status := .ok, data := d } := by
  simp [State.getEntry, tableKnown, ht, h]

/-- GET_ENTRY of an entry there is, its index given as a number. -/
theorem exec_getEntry {s : State} (hs : s.Served) (tag : Byte) {t : Byte} {n : Nat} {d : List Byte} (ht : t.toNat ≤ 6)
    (hn : n < 256) (h : (s.received 0).readEntry t.toNat n = some d) :
    exec (.getEntry tag [t, byte n]) s = .next ((s.received 0).replied 4 tag .ok d) := by
  refine congrArg Host.Outcome.next (State.perform_reading hs 4 tag (State.getEntry_of_readEntry ht ?_))
  rw [byte_toNat_of_lt hn, h]

section
variable (s : State)

/-- The entry's bytes; those of a reserved class are 255 and zeros (R172). -/
def classReadBytes : Option ClassEntry → List Byte
  | some e => classBytes e
  | none => [255, 0, 0, 0, 0]

theorem State.readEntry_class (c : Fin 64) : s.readEntry 0 c.val =
    some (classReadBytes (s.tables.classEntry c) ++ (u16 s.switch.passed[c] ++ u16 s.switch.dropped[c])) := by
  refine (dif_pos c.isLt).trans ?_
  rw [← List.append_assoc]
  cases s.tables.classEntry c <;> rfl

theorem State.readEntry_keymap (k : Fin 64) : s.readEntry 1 k.val = some (keyBytes s.tables.keymap[k]) := by
  simp [State.readEntry]

theorem State.readEntry_sequence (n : Fin 4) : s.readEntry 2 n.val = some (slotBytes s.tables.sequences[n]) := by
  simp [State.readEntry]

theorem State.readEntry_zone (z : ZoneId) :
    s.readEntry 3 (codeIn ZoneId.all z) = some (zoneBytes (s.tables.zones.get z)) := by
  cases z <;> rfl

theorem State.readEntry_channel (ch : Fin 7) :
    s.readEntry 4 ch.val = some (calibrationBytes s.tables.channels[ch]) := by
  have hch : ch.val < 8 := by omega
  simp [State.readEntry, Tables.calibration, hch]

theorem State.readEntry_parameter (n : Fin 53) :
    s.readEntry 5 (n.val + 1) = some (paramBytes (s.params.listed[n.val]?.getD 0)) := by
  have hn : parameterListed (n.val + 1) = true := by simp [parameterListed]
  rw [s.params.listed_getElem? n]
  exact if_pos hn

end

/-! ## GET_COUNTERS and GET_LOG (R171, R74) -/

theorem State.getCounters_group (s : State) {first : Byte} (h : first.toNat < 64) : s.getCounters [0, first] =
    { state := s, status := .ok, data := first :: s.switch.groupBytes first.toNat } := if_pos h

/-- Every counter of the three groups is zeroed (R171). -/
theorem State.zeroCounters_eq (s : State) : s.zeroCounters = { s with
    switch := { passed := Vector.replicate 64 0, dropped := Vector.replicate 64 0 }
    sys := { s.sys with errors := PortErrors.zero, fwdDiscard := 0 }
    disp := { s.disp with errors := PortErrors.zero }
    path := { s.path with dqDiscard := 0 }
    keypad := { s.keypad with lossCount := 0 }
    mgmt := { s.mgmt with overrun := 0 }
    live := { s.live with early := 0 } } := by
  simp only [State.zeroCounters, State.onSwitch, State.onSys, State.onDisp, State.onPath, State.onKeypad, State.onMgmt,
    State.onLive, Switch.cold]

theorem State.clearCounters_eq (s : State) :
    s.clearCounters [] = { state := s.zeroCounters, status := .ok, data := [] } := rfl

theorem State.getLog_of_record {s : State} {i : Byte} {r : LogRecord} (h : s.power.log[i.toNat]? = some r) :
    s.getLog [i] = { state := s, status := .ok, data := logBytes r } := by
  simp [State.getLog, h]

/-! ## The class entries (R142) -/

theorem Tables.classEntry_reserved (t : Tables) {c : Fin 64} (h : c.val < 8) : t.classEntry c = none :=
  dif_neg (by omega)

theorem Tables.classEntry_eq (t : Tables) {c : Fin 64} {i : Fin 56} (h : c.val = i.val + 8) :
    t.classEntry c = some t.classes[i] := by
  have hi : c.val - 8 = i.val := by omega
  have h8 : 8 ≤ c.val := by omega
  simp [Tables.classEntry, h8, hi]

end Sys2Proof.Machine

namespace Sys2Proof.Proofs
open Sys2Proof.Machine

/-- Settles O45: each reading request by its own rule, and each layout by its fields. -/
theorem readingRequestsAnswer : Obligations.ReadingRequestsAnswer := by
  have next {a b : State} (h : a = b) : Host.Outcome.next a = (.next b : Answered) := congrArg Host.Outcome.next h
  refine ⟨fun s tag h => ⟨fun f hf => next (State.perform_reading h 1 tag (State.getStatus_keep _ hf)),
      fun f hf => next (State.perform_requestFrame h 1 tag (State.getStatus_clear _ hf) rfl rfl rfl),
      next (State.perform_reading (request := State.getZones []) h 2 tag rfl),
      next (State.perform_reading (request := State.getSamples []) h 3 tag rfl),
      fun c =>
        ⟨_, carriesCounts_flatMap_u16 _, exec_getEntry h tag (by decide) (by omega) (State.readEntry_class _ c)⟩,
      fun k => exec_getEntry h tag (by decide) (by omega) (State.readEntry_keymap _ k),
      fun n => exec_getEntry h tag (by decide) (by omega) (State.readEntry_sequence _ n),
      fun z => exec_getEntry h tag (by decide) (by cases z <;> decide) (State.readEntry_zone _ z),
      fun ch => exec_getEntry h tag (by decide) (by omega) (State.readEntry_channel _ ch),
      exec_getEntry (n := 7) h tag (by decide) (by decide) rfl,
      fun n => exec_getEntry h tag (by decide) (by omega) (State.readEntry_parameter _ n),
      exec_getEntry (n := 0) h tag (by decide) (by decide) rfl,
      exec_getEntry (n := 1) h tag (by decide) (by decide) rfl,
      fun first hfirst => next (State.perform_reading h 6 tag (State.getCounters_group _ hfirst)),
      fun x => next (State.perform_reading (request := State.getCounters [1, x]) h 6 tag rfl),
      fun x => next (State.perform_reading (request := State.getCounters [2, x]) h 6 tag rfl),
      fun i r hr => next (State.perform_reading h 8 tag (State.getLog_of_record hr)), ?_⟩,
    fun s => ⟨s.statusBytes_layout, s.zonesBytes_layout, s.samplesBytes_layout,
      carriesCounts_flatMap_u16 [_, _, _, _, _]⟩,
    fun m f g => m.report_hasFlag f g, logBytes_layout, errorBytes_counts,
    fun w first => w.groupBytes_eq first.val ▸ carriesCounts_flatMap_u16 _,
    fun t c => ⟨t.classEntry_reserved, fun i => t.classEntry_eq⟩, classBytes_layout, keyBytes_layout, slotBytes_layout,
    zoneBytes_layout, calibrationBytes_layout, paramBytes_layout, injectBytes_layout⟩
  have hreply := State.perform_requestFrame h 7 tag (State.clearCounters_eq _) rfl rfl rfl
  rw [State.zeroCounters_eq] at hreply
  exact next hreply

end Sys2Proof.Proofs
end


section
/-! PROOF. SET_ENTRY of classes, keys, channels and injections (R1, R101, R142, R143, R160, R166). -/

namespace Sys2Proof.Machine

/-! ## "Coalesce set" in the display queue (R160) -/

theorem mergeFrom_oldest {k : Fin 64} {new oldest : QueuedFrame} {before after : List QueuedFrame}
    (hbefore : ∀ x ∈ before, x.cls ≠ k) (hold : oldest.cls = k) :
    mergeFrom k new (before ++ oldest :: after) = before ++ new :: after.filter (fun x => x.cls ≠ k) := by
  induction before with
  | nil => exact if_pos hold
  | cons x before ih =>
    obtain ⟨hx, hrest⟩ := List.forall_mem_cons.mp hbefore
    exact (if_neg hx).trans (congrArg (x :: ·) (ih hrest))

theorem getLast?_filter_class {k : Fin 64} {newest : QueuedFrame} {front rest : List QueuedFrame}
    (hnew : newest.cls = k) (hrest : ∀ x ∈ rest, x.cls ≠ k) :
    ((front ++ newest :: rest).filter (fun x => x.cls = k)).getLast? = some newest := by
  have hnil : rest.filter (fun x => decide (x.cls = k)) = [] := by simpa using hrest
  rw [List.filter_append, List.filter_cons_of_pos (by simpa using hnew), hnil, List.getLast?_append]
  rfl

theorem mergeClass_newest {k : Fin 64} {q front rest : List QueuedFrame} {newest : QueuedFrame}
    (hq : q = front ++ newest :: rest) (hnew : newest.cls = k) (hrest : ∀ x ∈ rest, x.cls ≠ k) :
    mergeClass k q = mergeFrom k { newest with coalesce := true } q := by
  have hlast : (q.filter (fun x => x.cls = k)).getLast? = some newest := hq ▸ getLast?_filter_class hnew hrest
  simp only [mergeClass, hlast]

section
variable {k : Fin 64} {before after : List QueuedFrame} {oldest : QueuedFrame}

theorem mergeClass_one (hbefore : ∀ x ∈ before, x.cls ≠ k) (hold : oldest.cls = k) (hafter : ∀ x ∈ after, x.cls ≠ k) :
    mergeClass k (before ++ oldest :: after) = before ++ { oldest with coalesce := true } :: after := by
  have hall : after.filter (fun x => decide (x.cls ≠ k)) = after := by simpa using hafter
  rw [mergeClass_newest rfl hold hafter, mergeFrom_oldest hbefore hold, hall]

theorem mergeClass_more {mid rest : List QueuedFrame} {newest : QueuedFrame} (hbefore : ∀ x ∈ before, x.cls ≠ k)
    (hold : oldest.cls = k) (hnew : newest.cls = k) (hrest : ∀ x ∈ rest, x.cls ≠ k) :
    mergeClass k (before ++ oldest :: (mid ++ newest :: rest)) =
      before ++ { newest with coalesce := true } :: mid.filter (fun x => x.cls ≠ k) ++ rest := by
  have hall : rest.filter (fun x => decide (x.cls ≠ k)) = rest := by simpa using hrest
  have hsplit : before ++ oldest :: (mid ++ newest :: rest) = (before ++ oldest :: mid) ++ newest :: rest := by simp
  rw [mergeClass_newest hsplit hnew hrest, mergeFrom_oldest hbefore hold, List.filter_append,
    List.filter_cons_of_neg (by simpa using hnew), hall]
  simp

end

/-- "Coalesce set" by where the class's frames stand in the queue (R160). -/
theorem DisplayPath.coalesceSet_queue (p : DisplayPath) {k : Fin 64} {before after : List QueuedFrame}
    {oldest : QueuedFrame} (hq : p.queue = before ++ oldest :: after) (hold : oldest.cls = k)
    (hbefore : ∀ x ∈ before, x.cls ≠ k) :
    ((∀ x ∈ after, x.cls ≠ k) → (p.coalesceSet k).queue = before ++ { oldest with coalesce := true } :: after) ∧
      ∀ mid newest rest, after = mid ++ newest :: rest → newest.cls = k → (∀ x ∈ rest, x.cls ≠ k) →
        (p.coalesceSet k).queue =
          before ++ { newest with coalesce := true } :: mid.filter (fun x => x.cls ≠ k) ++ rest := by
  refine ⟨fun hafter => ?_, fun mid newest rest hmid hnew hrest => ?_⟩
  · exact (congrArg (mergeClass k) hq).trans (mergeClass_one hbefore hold hafter)
  · rw [hmid] at hq
    exact (congrArg (mergeClass k) hq).trans (mergeClass_more hbefore hold hnew hrest)

/-! ## Codes read back (section 12.5) -/

theorem Direction.ofCode_byte (d : Direction) : Direction.ofCode (byte d.code).toNat = some d := by cases d <;> rfl

theorem ClassAction.ofCode_byte (a : ClassAction) : ClassAction.ofCode (byte a.code).toNat = some a := by
  cases a <;> rfl

theorem KeyKind.ofCode_byte (k : KeyKind) : KeyKind.ofCode (byte k.code).toNat = some k := by cases k <;> rfl

theorem SlotAction.ofCode_byte (a : SlotAction) : SlotAction.ofCode (byte a.code).toNat = some a := by cases a <;> rfl

/-! ## Flags read back (R181) -/

section
variable (b0 b1 b2 b3 : Bool) (bits : List Bool)

theorem flagByte_bit0 : (flagByte (b0 :: bits)).getLsbD 0 = b0 := flagByte_getLsbD _ (by decide)

theorem flagByte_bit1 : (flagByte (b0 :: b1 :: bits)).getLsbD 1 = b1 := flagByte_getLsbD _ (by decide)

theorem flagByte_bit2 : (flagByte (b0 :: b1 :: b2 :: bits)).getLsbD 2 = b2 := flagByte_getLsbD _ (by decide)

theorem flagByte_bit3 : (flagByte (b0 :: b1 :: b2 :: b3 :: bits)).getLsbD 3 = b3 := flagByte_getLsbD _ (by decide)

end

/-! ## Table CLASS (R142, R143) -/

/-- An entry is stored as written exactly when its lengths are in order and at most 48. -/
theorem ClassEntry.corrected_eq_self_iff (e : ClassEntry) :
    e.corrected = e ↔ e.minLength ≤ e.maxLength ∧ e.maxLength ≤ 48 := by
  have hfields : e.corrected = e ↔
      min e.minLength 48 = e.minLength ∧ max (min e.maxLength 48) (min e.minLength 48) = e.maxLength := by
    cases e
    simp [ClassEntry.corrected]
  rw [hfields]
  omega

theorem Tables.setClass_eq (t : Tables) (c : Fin 56) (e : ClassEntry) :
    t.setClass (c.val + 8) e = { t with classes := t.classes.set c.val e } := by
  have hc : 8 ≤ c.val + 8 ∧ c.val + 8 < 64 := by omega
  simp [Tables.setClass, hc]

/-- What a written class entry leaves of the display path: a coalesce flag newly set merges the class's frames
(R160). -/
def DisplayPath.classWritten (k : Fin 64) (old new : ClassEntry) (p : DisplayPath) : DisplayPath :=
  if new.coalesce && !old.coalesce then p.coalesceSet k else p

theorem DisplayPath.classWritten_queue (k : Fin 64) (old new : ClassEntry) (p : DisplayPath) :
    p.classWritten k old new = { p with queue := (p.classWritten k old new).queue } := by
  unfold DisplayPath.classWritten
  split <;> rfl

theorem State.setClass_entry (s : State) (c : Fin 56) {k : Fin 64} (hk : k.val = c.val + 8) {e : ClassEntry}
    (hmin : e.minLength < 256) (hmax : e.maxLength < 256) : s.setClass (byte (c.val + 8) :: classBytes e) =
      { state := { s with
          tables := { s.tables with classes := s.tables.classes.set c.val e.corrected }
          path := { s.path with queue := (s.path.classWritten k s.tables.classes[c] e).queue } }
        status := if e.minLength ≤ e.maxLength ∧ e.maxLength ≤ 48 then .ok else .clamped
        data := classBytes e.corrected } := by
  have hi : (byte (c.val + 8)).toNat = c.val + 8 := byte_toNat_of_lt (by omega)
  have hlt : (byte (c.val + 8)).toNat < 64 := by omega
  have hfin : (⟨(byte (c.val + 8)).toNat, hlt⟩ : Fin 64) = k := Fin.ext (hi.trans hk.symm)
  rw [← DisplayPath.classWritten_queue]
  simp only [State.setClass, classBytes, dif_pos hlt, hfin, s.tables.classEntry_eq hk, Direction.ofCode_byte,
    ClassAction.ofCode_byte, flagByte_bit0, flagByte_bit1, flagByte_bit2, flagByte_bit3,
    byte_toNat_of_lt hmin, byte_toNat_of_lt hmax]
  simp only [ClassEntry.corrected_eq_self_iff, hi, State.onTables, Tables.setClass_eq, State.onPath,
    DisplayPath.classWritten]
  split <;> rfl

/-- The coalesce flag stays, or stays off: the queue stays (R160). -/
theorem DisplayPath.classWritten_keep {k : Fin 64} {old new : ClassEntry} (p : DisplayPath)
    (h : new.coalesce = false ∨ old.coalesce = true) : p.classWritten k old new = p := by
  rcases h with h | h <;> simp [DisplayPath.classWritten, h]

theorem DisplayPath.classWritten_set {k : Fin 64} {old new : ClassEntry} (p : DisplayPath) (hnew : new.coalesce = true)
    (hold : old.coalesce = false) : p.classWritten k old new = p.coalesceSet k := by
  simp [DisplayPath.classWritten, hnew, hold]

/-! ## Tables KEYMAP and CHANNEL (R101, R1) -/

theorem State.setKeymap_entry (s : State) (k : Fin 64) (e : KeyEntry) : s.setKeymap (byte k.val :: keyBytes e) =
    { state := { s with tables := { s.tables with keymap := s.tables.keymap.set k.val e } }
      status := .ok
      data := keyBytes e } := by
  have hi : (byte k.val).toNat = k.val := byte_toNat_of_lt (by omega)
  simp only [State.setKeymap, keyBytes, hi, dif_pos k.isLt, KeyKind.ofCode_byte, flagByte_bit0, flagByte_bit1,
    State.onTables]

theorem State.setChannel_entry (s : State) (c : Fin 7) {x : Calibration} (hs : -32768 ≤ x.slope) (hs' : x.slope < 32768)
    (ho : -32768 ≤ x.offset) (ho' : x.offset < 32768) : s.setChannel (byte c.val :: calibrationBytes x) =
      { state := { s with tables := { s.tables with channels := s.tables.channels.set c.val x.corrected } }
        status := if x = x.corrected then .ok else .clamped
        data := calibrationBytes x.corrected } := by
  have hi : (byte c.val).toNat = c.val := byte_toNat_of_lt (by omega)
  have hslope := readS16_s16 hs hs' rfl
  have hoffset := readS16_s16 ho ho' rfl
  show s.setChannel [_, _, _, _, _] = _
  simp only [State.setChannel, hi, dif_pos c.isLt, hslope, hoffset, State.onTables, eq_comm (a := x)]

/-! ## Table INJECT (R166) -/

section
variable (s : State) (f c n : Byte) {payload : List Byte}

/-- The entry that an injection's bytes store. -/
def injectEntry (f c : Byte) (payload : List Byte) : InjectEntry :=
  { enable := f.getLsbD 0, cls := injectClass c, payload := payload }

/-- The status of an injection's write: whether its class byte is one of 8 to 63. -/
def injectStatus (c : Byte) : Status := if (injectClass c).val = c.toNat then .ok else .clamped

theorem State.setInject_dim (h : payload.length = n.toNat) (hn : n.toNat ≤ 16) :
    s.setInject (0 :: f :: c :: n :: payload) =
      { state := { s with tables := { s.tables with dim := injectEntry f c payload } }
        status := injectStatus c
        data := injectBytes (injectEntry f c payload) } :=
  if_neg (by omega)

theorem State.setInject_wake (h : payload.length = n.toNat) (hn : n.toNat ≤ 16) :
    s.setInject (1 :: f :: c :: n :: payload) =
      { state := { s with tables := { s.tables with wake := injectEntry f c payload } }
        status := injectStatus c
        data := injectBytes (injectEntry f c payload) } :=
  if_neg (by omega)

end

theorem injectClass_val (c : Byte) : (injectClass c).val = max 8 (min 63 c.toNat) := classAtLimit_val c.toNat

theorem injectClass_above {c : Byte} (h : 63 < c.toNat) : injectClass c = 63 :=
  Fin.ext ((injectClass_val c).trans (by simp; omega))

/-- A class byte above 63 is stored as 63 (R166). -/
theorem injectEntry_above (f : Byte) {c : Byte} (h : 63 < c.toNat) (payload : List Byte) :
    injectEntry f c payload = { enable := f.getLsbD 0, cls := 63, payload := payload } := by
  rw [injectEntry, injectClass_above h]

theorem injectStatus_above {c : Byte} (h : 63 < c.toNat) : injectStatus c = .clamped := by
  refine if_neg ?_
  rw [injectClass_val]
  omega

/-- An entry's own bytes give it back, its class at least 8 (R166). -/
theorem injectEntry_bytes (e : InjectEntry) : injectEntry (flagByte [e.enable]) (byte e.cls.val) e.payload =
    { e with cls := if e.cls.val < 8 then 8 else e.cls } := by
  have hc : (byte e.cls.val).toNat = e.cls.val := byte_toNat_of_lt (by omega)
  have hcls : injectClass (byte e.cls.val) = if e.cls.val < 8 then 8 else e.cls := by
    refine Fin.ext ((injectClass_val _).trans ?_)
    split <;> simp [hc] <;> omega
  simp only [injectEntry, flagByte_bit0, hcls]

theorem injectStatus_class (c : Fin 64) : injectStatus (byte c.val) = if 8 ≤ c.val then .ok else .clamped := by
  have hc : (byte c.val).toNat = c.val := byte_toNat_of_lt (by omega)
  refine if_congr ?_ rfl rfl
  rw [injectClass_val, hc]
  omega

end Sys2Proof.Machine
end


section
/-! PROOF. SET_ENTRY of sequence slots and zone records, and the bits of a flag byte that are not named (R18, R115,
R181). -/

namespace Sys2Proof.Machine

/-! ## Bits that are not named (R181) -/

theorem masked_bit {f m : Byte} {j : Nat} (h : m.getLsbD j = true) : (f &&& m).getLsbD j = f.getLsbD j := by
  rw [BitVec.getLsbD_and, h, Bool.and_true]

/-- A mask of nine bits takes only bit 0 of its second byte. -/
theorem mask9_masked (b f : Byte) : BitVec.ofNat 9 (readU16 b f) = BitVec.ofNat 9 (readU16 b (f &&& 1)) := by
  have hbit : (f &&& 1).toNat = f.toNat % 2 := by rw [BitVec.toNat_and]; exact Nat.and_one_is_mod _
  refine BitVec.eq_of_toNat_eq ?_
  simp only [BitVec.toNat_ofNat, readU16, hbit]
  omega

theorem State.setClass_masked (i a b f c d : Byte) :
    State.setClass [i, a, b, f, c, d] = State.setClass [i, a, b, f &&& 15, c, d] := by
  have hbits (j : Nat) (h : (15 : Byte).getLsbD j = true) := masked_bit (f := f) h
  funext s
  simp only [State.setClass, hbits 0 rfl, hbits 1 rfl, hbits 2 rfl, hbits 3 rfl]

theorem State.setKeymap_masked (i a b f : Byte) :
    State.setKeymap [i, a, b, f] = State.setKeymap [i, a, b, f &&& 3] := by
  have hbits (j : Nat) (h : (3 : Byte).getLsbD j = true) := masked_bit (f := f) h
  funext s
  simp only [State.setKeymap, hbits 0 rfl, hbits 1 rfl]

theorem State.setInject_masked (i f : Byte) (rest : List Byte) :
    State.setInject (i :: f :: rest) = State.setInject (i :: (f &&& 1) :: rest) := by
  have hbit : (f &&& 1).getLsbD 0 = f.getLsbD 0 := masked_bit rfl
  funext s
  rcases rest with - | ⟨c, - | ⟨n, payload⟩⟩
  · rfl
  · rfl
  · simp only [State.setInject, hbit]

theorem State.setSequence_masked (i a b f : Byte) (rest : List Byte) :
    State.setSequence (i :: a :: b :: f :: rest) = State.setSequence (i :: a :: b :: (f &&& 1) :: rest) := by
  funext s
  rcases rest with - | ⟨h, - | ⟨n, steps⟩⟩
  · rfl
  · rfl
  · simp only [State.setSequence, ← mask9_masked]

theorem State.setZone_badLength (s : State) {args : List Byte} (h : args.length ≠ 18) :
    s.setZone args = s.turnDown .badLength := by
  unfold State.setZone
  split
  · exact absurd rfl h
  · rfl

theorem State.setZone_masked (i a b f : Byte) (rest : List Byte) :
    State.setZone (i :: a :: b :: f :: rest) = State.setZone (i :: a :: b :: (f &&& 3) :: rest) := by
  have hbits (j : Nat) (h : (3 : Byte).getLsbD j = true) := masked_bit (f := f) h
  funext s
  by_cases hlen : rest.length = 14
  · match rest, hlen with
    | [_, _, _, _, _, _, _, _, _, _, _, _, _, _], _ => simp only [State.setZone, hbits 0 rfl, hbits 1 rfl]
  · rw [State.setZone_badLength s (by simpa using hlen), State.setZone_badLength s (by simpa using hlen)]

/-! ## Table SEQUENCE (R115) -/

theorem mapM_stepKey (steps : List (Fin 64)) : (steps.map (fun k => byte k.val)).mapM stepKey = some steps := by
  have hstep (k : Fin 64) : stepKey (byte k.val) = some k := by
    have hk : (byte k.val).toNat = k.val := byte_toNat_of_lt (by omega)
    have hlt : (byte k.val).toNat < 64 := by omega
    exact (dif_pos hlt).trans (congrArg some (Fin.ext hk))
  induction steps with
  | nil => rfl
  | cons k steps ih => simp [hstep, ih]

theorem mask9_bytes (m : BitVec 9) {lo hi : Byte} (hb : u16 m.toNat = [lo, hi]) :
    BitVec.ofNat 9 (readU16 lo hi) = m := by
  rw [readU16_u16 (by omega) hb, BitVec.ofNat_toNat, BitVec.setWidth_eq]

theorem SeqSlot.corrected_eq_self_iff (e : SeqSlot) : e.corrected = e ↔ e.hold ≤ 100 := by
  have hfields : e.corrected = e ↔ min e.hold 100 = e.hold := by
    cases e
    simp [SeqSlot.corrected]
  rw [hfields]
  omega

theorem State.setSequence_entry (s : State) (n : Fin 4) {e : SeqSlot} (hhold : e.hold < 256)
    (hlen : e.steps.length ≤ 10) :
    s.setSequence (byte n.val :: slotBytes e) =
      { state := { s with
          tables := { s.tables with sequences := s.tables.sequences.set n.val e.corrected }
          matcher := { s.matcher with slots := s.matcher.slots.set n.val SlotProgress.clear } }
        status := if e.hold ≤ 100 then .ok else .clamped
        data := slotBytes e.corrected } := by
  have hi : (byte n.val).toNat = n.val := byte_toNat_of_lt (by omega)
  have hn : (byte e.steps.length).toNat = e.steps.length := byte_toNat_of_lt (by omega)
  have hsize : ¬((e.steps.map (fun k => byte k.val)).length ≠ (byte e.steps.length).toNat ∨
      10 < (byte e.steps.length).toNat) := by
    rw [List.length_map, hn]
    omega
  have hmask := mask9_bytes e.mask rfl
  show s.setSequence (_ :: _ :: _ :: _ :: _ :: _ :: e.steps.map _) = _
  simp only [State.setSequence, if_neg hsize, hi, dif_pos n.isLt, SlotAction.ofCode_byte, mapM_stepKey, hmask,
    byte_toNat_of_lt hhold, SeqSlot.corrected_eq_self_iff, State.onTables, State.onMatcher, Matcher.slotWritten]

/-! ## Table ZONE (R18) -/

/-- A zone's index as a byte. -/
theorem ZoneId.ofIndex_byte (z : ZoneId) :
    ZoneId.ofIndex (byte (match z with | .board => 0 | .display => 1 | .front => 2)).toNat = some z := by
  cases z <;> rfl

theorem firstChannel_byte (c : Fin 6) : firstChannel (byte c.val) = some c := by
  have hc : (byte c.val).toNat = c.val := byte_toNat_of_lt (by omega)
  have hlt : (byte c.val).toNat < 6 := by omega
  exact (dif_pos hlt).trans (congrArg some (Fin.ext hc))

theorem secondChannel_byte (c : Option (Fin 6)) : secondChannel (byte ((c.map Fin.val).getD 255)) = some c := by
  cases c with
  | none => rfl
  | some c =>
    have hc : (byte c.val).toNat = c.val := byte_toNat_of_lt (by omega)
    have hne : (byte c.val).toNat ≠ 255 := by omega
    exact (if_neg hne).trans (congrArg (Option.map some) (firstChannel_byte c))

/-- The numbers of a zone record fit their fields (section 12.5). -/
structure ZoneRecord.Fits (r : ZoneRecord) : Prop where
  tstart : -32768 ≤ r.tstart ∧ r.tstart < 32768
  hyst : r.hyst ≤ 255
  soakTarget : r.soakTarget ≤ 65535
  thold : -32768 ≤ r.thold ∧ r.thold < 32768
  band : r.band ≤ 255
  tcut : -32768 ≤ r.tcut ∧ r.tcut < 32768
  tminAbs : -32768 ≤ r.tminAbs ∧ r.tminAbs < 32768
  watts : r.watts ≤ 255
  priority : r.priority ≤ 255

theorem State.setZone_entry (s : State) {i : Byte} {z : ZoneId} (hi : ZoneId.ofIndex i.toNat = some z)
    {r r1 : ZoneRecord} (h : r.Fits) (hr1 : r.corrected = r1) : s.setZone (i :: zoneBytes r) =
      { state := s.storeZone z r1
        status := if r = r1 then .ok else .clamped
        data := zoneBytes r1 } := by
  have htstart := readS16_s16 h.tstart.1 h.tstart.2 rfl
  have hthold := readS16_s16 h.thold.1 h.thold.2 rfl
  have htcut := readS16_s16 h.tcut.1 h.tcut.2 rfl
  have htmin := readS16_s16 h.tminAbs.1 h.tminAbs.2 rfl
  have hsoak := readU16_u16 (Nat.lt_succ_of_le h.soakTarget) rfl
  have hbyte {n : Nat} (hn : n ≤ 255) : (byte n).toNat = n := byte_toNat_of_lt (Nat.lt_succ_of_le hn)
  show s.setZone [_, _, _, _, _, _, _, _, _, _, _, _, _, _, _, _, _, _] = _
  simp only [State.setZone, hi, firstChannel_byte, secondChannel_byte, flagByte_bit0, flagByte_bit1, htstart, hthold,
    htcut, htmin, hsoak, hbyte h.hyst, hbyte h.band, hbyte h.watts, hbyte h.priority, hr1, eq_comm (a := r)]

/-- A record that fits its fields is limited only where a field is wider than its range (R18). -/
theorem ZoneRecord.corrected_of_fits {r : ZoneRecord} (h : r.Fits) : r.corrected =
    { r with
      tstart := max (-240) (min 600 r.tstart), thold := max (-240) (min 600 r.thold), band := max 1 r.band
      tcut := max (-240) (min 600 r.tcut), tminAbs := max (-240) (min 600 r.tminAbs), watts := max 1 r.watts
      priority := min 2 r.priority } := by
  rw [ZoneRecord.corrected_eq_limited]
  simp only [ZoneRecord.limited, Nat.min_eq_right h.hyst, Nat.min_eq_right h.soakTarget, Nat.min_eq_right h.band,
    Nat.min_eq_right h.watts]

/-- A stored zone record touches one accumulator only, and only if the channels changed (R18). -/
theorem State.storeZone_heat (s : State) (z o : ZoneId) (r : ZoneRecord) : (s.storeZone z r).heat.zones.get o =
    { s.heat.zones.get o with
      soak := if o = z ∧ ((s.tables.zones.get z).first ≠ r.first ∨ (s.tables.zones.get z).second ≠ r.second)
              then 0 else (s.heat.zones.get o).soak } := by
  show (s.heat.zones.set z _).get o = _
  rw [PerZone.get_set]
  by_cases ho : o = z
  · subst ho
    simp [ZoneState.onRecord_eq]
  · simp [ho]

/-! ## A served write (R169, R172) -/

/-- SET_ENTRY of one table: its frame, taken unless a commit is in progress. -/
def execEntry (s : State) (tag : Byte) (request : State → Answer) : Answered :=
  .next (s.perform (State.requestFrame 5 tag (State.unlessCommitting request)))

theorem execEntry_of_served {s u : State} {request : State → Answer} {st : Status} {d : List Byte} (h : s.ServedFree)
    (tag : Byte) (hr : request (s.received 0) = { state := u, status := st, data := d })
    (hlive : u.sys.isLive = s.sys.isLive) (hended : u.mgmt.replyEnded = s.mgmt.replyEnded)
    (hjust : u.mgmt.justReported = s.mgmt.justReported) :
    execEntry s tag request = .next (u.replied 5 tag st d) :=
  congrArg Host.Outcome.next (State.perform_requestFrame_free h 5 tag hr hlive hended hjust)

/-- A write of either injection whose payload has the length it names (R166, R182). -/
theorem execEntry_inject {s : State} (h : s.ServedFree) (tag : Byte) {f c n : Byte} {payload : List Byte}
    (hlen : payload.length = n.toNat) (hn : n.toNat ≤ 16) {e : InjectEntry} {st : Status}
    (he : injectEntry f c payload = e) (hst : injectStatus c = st) :
    execEntry s tag (State.setInject (0 :: f :: c :: n :: payload)) =
        .next { (s.received 0).replied 5 tag st (injectBytes e) with tables := { s.tables with dim := e } } ∧
      execEntry s tag (State.setInject (1 :: f :: c :: n :: payload)) =
        .next { (s.received 0).replied 5 tag st (injectBytes e) with tables := { s.tables with wake := e } } := by
  subst he hst
  exact ⟨execEntry_of_served h tag (State.setInject_dim _ f c n hlen hn) rfl rfl rfl,
    execEntry_of_served h tag (State.setInject_wake _ f c n hlen hn) rfl rfl rfl⟩

end Sys2Proof.Machine

namespace Sys2Proof.Proofs
open Sys2Proof.Machine

/-- Settles O46: each table's write by its request, the bits that are not named by the requests being equal. -/
theorem setEntryStoresTheEntry : Obligations.SetEntryStoresTheEntry := by
  refine ⟨fun s tag h => ⟨fun c e hmin hmax => ?_,
      fun k e => execEntry_of_served h tag (State.setKeymap_entry _ k e) rfl rfl rfl,
      fun c x hs hs' ho ho' => execEntry_of_served h tag (State.setChannel_entry _ c hs hs' ho ho') rfl rfl rfl,
      fun e he => ?_,
      fun f c n payload hc hlen hn =>
        execEntry_inject h tag hlen hn (injectEntry_above f hc payload) (injectStatus_above hc),
      fun i a b f c d => ⟨congrArg (execEntry s tag) (State.setClass_masked i a b f c d),
        congrArg (execEntry s tag) (State.setKeymap_masked i a b f),
        fun rest => ⟨congrArg (execEntry s tag) (State.setInject_masked i f rest),
          congrArg (execEntry s tag) (State.setSequence_masked i a b f rest),
          congrArg (execEntry s tag) (State.setZone_masked i a b f rest)⟩⟩⟩,
    fun s tag n e h hhold hlen => execEntry_of_served h tag (State.setSequence_entry _ n hhold hlen) rfl rfl rfl,
    fun s tag z r h hp ht ht' hhyst hsoak hth hth' hband htc htc' htm htm' hwatts hprio => ?_⟩
  · refine ⟨_, execEntry_of_served h tag
        (State.setClass_entry _ c (k := ⟨c.val + 8, by omega⟩) rfl hmin hmax) rfl rfl rfl, rfl,
      fun hkeep => (congrArg DisplayPath.queue (s.path.classWritten_keep hkeep) :), fun hnew hold k hk => ?_⟩
    have hset : s.path.classWritten ⟨c.val + 8, by omega⟩ s.tables.classes[c] e = s.path.coalesceSet k :=
      (s.path.classWritten_set hnew hold).trans (congrArg s.path.coalesceSet (Fin.ext hk.symm))
    have hpath := (s.path.classWritten_queue _ _ _).symm.trans hset
    refine ⟨hpath, fun before oldest after hq hold hbefore => ?_⟩
    exact congrArg DisplayPath.queue hset ▸ s.path.coalesceSet_queue hq hold hbefore
  · have hlen : (byte e.payload.length).toNat = e.payload.length := byte_toNat_of_lt (by omega)
    exact execEntry_inject h tag hlen.symm (hlen.trans_le he) (injectEntry_bytes e) (injectStatus_class e.cls)
  · have hfits : r.Fits := ⟨⟨ht, ht'⟩, hhyst, hsoak, ⟨hth, hth'⟩, hband, ⟨htc, htc'⟩, ⟨htm, htm'⟩, hwatts, hprio⟩
    have hr1 := ZoneRecord.corrected_of_fits hfits
    have hpermuted := swapPriorities_permuted hp z r.corrected_priority_lt
    rw [hr1] at hpermuted
    refine ⟨_, execEntry_of_served h tag (State.setZone_entry _ z.ofIndex_byte hfits hr1) rfl rfl rfl, rfl, ?_, hpermuted,
      fun o ho => ?_, fun o => s.storeZone_heat z o _⟩
    · exact (swapPriorities_get z z _ s.tables.zones).trans (if_pos rfl)
    · exact (swapPriorities_get z o _ s.tables.zones).trans (if_neg ho)

end Sys2Proof.Proofs
end


section
/-! PROOF. The allocation: the order of service, what each zone is served and what is left, and the outputs that the
grants are handed to (R27 to R29, R31, R32, R34). -/

namespace Sys2Proof.Machine

/-! ## The zones -/

@[simp] theorem PerZone.get_zip {α β γ : Type} (f : α → β → γ) (p : PerZone α) (q : PerZone β) (z : ZoneId) :
    (PerZone.zip f p q).get z = f (p.get z) (q.get z) := by
  cases z <;> rfl

/-- A record of the three zones is given by its values. -/
theorem PerZone.ext_get {α : Type} {p q : PerZone α} (h : ∀ z, p.get z = q.get z) : p = q := by
  obtain ⟨b, d, f⟩ := p
  obtain ⟨b', d', f'⟩ := q
  have hb : b = b' := h .board
  have hd : d = d' := h .display
  have hf : f = f' := h .front
  rw [hb, hd, hf]

theorem ZoneId.mem_all (z : ZoneId) : z ∈ ZoneId.all := by cases z <;> decide

theorem ZoneId.all_nodup : ZoneId.all.Nodup := by decide

theorem ZoneId.sum_all (f : ZoneId → Nat) : (ZoneId.all.map f).sum = f .board + f .display + f .front := by
  simp [ZoneId.all, Nat.add_assoc]

/-! ## The order of service (R28) -/

/-- A zone's priority in force (R17, R28). -/
def Heat.rank (h : Heat) (z : ZoneId) : Nat := (h.zones.get z).inForce.priority

/-- A zone's heater power in force, in watts (R17, R28). -/
def Heat.watts (h : Heat) (z : ZoneId) : Nat := (h.zones.get z).inForce.watts

theorem Heat.mem_order (h : Heat) (z : ZoneId) : z ∈ h.order ↔ h.rank z < 3 := by
  simp only [Heat.order, List.mem_flatMap, List.mem_filter, ZoneId.mem_all, true_and, decide_eq_true_eq, Heat.rank]
  simp
  omega

theorem Heat.order_pairwise (h : Heat) : h.order.Pairwise (fun a b => a ≠ b ∧ h.rank a ≤ h.rank b) := by
  refine List.pairwise_flatMap.mpr ⟨fun n _ => ?_, ?_⟩
  · refine List.Pairwise.imp_of_mem (fun {a b} ha hb hab => ⟨hab, ?_⟩) (ZoneId.all_nodup.filter _)
    have ha := of_decide_eq_true (List.mem_filter.mp ha).2
    have hb := of_decide_eq_true (List.mem_filter.mp hb).2
    exact (ha.trans hb.symm).le
  · have hlt : [0, 1, 2].Pairwise (fun m n : Nat => m < n) := by decide
    refine hlt.imp (fun {m n} hmn a ha b hb => ?_)
    have ha : h.rank a = m := of_decide_eq_true (List.mem_filter.mp ha).2
    have hb : h.rank b = n := of_decide_eq_true (List.mem_filter.mp hb).2
    exact ⟨fun hab => by subst hab; omega, by omega⟩

theorem Heat.order_nodup (h : Heat) : h.order.Nodup := h.order_pairwise.imp And.left

/-- With the priorities a permutation every zone is served once, in strictly ascending priority. -/
theorem Heat.order_of_permuted {h : Heat} (hp : PrioritiesPermuted (h.zones.map ZoneState.inForce)) :
    h.order.Perm ZoneId.all ∧ h.order.Pairwise (fun a b => h.rank a < h.rank b) := by
  obtain ⟨hlt, hinj⟩ := (prioritiesPermuted_iff _).mp hp
  simp only [PerZone.get_map] at hlt hinj
  refine ⟨(List.perm_ext_iff_of_nodup h.order_nodup ZoneId.all_nodup).mpr fun z => ?_, ?_⟩
  · exact iff_of_true ((h.mem_order z).mpr (hlt z)) z.mem_all
  · exact h.order_pairwise.imp fun {a b} hab => lt_of_le_of_ne hab.2 (mt (hinj a b) hab.1)

/-! ## Service (R28) -/

theorem Heat.serve_get (h : Heat) (acc : Nat × PerZone Nat) (z o : ZoneId) :
    (h.serve acc z).2.get o = if o = z then min (h.zones.get z).request (acc.1 / h.watts z) else acc.2.get o :=
  PerZone.get_set ..

theorem Heat.serve_left (h : Heat) (acc : Nat × PerZone Nat) (z : ZoneId) :
    (h.serve acc z).1 = acc.1 - (h.serve acc z).2.get z * h.watts z := by
  rw [h.serve_get, if_pos rfl]
  rfl

theorem Heat.foldl_serve_get_of_not_mem (h : Heat) {l : List ZoneId} {z : ZoneId} (hz : z ∉ l)
    (acc : Nat × PerZone Nat) : (l.foldl h.serve acc).2.get z = acc.2.get z := by
  induction l generalizing acc with
  | nil => rfl
  | cons a l ih =>
    obtain ⟨hza, hzl⟩ := not_or.mp (mt List.mem_cons.mpr hz)
    exact (ih hzl _).trans ((h.serve_get acc a z).trans (if_neg hza))

/-- Zones that have no grant yet take what they are granted, and nothing more, from the available amount. -/
theorem Heat.foldl_serve_spends (h : Heat) {l : List ZoneId} (hl : l.Nodup) {acc : Nat × PerZone Nat}
    (h0 : ∀ z ∈ l, acc.2.get z = 0) :
    let r := l.foldl h.serve acc
    r.1 + (ZoneId.all.map (fun o => r.2.get o * h.watts o)).sum =
      acc.1 + (ZoneId.all.map (fun o => acc.2.get o * h.watts o)).sum := by
  induction l generalizing acc with
  | nil => rfl
  | cons a l ih =>
    obtain ⟨hal, hl⟩ := List.nodup_cons.mp hl
    have hserved : ∀ z ∈ l, (h.serve acc a).2.get z = 0 := fun z hz => by
      rw [h.serve_get, if_neg (fun hza : z = a => hal (hza ▸ hz))]
      exact h0 z (List.mem_cons_of_mem a hz)
    refine (ih hl hserved).trans ?_
    have hspent := h.serve_spends acc a
    have ha := h0 a List.mem_cons_self
    simp only [ZoneId.sum_all, h.serve_get]
    cases a <;> simp [ha, Heat.watts] at hspent ⊢ <;> omega

/-- Zones in strictly ascending priority: each has the smaller of its request and the whole eighths that the zones
before it leave. -/
theorem Heat.foldl_serve_share (h : Heat) {l : List ZoneId} (hl : l.Pairwise (fun a b => h.rank a < h.rank b))
    (acc : Nat × PerZone Nat) :
    let r := l.foldl h.serve acc
    ∀ z ∈ l, r.2.get z = min (h.zones.get z).request
      ((acc.1 - ((l.filter (fun o => decide (h.rank o < h.rank z))).map (fun o => r.2.get o * h.watts o)).sum)
        / h.watts z) := by
  induction l generalizing acc with
  | nil => simp
  | cons a l ih =>
    obtain ⟨hlow, hl⟩ := List.pairwise_cons.mp hl
    have ha : (l.foldl h.serve (h.serve acc a)).2.get a = (h.serve acc a).2.get a :=
      h.foldl_serve_get_of_not_mem (fun hmem => lt_irrefl _ (hlow a hmem)) _
    intro r z hz
    obtain rfl | hzl := List.mem_cons.mp hz
    · have hnone : (z :: l).filter (fun o => decide (h.rank o < h.rank z)) = [] := by
        refine List.filter_eq_nil_iff.mpr fun o ho => ?_
        obtain rfl | ho := List.mem_cons.mp ho
        · simp
        · simpa using (hlow o ho).le
      rw [hnone]
      exact ha.trans ((h.serve_get acc z z).trans (if_pos rfl))
    · rw [List.filter_cons_of_pos (by simpa using hlow z hzl), List.map_cons, List.sum_cons, ← Nat.sub_sub,
        show r.2.get a = _ from ha, ← h.serve_left]
      exact ih hl _ z hzl

/-- The grants of a sharing and what it leaves make up the available amount (R28). -/
theorem Heat.share_spends (h : Heat) (a8 : Nat) :
    (h.share a8).1 + (ZoneId.all.map (fun o => (h.share a8).2.get o * h.watts o)).sum = a8 := by
  have hspent := h.foldl_serve_spends h.order_nodup (acc := (a8, ⟨0, 0, 0⟩)) (fun z _ => by cases z <;> rfl)
  exact hspent.trans (by simp [ZoneId.sum_all, PerZone.get])

/-- No share is above its request (R28). -/
theorem Heat.share_le_request (h : Heat) (a8 : Nat) (z : ZoneId) : (h.share a8).2.get z ≤ (h.zones.get z).request := by
  have hfold (l : List ZoneId) (acc : Nat × PerZone Nat) (hacc : acc.2.get z ≤ (h.zones.get z).request) :
      (l.foldl h.serve acc).2.get z ≤ (h.zones.get z).request := by
    induction l generalizing acc with
    | nil => exact hacc
    | cons a l ih =>
      refine ih _ ?_
      rw [h.serve_get]
      split
      next hza => exact hza ▸ Nat.min_le_left _ _
      next => exact hacc
  exact hfold _ _ (by cases z <;> exact Nat.zero_le _)

/-- The sharing among zones whose priorities are a permutation (R28). -/
theorem Heat.share_of_permuted {h : Heat} (hp : PrioritiesPermuted (h.zones.map ZoneState.inForce)) (a8 : Nat)
    (z : ZoneId) : (h.share a8).2.get z = min (h.zones.get z).request
      ((a8 - ((ZoneId.all.filter (fun o => decide (h.rank o < h.rank z))).map
        (fun o => (h.share a8).2.get o * h.watts o)).sum) / h.watts z) := by
  obtain ⟨hperm, hlow⟩ := Heat.order_of_permuted hp
  rw [← ((hperm.filter _).map _).sum_eq]
  exact h.foldl_serve_share hlow _ z (hperm.mem_iff.mpr z.mem_all)

/-! ## Grants (R29, R32) -/

/-- The amount that an allocation shares, in eighth-watts (R27, R28). -/
def Heat.available (p : Params) (h : Heat) : Nat := 8 * ((h.allocate p).budget - (h.allocate p).reserve)

/-- A zone's grant is forced to 0 (R29). -/
def Heat.forced (h : Heat) (z : ZoneId) : Bool := h.allZero || (h.zones.get z).cutOff

theorem Heat.allocate_a8 (p : Params) (h : Heat) : (h.allocate p).a8 = (h.share (h.available p)).1 := rfl

/-- An allocation hands each zone its share, or 0 where the grant is forced (R28, R29, R32). -/
theorem Heat.allocate_zone (p : Params) (h : Heat) (z : ZoneId) :
    (h.allocate p).zones.get z =
      (h.zones.get z).handOver h.slot (if h.forced z then 0 else (h.share (h.available p)).2.get z) :=
  PerZone.get_zip ..

@[simp] theorem ZoneState.handOver_grant (slot : Fin 8) (g : Nat) (z : ZoneState) : (z.handOver slot g).grant = g := by
  rw [ZoneState.handOver_eq]

theorem Heat.allocate_grant (p : Params) (h : Heat) (z : ZoneId) : ((h.allocate p).zones.get z).grant =
    if h.forced z then 0 else (h.share (h.available p)).2.get z := by
  rw [h.allocate_zone, ZoneState.handOver_grant]

theorem Heat.allocate_grant_le_share (p : Params) (h : Heat) (z : ZoneId) :
    ((h.allocate p).zones.get z).grant ≤ (h.share (h.available p)).2.get z := by
  rw [h.allocate_grant]
  split
  · exact Nat.zero_le _
  · exact le_rfl

theorem Heat.allocate_grant_le_request (p : Params) (h : Heat) (z : ZoneId) :
    ((h.allocate p).zones.get z).grant ≤ (h.zones.get z).request :=
  (h.allocate_grant_le_share p z).trans (h.share_le_request _ z)

theorem ZoneState.cutOff_iff (z : ZoneState) :
    z.cutOff = true ↔ z.blind = false ∧ ∃ x, z.hot = some x ∧ z.inForce.tcut ≤ x := by
  unfold ZoneState.cutOff
  cases z.hot <;> simp

theorem Heat.forced_iff (h : Heat) (z : ZoneId) : h.forced z = true ↔
    h.supplyCut = true ∨ h.kept = .hotOff ∨ (h.kept = .off ∧ h.heatWhileOff = false) ∨
      ((h.zones.get z).blind = false ∧ ∃ x, (h.zones.get z).hot = some x ∧ (h.zones.get z).inForce.tcut ≤ x) := by
  rw [← ZoneState.cutOff_iff]
  simp [Heat.forced, Heat.allZero, or_assoc]

theorem Heat.granted_eq_sum (h : Heat) :
    h.granted = (ZoneId.all.map (fun o => (h.zones.get o).grant * h.watts o)).sum :=
  (ZoneId.sum_all (fun o => (h.zones.get o).grant * h.watts o)).symm

@[simp] theorem Heat.allocate_watts (p : Params) (h : Heat) (z : ZoneId) : (h.allocate p).watts z = h.watts z := by
  simp only [Heat.watts, h.allocate_zone, ZoneState.handOver_eq]

/-- A reserve release acts while the reserve is held (R34). -/
theorem Heat.reserveRelease_cases (h : Heat) :
    h.reserveRelease = { h with reserveHeld := false, reserve := 0 } ∨ h.reserveRelease = h := by
  unfold Heat.reserveRelease
  split
  · exact .inl rfl
  · exact .inr rfl

theorem Heat.reserveRelease_not_held (h : Heat) : h.reserveRelease.reserveHeld = false := by
  unfold Heat.reserveRelease
  split
  · rfl
  next hr => simpa using hr

end Sys2Proof.Machine

namespace Sys2Proof.Proofs

open Sys2Proof.Machine

/-- Settles O12: the shares by the order of service, the grants from the shares, and the release. -/
theorem allocationSharesTheBudget : Obligations.AllocationSharesTheBudget := by
  refine ⟨fun p h hp => ⟨rfl, rfl, ⟨fun z => (h.share (h.available p)).2.get z, ?_, ?_, fun z => ⟨?_, ?_⟩⟩,
    fun hnone => ?_, h.allocate_frame p, fun z => ⟨h.allocate_grant_le_request p z, ?_⟩⟩,
    fun h => ⟨fun hr => if_pos hr, fun hr => if_neg (by simp [hr]), fun hb => ?_, fun t samples => ?_⟩⟩
  · exact Heat.share_of_permuted hp _
  · exact h.share_spends _
  · intro hf
    rw [h.allocate_grant, if_pos ((h.forced_iff z).mpr hf)]
  · intro hf
    rw [h.allocate_grant, if_neg (mt (h.forced_iff z).mp hf)]
  · have hgrant (z : ZoneId) : ((h.allocate p).zones.get z).grant = (h.share (h.available p)).2.get z := by
      rw [h.allocate_grant, if_neg (mt (h.forced_iff z).mp (hnone z))]
    rw [Heat.granted_eq_sum, Nat.add_comm]
    simp only [hgrant, Heat.allocate_watts]
    exact h.share_spends _
  · simp only [h.allocate_grant]
    rw [h.allocate_zone, ZoneState.handOver_eq]
  · obtain h1 | h1 := h.reserveRelease_cases
    · rw [h1]
      exact hb.trans (Nat.mul_le_mul_left 8 (Nat.sub_le_sub_left (Nat.zero_le _) _))
    · rw [h1]
      exact hb
  · exact if_neg (Bool.not_eq_true _ ▸ h.reserveRelease_not_held)

end Sys2Proof.Proofs
end


section
/-! PROOF. What every operation of the Heating Controller keeps of the heaters, and every step with them (R21, R28, R31,
R32, R34). -/

namespace Sys2Proof.Machine

/-! ## One zone's heater -/

/-- A zone's output follows its active grant, and its accumulator is in range and 0 while blind: what a heater keeps
while its request and its record are being judged anew (R21, R31). -/
structure ZoneState.Follows (slot : Fin 8) (z : ZoneState) : Prop where
  output : z.output = decide (slot.val < z.active)
  soak : z.soak ≤ 65535
  blind : z.blind = true → z.soak = 0

theorem ZoneState.HeaterRight.follows {slot : Fin 8} {z : ZoneState} (h : z.HeaterRight slot) : z.Follows slot := by
  obtain ⟨-, -, output, soak, blind⟩ := h
  exact ⟨output, soak, blind⟩

/-- A grant within the request, handed over, leaves the heater right (R32). -/
theorem ZoneState.Follows.handOver {slot : Fin 8} {z : ZoneState} (h : z.Follows slot) {g : Nat} (hg : g ≤ z.request) :
    (z.handOver slot g).HeaterRight slot := by
  obtain ⟨output, soak, blind⟩ := h
  rw [ZoneState.handOver_eq]
  refine ⟨Nat.min_le_left _ _, hg, ?_, soak, blind⟩
  rw [output, ← Bool.decide_and]
  show decide _ = decide (slot.val < min g z.active)
  exact decide_eq_decide.mpr (by omega)

theorem ZoneState.HeaterRight.slotStart {slot : Fin 8} {z : ZoneState} (h : z.HeaterRight slot) (next : Fin 8) :
    (z.slotStart next).HeaterRight next := by
  obtain ⟨active, grant, -, soak, blind⟩ := h
  refine ⟨?_, grant, rfl, soak, blind⟩
  simp only [ZoneState.slotStart]
  split
  · exact le_rfl
  · exact active

/-- A stored record leaves the accumulator or clears it (R18, R39). -/
theorem ZoneState.HeaterRight.onRecord {slot : Fin 8} {z : ZoneState} (h : z.HeaterRight slot) (old new : ZoneRecord) :
    (z.onRecord old new).HeaterRight slot := by
  obtain ⟨active, grant, output, soak, blind⟩ := h
  unfold ZoneState.onRecord
  split
  · exact ⟨active, grant, output, Nat.zero_le _, fun _ => rfl⟩
  · exact ⟨active, grant, output, soak, blind⟩

theorem soakAfter_le {r : ZoneRecord} {cold : Option Int} {soak : Nat} (h : soak ≤ 65535) :
    soakAfter r cold soak ≤ 65535 := by
  unfold soakAfter
  (repeat' split) <;> omega

/-- An evaluation keeps the accumulator in range, and 0 while no sample is usable (R21). -/
theorem ZoneState.Follows.evaluate {slot : Fin 8} {z : ZoneState} (h : z.Follows slot) (samples : Vector Sample 8)
    (fallback : Nat) : (z.evaluate samples fallback).Follows slot := by
  refine ⟨h.output, soakAfter_le h.soak, fun hb => ?_⟩
  have hnone : zoneReadings samples z.inForce = [] := List.isEmpty_iff.mp hb
  show soakAfter z.inForce (zoneReadings samples z.inForce).min? z.soak = 0
  rw [hnone]
  rfl

/-! ## The heaters together -/

/-- The heaters are right (R21, R28, R31, R32), zone by zone. -/
structure Heat.Sound (h : Heat) : Prop where
  zone : ∀ z, (h.zones.get z).HeaterRight h.slot
  budget : h.granted ≤ 8 * (h.budget - h.reserve)

theorem Heat.right_iff_sound (h : Heat) : h.Right ↔ h.Sound := by
  constructor
  · rintro ⟨board, display, front, budget⟩
    exact ⟨fun z => by cases z <;> assumption, budget⟩
  · rintro ⟨zone, budget⟩
    exact ⟨zone .board, zone .display, zone .front, budget⟩

/-- The sum of grant times power follows the grants and the powers. -/
theorem Heat.granted_le {h k : Heat} (hg : ∀ z, (k.zones.get z).grant ≤ (h.zones.get z).grant)
    (hw : ∀ z, k.watts z = h.watts z) : k.granted ≤ h.granted := by
  have hmul (z : ZoneId) : (k.zones.get z).grant * k.watts z ≤ (h.zones.get z).grant * h.watts z :=
    hw z ▸ Nat.mul_le_mul_right _ (hg z)
  exact Nat.add_le_add (Nat.add_le_add (hmul .board) (hmul .display)) (hmul .front)

/-- An allocation shares no more than the budget less the reserve (R28, R29). -/
theorem Heat.allocate_granted_le (p : Params) (h : Heat) :
    (h.allocate p).granted ≤ 8 * ((h.allocate p).budget - (h.allocate p).reserve) := by
  have hmul (z : ZoneId) : ((h.allocate p).zones.get z).grant * (h.allocate p).watts z ≤
      (h.share (h.available p)).2.get z * h.watts z :=
    h.allocate_watts p z ▸ Nat.mul_le_mul_right _ (h.allocate_grant_le_share p z)
  have hspent := h.share_spends (h.available p)
  rw [ZoneId.sum_all] at hspent
  have hsum : (h.allocate p).granted ≤ h.available p := by
    rw [Heat.granted_eq_sum, ZoneId.sum_all]
    have hboard := hmul .board
    have hdisplay := hmul .display
    have hfront := hmul .front
    omega
  exact hsum

/-- An allocation leaves the heaters right, whatever the grants and requests were before it (R28, R32). -/
theorem Heat.allocate_sound {h : Heat} (hf : ∀ z, (h.zones.get z).Follows h.slot) (p : Params) :
    (h.allocate p).Sound := by
  refine ⟨fun z => ?_, h.allocate_granted_le p⟩
  have hle := h.allocate_grant_le_request p z
  rw [h.allocate_grant] at hle
  rw [h.allocate_zone]
  exact (hf z).handOver hle

namespace Heat.Sound

variable {h : Heat}

theorem follows (hs : h.Sound) (z : ZoneId) : (h.zones.get z).Follows h.slot := (hs.zone z).follows

/-- A zone evaluation ends in an allocation (R19). -/
theorem evaluate (hs : h.Sound) (t : Tables) (samples : Vector Sample 8) : (h.evaluate t samples).Sound := by
  refine Heat.allocate_sound (fun z => ?_) t.params
  simp only [Heat.judgeZones, Heat.judgeSupply, Heat.takeRecords, PerZone.get_map, PerZone.get_zip]
  obtain ⟨output, soak, blind⟩ := hs.follows z
  exact ZoneState.Follows.evaluate (z := { h.zones.get z with inForce := t.zones.get z }) ⟨output, soak, blind⟩ samples _

theorem reserveRequest (hs : h.Sound) (p : Params) : (h.reserveRequest p).Sound :=
  Heat.allocate_sound (h := { h with reserveHeld := true }) hs.follows p

/-- A release raises what the grants may take (R34). -/
theorem reserveRelease (hs : h.Sound) : h.reserveRelease.Sound := by
  obtain hr | hr := h.reserveRelease_cases <;> rw [hr]
  · exact ⟨hs.zone, hs.budget.trans (Nat.mul_le_mul_left 8 (Nat.sub_le_sub_left (Nat.zero_le _) _))⟩
  · exact hs

theorem zeroGrants (hs : h.Sound) : h.zeroGrants.Sound := by
  have hzone (z : ZoneId) : h.zeroGrants.zones.get z = (h.zones.get z).handOver h.slot 0 := PerZone.get_map ..
  refine ⟨fun z => ?_, le_trans (Heat.granted_le (fun z => ?_) (fun z => ?_)) hs.budget⟩
  · rw [hzone]
    exact (hs.follows z).handOver (Nat.zero_le _)
  · simp [hzone]
  · simp [Heat.watts, hzone, ZoneState.handOver_eq]

theorem onReport (hs : h.Sound) (st : PowerState) : (h.onReport st).Sound := by
  have hkept : ({ h with kept := st } : Heat).Sound := ⟨hs.zone, hs.budget⟩
  simp only [Heat.onReport]
  split
  · exact hkept.zeroGrants
  · exact hkept

theorem nextSlot (hs : h.Sound) (now : Nat) : (h.nextSlot now).Sound := by
  have hzone (z : ZoneId) : (h.nextSlot now).zones.get z = (h.zones.get z).slotStart (h.slot + 1) := PerZone.get_map ..
  refine ⟨fun z => ?_, hs.budget⟩
  rw [hzone]
  exact (hs.zone z).slotStart _

/-- Zones whose accumulators alone are rewritten, as records are stored (R18, R39). -/
theorem of_zones (hs : h.Sound) {zones : PerZone ZoneState} (hz : ∀ z, zones.get z = h.zones.get z ∨
    ∃ old new, zones.get z = (h.zones.get z).onRecord old new) : ({ h with zones := zones } : Heat).Sound := by
  have hsoak (z : ZoneId) : ∃ n, zones.get z = { h.zones.get z with soak := n } := by
    obtain hz | ⟨old, new, hz⟩ := hz z <;> rw [hz]
    · exact ⟨_, rfl⟩
    · exact ⟨_, ZoneState.onRecord_eq ..⟩
  refine ⟨fun z => ?_, le_trans (Heat.granted_le (h := h) (fun z => ?_) (fun z => ?_)) hs.budget⟩
  · obtain hz | ⟨old, new, hz⟩ := hz z
    · exact hz ▸ hs.zone z
    · exact hz ▸ (hs.zone z).onRecord old new
  · obtain ⟨n, hn⟩ := hsoak z
    simp [hn]
  · obtain ⟨n, hn⟩ := hsoak z
    simp [Heat.watts, hn]

theorem softReset (hs : h.Sound) (old new : PerZone ZoneRecord) : (h.softReset old new).Sound :=
  hs.of_zones (fun z => .inr ⟨old.get z, new.get z, by cases z <;> rfl⟩)

end Heat.Sound

theorem Heat.cold_sound (t : Tables) : (Heat.cold t).Sound := by
  refine ⟨fun z => ?_, ?_⟩
  · rw [Heat.cold_zone]
    cases z <;> exact ⟨le_rfl, le_rfl, rfl, Nat.zero_le _, fun _ => rfl⟩
  · simp [Heat.granted, Heat.cold, PerZone.map, ZoneState.atReset]

end Sys2Proof.Machine
end


section
/-! PROOF. Every command's work keeps the heaters right: what is not the Heating Controller's own work reaches it only as
the reports and the reserve handshake of a power transition (R30, R33, R34). -/

namespace Sys2Proof.Machine

variable {s : State}

/-! ## The sequencer -/

/-- What a transition does to the Heating Controller: the reserve released or not, and the report (R30, R34, R55). -/
theorem State.transition_heat (t : Target) (cs : List (Cause × Option SlotField)) (s : State) :
    (s.transition t cs).heat =
      (if s.power.releases t then s.heat.reserveRelease else s.heat).onReport t.state := by
  unfold State.transition State.reportPower
  by_cases h : s.power.releases t = true <;> simp [h, PowerSeq.enter]

@[simp] theorem State.transition_sound (h : s.heat.Sound) (t : Target) (cs : List (Cause × Option SlotField)) :
    (s.transition t cs).heat.Sound := by
  rw [State.transition_heat]
  split
  · exact h.reserveRelease.onReport _
  · exact h.onReport _

@[simp] theorem State.enterReserve_sound (h : s.heat.Sound) (cs : List (Cause × Option SlotField)) :
    (s.enterReserve cs).heat.Sound := (State.transition_sound h toReserve cs).reserveRequest _

@[simp] theorem State.sequencerZones_sound (h : s.heat.Sound) (z : PerZone ZoneReport) :
    (s.sequencerZones z).heat.Sound := by
  unfold State.sequencerZones; split <;> simp [h]

@[simp] theorem State.preheatExpired_sound (h : s.heat.Sound) : s.preheatExpired.heat.Sound := by
  simp only [State.preheatExpired]; split <;> simp [h]

@[simp] theorem State.settled_sound (h : s.heat.Sound) : s.settled.heat.Sound := State.transition_sound h _ _

@[simp] theorem State.powerGoodSeen_sound (h : s.heat.Sound) : s.powerGoodSeen.heat.Sound := by
  have hsettle := State.transition_sound (s := s.onPower (fun p => { p with pgSeen := true })) h (toSettle s.params) []
  simp only [State.powerGoodSeen]
  split
  · exact State.settled_sound hsettle
  · exact hsettle

@[simp] theorem State.reserveGranted_sound (h : s.heat.Sound) : s.reserveGranted.heat.Sound := by
  simp only [State.reserveGranted]; (repeat' split) <;> simp [h]

@[simp] theorem State.firstHeartbeat_sound (h : s.heat.Sound) : s.firstHeartbeat.heat.Sound := by
  unfold State.firstHeartbeat; split <;> simp [h]

@[simp] theorem State.autoRestart_sound (h : s.heat.Sound) (c : Cause) : (s.autoRestart c).heat.Sound := by
  simp only [State.autoRestart]; split <;> exact State.transition_sound (s := s.onPower _) h _ _

@[simp] theorem State.watchdogRequest_sound (h : s.heat.Sound) : s.watchdogRequest.heat.Sound := by
  unfold State.watchdogRequest; split <;> simp [h]

@[simp] theorem State.bootTimedOut_sound (h : s.heat.Sound) : s.bootTimedOut.heat.Sound := by
  unfold State.bootTimedOut; split <;> simp [h]

@[simp] theorem State.endShutdown_sound (h : s.heat.Sound) (cs : List (Cause × Option SlotField)) :
    (s.endShutdown cs).heat.Sound := by
  unfold State.endShutdown; split <;> simp [h]

@[simp] theorem State.endIfNoGrace_sound (h : s.heat.Sound) (grace : Nat) : (s.endIfNoGrace grace).heat.Sound := by
  unfold State.endIfNoGrace; split <;> simp [h]

@[simp] theorem State.thermalShutdown_sound (h : s.heat.Sound) : s.thermalShutdown.heat.Sound := by
  unfold State.thermalShutdown; split <;> simp [h]

@[simp] theorem State.thermalResume_sound (h : s.heat.Sound) : s.thermalResume.heat.Sound := by
  unfold State.thermalResume; split <;> simp [h]

@[simp] theorem State.requestOff_sound (h : s.heat.Sound) : s.requestOff.1.heat.Sound := by
  unfold State.requestOff; split <;> simp [h]

@[simp] theorem State.requestPowerRestart_sound (h : s.heat.Sound) : s.requestPowerRestart.1.heat.Sound := by
  unfold State.requestPowerRestart; split <;> simp [h]

@[simp] theorem State.requestCycle_sound (h : s.heat.Sound) : s.requestCycle.1.heat.Sound := by
  unfold State.requestCycle; split <;> simp [h]

@[simp] theorem State.carryOut_sound (h : s.heat.Sound) (a : PanelAction) (slot : SlotField) :
    (s.carryOut a slot).heat.Sound := by
  cases a
  case serviceRelease => exact State.transition_sound (s := s.onPower _) h _ _
  all_goals exact State.transition_sound h _ _

@[simp] theorem State.panelAction_sound (h : s.heat.Sound) (a : PanelAction) (slot : Fin 4) :
    (s.panelAction a slot).heat.Sound := by
  unfold State.panelAction; split <;> simp [h]

@[simp] theorem State.anyKeyPowerOn_sound (h : s.heat.Sound) : s.anyKeyPowerOn.heat.Sound := by
  unfold State.anyKeyPowerOn; split <;> simp [h]

@[simp] theorem State.powerLost_sound (h : s.heat.Sound) : s.powerLost.heat.Sound := by
  unfold State.powerLost; split <;> simp [h]

@[simp] theorem State.powerGoodLevel_sound (h : s.heat.Sound) (high : Bool) : (s.powerGoodLevel high).heat.Sound := by
  have hlevel : (s.onPower (fun p => { p with pgLevel := high })).heat.Sound := h
  simp only [State.powerGoodLevel]
  (repeat' split)
  exacts [State.powerGoodSeen_sound hlevel, State.powerLost_sound hlevel, hlevel]

/-! ## The Liveness Monitor -/

@[simp] theorem State.heartbeat_sound (h : s.heat.Sound) : s.heartbeat.heat.Sound := by
  unfold State.heartbeat
  split
  case h_1 => exact State.firstHeartbeat_sound (s := s.onLive _) h
  case h_4 => split <;> simp [h]
  all_goals simp [h]

@[simp] theorem State.bootExpired_sound (h : s.heat.Sound) : s.bootExpired.heat.Sound :=
  State.bootTimedOut_sound (s := s.onLive _) h

@[simp] theorem State.graceExpired_sound (h : s.heat.Sound) : s.graceExpired.heat.Sound :=
  State.watchdogRequest_sound (s := s.onLive _) h

@[simp] theorem State.heartbeatExpired_sound (h : s.heat.Sound) (t : Timer) : (s.heartbeatExpired t).heat.Sound := by
  simp only [State.heartbeatExpired]; split <;> simp [h]

/-! ## The cycle -/

/-- A free choice is one of its two outcomes, as far as the Heating Controller goes. -/
theorem State.oneOf_sound {a b : State} (ha : a.heat.Sound) (hb : b.heat.Sound) : (s.oneOf a b).heat.Sound := by
  obtain h | h | h := s.oneOf_cases a b <;> rw [h]
  exacts [ha, ha, hb]

@[simp] theorem State.sendRequests_sound (h : s.heat.Sound) (before after : Thermal) :
    (s.sendRequests before after).heat.Sound := by
  unfold State.sendRequests State.sendResume State.sendShutdown; (repeat' split) <;> simp [h]

@[simp] theorem State.sendRequestsAndDim_sound (h : s.heat.Sound) (before after : Thermal) :
    (s.sendRequestsAndDim before after).heat.Sound := by
  obtain ⟨c, hc | hc⟩ := s.sendRequestsAndDim_cases before after <;> simp [hc, h]

@[simp] theorem State.thermalZones_sound (h : s.heat.Sound) (z : PerZone ZoneReport) :
    (s.thermalZones z).heat.Sound := by
  simp [State.thermalZones, h]

theorem State.zonesEvaluated_sound (h : s.heat.Sound) (z : PerZone ZoneReport) : (s.zonesEvaluated z).heat.Sound := by
  unfold State.zonesEvaluated eitherOrder
  split
  · exact State.oneOf_sound (by simp [h]) (by simp [h])
  · simp [h]

theorem State.evaluateZones_heat (s : State) : s.evaluateZones.heat = s.heat.evaluate s.tables s.meas.samples := by
  simp [State.evaluateZones]

@[simp] theorem State.cycleComplete_sound (h : s.heat.Sound) : s.cycleComplete.heat.Sound := by
  refine State.zonesEvaluated_sound ?_ _
  rw [State.evaluateZones_heat]
  exact Heat.Sound.evaluate h _ _

@[simp] theorem State.conversionDone_sound (h : s.heat.Sound) (code : BitVec 12) :
    (s.conversionDone code).heat.Sound := by
  unfold State.conversionDone
  split
  · exact h
  · dsimp only
    split <;> simp [h]

@[simp] theorem State.heaterSlot_sound (h : s.heat.Sound) : s.heaterSlot.heat.Sound := by
  simpa [State.heaterSlot] using h.nextSlot _

/-! ## The sequences and the keypad -/

@[simp] theorem State.fire_sound (h : s.heat.Sound) (n : Fin 4) : (s.fire n).heat.Sound := by
  unfold State.fire State.deliver; split <;> simp [h]

@[simp] theorem State.judgePress_sound (h : s.heat.Sound) (k : Fin 64) : (s.judgePress k).heat.Sound := by
  simp only [State.judgePress]
  split
  · exact h
  · exact State.fire_sound (s := s.onMatcher _) h _

@[simp] theorem State.matcherPress_sound (h : s.heat.Sound) (k : Fin 64) : (s.matcherPress k).heat.Sound := by
  obtain ⟨c, hc | hc⟩ := s.matcherPress_cases k <;> simp [hc, h]

@[simp] theorem State.holdExpired_sound (h : s.heat.Sound) (due : Nat) : (s.holdExpired due).heat.Sound := by
  unfold State.holdExpired; split <;> simp [h]

@[simp] theorem State.anyKeyFirst_sound (h : s.heat.Sound) (i : Fin 64) : (s.anyKeyFirst i).heat.Sound := by
  have hon := State.anyKeyPowerOn_sound h
  simp only [State.anyKeyFirst]
  split
  · exact State.judgePress_sound hon i
  · exact State.judgePress_sound (s := s.anyKeyPowerOn.takeReports) hon i

@[simp] theorem State.handOn_sound (h : s.heat.Sound) (i : Fin 64) : (s.handOn i).heat.Sound := by
  unfold State.handOn
  split
  · exact State.oneOf_sound (by simp [h]) (by simp [h])
  · simp [h]

@[simp] theorem State.processPress_sound (h : s.heat.Sound) (i : Fin 64) : (s.processPress i).heat.Sound := by
  simp only [State.processPress, State.passedPress]; (repeat' split) <;> simp [h]

@[simp] theorem State.applyPress_sound (h : s.heat.Sound) (i : Fin 64) : (s.applyPress i).heat.Sound := by
  unfold State.applyPress
  split
  · simpa using h
  · exact State.processPress_sound (s := s.onKeypad _) h i

@[simp] theorem State.reexamine_sound (h : s.heat.Sound) (i : Fin 64) : (s.reexamine i).heat.Sound := by
  unfold State.reexamine
  split
  · exact State.processPress_sound (s := s.onKeypad _) h i
  · exact h

/-- What each step of a fold keeps, the fold keeps. -/
theorem State.foldl_sound {α : Type} {f : State → α → State}
    (hf : ∀ (s : State) a, s.heat.Sound → (f s a).heat.Sound) (h : s.heat.Sound) (l : List α) :
    (l.foldl f s).heat.Sound := by
  induction l generalizing s with
  | nil => exact h
  | cons a l ih => exact ih (hf s a h)

@[simp] theorem State.scanReleases_sound (h : s.heat.Sound) (releases : List (Fin 64)) :
    (s.scanReleases releases).heat.Sound := by
  have hreleased : (releases.foldl State.applyRelease s).heat.Sound :=
    State.foldl_sound (fun s i hs => by simpa using hs) h _
  simp only [State.scanReleases]
  split
  · exact hreleased
  · exact State.foldl_sound (fun s i hs => State.reexamine_sound hs i) hreleased _

@[simp] theorem State.scan_sound (h : s.heat.Sound) (reading : BitVec 64) : (s.scan reading).heat.Sound := by
  simp only [State.scan, State.scanOnce, State.takeReports, State.onMatcher_heat, State.onKeypad_heat]
  refine State.foldl_sound (fun s i hs => by simpa using hs) ?_ _
  exact State.foldl_sound (fun s i hs => State.applyPress_sound hs i) (State.scanReleases_sound (by simpa using h) _) _

/-! ## The end of a step -/

@[simp] theorem State.softReset_sound (h : s.heat.Sound) : s.softReset.heat.Sound := by
  have hheat : s.softReset.heat = s.heat.softReset s.tables.zones s.store.load.zones := by
    simp [State.softReset, State.blocksSoftReset, State.reload]
  rw [hheat]
  exact h.softReset _ _

@[simp] theorem State.finish_sound (h : s.heat.Sound) : s.finish.heat.Sound := by
  simp only [State.finish, State.replyEndTaken]; (repeat' split) <;> simp [h]

theorem State.perform_sound {work : State → State} (hw : ∀ s : State, s.heat.Sound → (work s).heat.Sound)
    (h : s.heat.Sound) : (s.perform work).heat.Sound := by
  unfold State.perform
  split
  · exact h
  · exact State.finish_sound (hw s h)

/-! ## The requests -/

theorem State.storeZone_sound (h : s.heat.Sound) (z : ZoneId) (r : ZoneRecord) : (s.storeZone z r).heat.Sound := by
  refine h.of_zones fun o => ?_
  rw [PerZone.get_set]
  split
  next hz =>
    subst hz
    exact .inr ⟨_, _, rfl⟩
  next => exact .inl rfl

@[simp] theorem State.setZone_sound (h : s.heat.Sound) (args : List Byte) : (s.setZone args).state.heat.Sound := by
  unfold State.setZone
  split
  · split
    · exact h
    · split
      · exact State.storeZone_sound h _ _
      · exact h
  · exact h

@[simp] theorem State.setEntry_sound (h : s.heat.Sound) (args : List Byte) : (s.setEntry args).state.heat.Sound := by
  unfold State.setEntry; (repeat' split) <;> simp [h]

theorem State.noArgs_sound {a : Answer} (h : s.heat.Sound) (ha : a.state.heat.Sound) (args : List Byte) :
    (s.noArgs args a).state.heat.Sound := by
  cases args
  · exact ha
  · exact h

@[simp] theorem State.powerOff_sound (h : s.heat.Sound) (args : List Byte) : (s.powerOff args).state.heat.Sound :=
  State.noArgs_sound h (State.requestOff_sound h) args

@[simp] theorem State.powerRestart_sound (h : s.heat.Sound) (args : List Byte) :
    (s.powerRestart args).state.heat.Sound := State.noArgs_sound h (State.requestPowerRestart_sound h) args

@[simp] theorem State.powerCycle_sound (h : s.heat.Sound) (args : List Byte) : (s.powerCycle args).state.heat.Sound :=
  State.noArgs_sound h (State.requestCycle_sound h) args

@[simp] theorem State.requestPower_sound (h : s.heat.Sound) (args : List Byte) :
    (s.requestPower args).state.heat.Sound := by
  unfold State.requestPower
  split
  · exact h
  · split
    case h_4 => exact State.noArgs_sound h h _
    all_goals simp [h]

theorem State.unlessCommitting_sound {request : State → Answer} (h : s.heat.Sound)
    (hr : (request s).state.heat.Sound) : (s.unlessCommitting request).state.heat.Sound := by
  unfold State.unlessCommitting
  split
  · exact h
  · exact hr

theorem State.command_sound (h : s.heat.Sound) (code : Nat) (args : List Byte) :
    (s.command code args).state.heat.Sound := by
  unfold State.command
  split
  case h_5 => exact State.unlessCommitting_sound h (State.setEntry_sound h args)
  case h_12 | h_13 => exact State.unlessCommitting_sound h (by simpa using h)
  all_goals simp [h]

theorem State.serve_sound {request : State → Answer} (h : s.heat.Sound) (hr : (request s).state.heat.Sound)
    (command tag : Byte) : (s.serve command tag request).heat.Sound := by
  unfold State.serve
  split
  · simpa using h
  · simpa using hr

theorem State.manage_sound (h : s.heat.Sound) (payload : List Byte) : (s.manage payload).heat.Sound := by
  unfold State.manage
  split
  · exact State.serve_sound h h _ _
  · exact State.serve_sound h h _ _
  · exact State.serve_sound h (State.command_sound h _ _) _ _

/-! ## Frames -/

@[simp] theorem State.reservedFromBoard_sound (h : s.heat.Sound) (f : Frame) :
    (s.reservedFromBoard f).heat.Sound := by
  unfold State.reservedFromBoard
  split
  · exact State.manage_sound (by simpa using h) _
  all_goals simp [h]

@[simp] theorem State.loadableFromBoard_sound (h : s.heat.Sound) (f : Frame) :
    (s.loadableFromBoard f).heat.Sound := by
  simp only [State.loadableFromBoard, State.boardAction, State.boardSideEvents]; (repeat' split) <;> simp [h]

theorem State.boardFrame_sound {route : State → State} (hr : ∀ s : State, s.heat.Sound → (route s).heat.Sound)
    (h : s.heat.Sound) : (s.boardFrame route).heat.Sound := by
  unfold State.boardFrame
  split
  · exact hr _ (by simpa using h)
  · exact h

theorem State.displayFrame_heat {route : State → State} (hr : ∀ s, (route s).heat = s.heat) (s : State) :
    (s.displayFrame route).heat = s.heat := by
  simp [State.displayFrame, hr]

theorem State.requestFrame_sound {request : State → Answer}
    (hr : ∀ s : State, s.heat.Sound → (request s).state.heat.Sound) (code : Nat) (tag : Byte) (h : s.heat.Sound) :
    (s.requestFrame code tag request).heat.Sound :=
  State.boardFrame_sound (fun u hu => State.serve_sound (s := u.passed 0) (by simpa using hu)
    (hr _ (by simpa using hu)) _ _) h

@[simp] theorem State.boardCharacter_sound (h : s.heat.Sound) (data : Byte) (mark stop : Bool) :
    (s.boardCharacter data mark stop).heat.Sound := by
  have houtcomes (l : List RxOutcome) (u : State) : (l.foldl State.systemOutcome u).heat = u.heat :=
    foldl_keeps State.heat State.systemOutcome (by simp) l u
  simp only [State.boardCharacter, State.boardJudgement, State.frameFromBoard]
  (repeat' split) <;> simp [h, houtcomes]

theorem State.character_sound (h : s.heat.Sound) (port : Port) (data : Byte) (mark : Bool) (stop : StopBit) :
    (s.character port data mark stop).heat.Sound := by
  cases stop <;> cases port <;> simp [State.character, State.characterAt, h]

/-! ## Timers -/

theorem State.onExpiry_sound {work : Timer → State → State}
    (hw : ∀ t (s : State), s.heat.Sound → (work t s).heat.Sound) (h : s.heat.Sound) (timer : Option Timer) :
    (s.onExpiry timer work).heat.Sound := by
  unfold State.onExpiry
  split
  · exact h
  · exact hw _ _ (by simpa using h)

theorem State.onExpiryIn_sound {work : State → State} (hw : ∀ s : State, s.heat.Sound → (work s).heat.Sound)
    (h : s.heat.Sound) (here : Bool) (timer : Option Timer) : (s.onExpiryIn here timer work).heat.Sound := by
  unfold State.onExpiryIn
  split
  · exact State.onExpiry_sound (fun _ => hw) h timer
  · exact h

/-! ## Every command -/

/-- Every command keeps the heaters right: the two resets begin at cold reset's, and every other command's work does. -/
theorem exec_sound (c : Instr) {t : State} (h : s.heat.Sound) (ht : exec c s = .next t) : t.heat.Sound := by
  have perform {work : State → State} (hw : ∀ s : State, s.heat.Sound → (work s).heat.Sound)
      (ht : (.next (s.perform work) : Answered) = .next t) : t.heat.Sound := by
    cases ht
    exact State.perform_sound hw h
  have request {code : Nat} {tag : Byte} {r : State → Answer}
      (hr : ∀ s : State, s.heat.Sound → (r s).state.heat.Sound)
      (ht : (.next (s.perform (State.requestFrame code tag r)) : Answered) = .next t) : t.heat.Sound :=
    perform (fun _ => State.requestFrame_sound hr code tag) ht
  cases c with
  | coldReset cause => cases ht; exact Heat.cold_sound _
  | coldResetRelease =>
    by_cases hs : s.held = true
    · rw [exec_coldResetRelease hs] at ht
      cases ht
      obtain ⟨zone, budget⟩ := Heat.cold_sound s.store.load
      exact ⟨zone, budget⟩
    · cases ht
      rwa [if_neg hs]
  | powerGoodChange high =>
    cases ht
    split
    · exact h
    · exact State.perform_sound (fun _ hu => State.powerGoodLevel_sound hu high) h
  | hostReadyChange asserted => cases ht; exact h
  | cycleStart | conversionComplete _ | reserveGranted | heaterSlotStart | lineBreak _ | systemTxBegin
  | systemFrameSent | displayFrameSent | scan _ | beeperSegmentEnd | oneShotEnd | backgroundPeriodStart | commitEnd _
  | breakEnd => exact perform (fun _ hu => by simp [hu]) ht
  | preheatLimitExpiry | powerGoodTimeout | settleExpiry | resetPulseExpiry | shutdownGraceExpiry | offTimeExpiry
  | bootTimeout | graceTimerExpiry | waitLimitExpiry | startTimerExpiry | silenceTimerExpiry | recoveryOffTimeExpiry
  | idleTimerExpiry =>
    exact perform (fun _ hu => State.onExpiryIn_sound (fun _ hw => by simp [hw]) hu _ _) ht
  | stepTimerExpiry _ | holdTimerExpiry _ =>
    exact perform (fun _ hu => State.onExpiry_sound (fun _ _ hw => by simp [hw]) hu _) ht
  | heartbeatTimerExpiry =>
    refine perform (fun u hu => ?_) ht
    split
    · exact State.onExpiry_sound (fun _ _ hw => State.heartbeatExpired_sound hw _) hu _
    · exact hu
  | receiveCharacter port data mark stop => exact perform (fun _ hu => State.character_sound hu port data mark stop) ht
  | reservedFrame port cls payload =>
    cases port
    · exact perform (fun _ => State.boardFrame_sound fun _ hu => State.reservedFromBoard_sound hu _) ht
    · exact perform (fun u hu => by
        rwa [show (u.reservedFrame .display _).heat = u.heat from State.displayFrame_heat (by simp) u]) ht
  | loadableSystemFrame _ _ =>
    exact perform (fun _ => State.boardFrame_sound fun _ hu => State.loadableFromBoard_sound hu _) ht
  | loadableDisplayFrame _ _ | displayManagementFrame _ =>
    exact perform (fun u hu => by rwa [State.displayFrame_heat (by simp)]) ht
  | unknownCommand payload =>
    exact perform (fun _ => State.boardFrame_sound fun _ hu => State.manage_sound (by simpa using hu) payload) ht
  | setEntryZone _ _ | setEntryParameter _ _ | setEntryClass _ _ | setEntryKeymap _ _ | setEntrySequence _ _
  | setEntryChannel _ _ | setEntryInject _ _ | commitProfile _ _ | resetSupervisor _ _ =>
    exact request (fun _ hu => State.unlessCommitting_sound hu (by simp [hu])) ht
  | getStatus _ _ | getZones _ _ | getSamples _ _ | getEntry _ _ | getCounters _ _ | clearCounters _ _ | getLog _ _
  | requestPowerOff _ _ | requestPowerRestart _ _ | requestPowerCycle _ _ | requestDisplayDim _ _
  | requestDisplayWake _ _ | requestDisplayRestart _ _ | forceSampleSet _ _ _ | forceSampleRelease _ _ _ =>
    exact request (fun _ hu => by simp [hu]) ht

end Sys2Proof.Machine

namespace Sys2Proof.Proofs

open Sys2Proof.Machine

/-- Settles O58: with no command waiting the heaters stay, and every command keeps them right. -/
theorem stepsKeepTheHeatersRight : Obligations.StepsKeepTheHeatersRight := by
  intro s t hs ht
  rw [Heat.right_iff_sound] at hs ⊢
  unfold step at ht
  split at ht
  · cases ht
    unfold State.tick
    split <;> exact hs
  next c rest _ => exact exec_sound c (s := { s with pending := rest }) hs ht

end Sys2Proof.Proofs
end


section
/-! PROOF. The heater slots, in a released part and in one that is held (R31). -/

namespace Sys2Proof.Machine

/-- A heater slot moves the clock and the Heating Controller's slot, and nothing else (R31). -/
theorem State.perform_heaterSlot {s : State} (hs : s.Ready) : s.perform State.heaterSlot =
    { s with
      clockMs := max s.clockMs (s.heat.slotStart + 250), heat := s.heat.nextSlot (s.heat.slotStart + 250) } := by
  obtain ⟨hheld, hended, hjust, -⟩ := hs
  rw [State.perform_of_running _ hheld]
  exact State.finish_at_rest (s := s.heaterSlot) hended hjust

/-- No command but the release ends a cold reset or touches the heaters in it (R53; log 4). -/
theorem exec_of_held {s : State} (hs : s.held = true) {c : Instr} (hc : c ≠ .coldResetRelease) :
    ∃ t, exec c s = .next t ∧ t.held = true ∧ (t.heat = s.heat ∨ t.heat = Heat.cold Tables.default) := by
  have held {work : State → State} : ∃ t, (.next (s.perform work) : Answered) = .next t ∧ t.held = true ∧
      (t.heat = s.heat ∨ t.heat = Heat.cold Tables.default) :=
    ⟨s, congrArg Host.Outcome.next (State.perform_of_held work hs), hs, .inl rfl⟩
  cases c
  case coldReset cause => exact ⟨_, rfl, rfl, .inr rfl⟩
  case coldResetRelease => exact absurd rfl hc
  case powerGoodChange high => exact ⟨_, congrArg Host.Outcome.next (if_pos hs), hs, .inl rfl⟩
  case hostReadyChange asserted => exact ⟨_, rfl, hs, .inl rfl⟩
  all_goals exact held

/-- Every output is off and every active grant 0 at cold reset (R31, R38). -/
theorem Heat.cold_off (t : Tables) (z : ZoneId) :
    ((Heat.cold t).zones.get z).active = 0 ∧ ((Heat.cold t).zones.get z).output = false := by
  cases z <;> exact ⟨rfl, rfl⟩

end Sys2Proof.Machine

namespace Sys2Proof.Proofs

open Sys2Proof.Machine

/-- Settles O11: the slot of a released part, and the outputs of one that is held and as it is released. -/
theorem heaterSlotSwitchesTheOutputs : Obligations.HeaterSlotSwitchesTheOutputs := by
  refine ⟨fun s hs => ?_, fun cause s => ⟨_, rfl, rfl, fun z => (Heat.cold_off _ z).2⟩, fun c s hs hoff hc => ?_,
    fun s hs => ⟨_, exec_coldResetRelease hs, rfl, rfl, Heat.cold_off _⟩⟩
  · refine ⟨_, congrArg Host.Outcome.next (State.perform_heaterSlot hs), rfl, fun z => ?_⟩
    have hzone : (s.heat.nextSlot (s.heat.slotStart + 250)).zones.get z =
        (s.heat.zones.get z).slotStart (s.heat.slot + 1) := PerZone.get_map ..
    rw [hzone]
    exact ⟨rfl, rfl⟩
  · obtain ⟨t, ht, hheld, hheat | hheat⟩ := exec_of_held hs hc
    · exact ⟨t, ht, hheld, fun z => hheat ▸ hoff z⟩
    · exact ⟨t, ht, hheld, fun z => hheat ▸ (Heat.cold_off _ z).2⟩

end Sys2Proof.Proofs
end


section
/-! PROOF. The cycle's last conversion up to its report, and what every message of "zones evaluated" leaves as the
judgements had it (R19, R36, R42). -/

namespace Sys2Proof.Machine

/-! ## What an evaluation judges -/

/-- A zone without what allocations, reports and slots write. -/
def ZoneState.judged (z : ZoneState) : ZoneState := { z with grant := 0, active := 0, output := false }

/-- The Heating Controller without what allocations, reports and the reserve handshake write: what an evaluation judged
of the zones and of the supply. -/
def Heat.judged (h : Heat) : Heat :=
  { h with
    zones := h.zones.map ZoneState.judged, budget := 0, reserve := 0, a8 := 0, reserveHeld := false, kept := .off }

theorem Heat.judged_zone {h k : Heat} (hj : k.judged = h.judged) (z : ZoneId) :
    (k.zones.get z).judged = (h.zones.get z).judged := by
  simpa [Heat.judged] using congrArg (fun h => h.zones.get z) hj

/-- Zones that agree in what was judged agree once their grants, active grants and outputs do. -/
theorem ZoneState.judged_with {x y : ZoneState} (hj : x.judged = y.judged) (g a : Nat) (o : Bool) :
    { x with grant := g, active := a, output := o } = { y with grant := g, active := a, output := o } :=
  congrArg (fun z : ZoneState => { z with grant := g, active := a, output := o }) hj

theorem ZoneState.handOver_judged (slot : Fin 8) (g : Nat) (z : ZoneState) : (z.handOver slot g).judged = z.judged := by
  rw [ZoneState.handOver_eq]
  rfl

@[simp] theorem Heat.allocate_judged (p : Params) (h : Heat) : (h.allocate p).judged = h.judged := by
  have hzones : (h.allocate p).zones.map ZoneState.judged = h.zones.map ZoneState.judged :=
    PerZone.ext_get fun z => by
      rw [PerZone.get_map, PerZone.get_map, h.allocate_zone, ZoneState.handOver_judged]
  simp only [Heat.judged, hzones]
  rfl

@[simp] theorem Heat.reserveRequest_judged (p : Params) (h : Heat) : (h.reserveRequest p).judged = h.judged :=
  Heat.allocate_judged p _

@[simp] theorem Heat.reserveRelease_judged (h : Heat) : h.reserveRelease.judged = h.judged := by
  obtain hr | hr := h.reserveRelease_cases <;> rw [hr]
  rfl

@[simp] theorem Heat.onReport_judged (st : PowerState) (h : Heat) : (h.onReport st).judged = h.judged := by
  simp only [Heat.onReport]
  split
  · have hzones : (h.zones.map (ZoneState.handOver h.slot 0)).map ZoneState.judged = h.zones.map ZoneState.judged :=
      PerZone.ext_get fun z => by simp only [PerZone.get_map, ZoneState.handOver_judged]
    simp only [Heat.zeroGrants, Heat.judged, hzones]
  · rfl

/-! ## The marks of an evaluation -/

/-- What the Power Sequencer's and the Thermal Limit Monitor's messages leave of a cycle-complete event: what the zones
and the supply were judged to be, the BROWNOUT flag, the monitor's heat-dim and shutdown count, and the display path's
copy of heat-dim. -/
structure CycleMarks where
  heat : Heat
  brownoutFlag : Bool
  dim : Bool × Nat
  shutdownCount : Nat
  pathDim : Bool

def State.cycleMarks (s : State) : CycleMarks :=
  { heat := s.heat.judged, brownoutFlag := s.mgmt.hasFlag .brownout, dim := (s.thermal.heatDim, s.thermal.dimCount)
    shutdownCount := s.thermal.shutdownCount, pathDim := s.path.heatDim }

theorem State.dropReply_sticky (s : State) : s.dropReply.mgmt.sticky = s.mgmt.sticky := by
  unfold State.dropReply
  split <;> rfl

@[simp] theorem State.portReport_sticky (s : State) : s.portReport.mgmt.sticky = s.mgmt.sticky := by
  simp only [State.portReport, State.portDies]
  (repeat' split)
  exacts [rfl, rfl, State.dropReply_sticky (s.onSys _)]

@[simp] theorem State.pathReport_heatDim (turnedOn turnedOff : Bool) (s : State) :
    (s.pathReport turnedOn turnedOff).path.heatDim = s.path.heatDim := by
  unfold State.pathReport State.pathPowerOn
  (repeat' split)
  · rfl
  · rw [(State.pathPowerOff_eq _).2]
  · rfl

theorem State.transition_thermal (t : Target) (cs : List (Cause × Option SlotField)) (s : State) :
    (s.transition t cs).thermal = s.thermal.onReport t.state := by
  by_cases h : s.power.releases t = true <;> simp [State.transition, State.reportPower, PowerSeq.enter, h]

theorem State.transition_sticky (t : Target) (cs : List (Cause × Option SlotField)) (s : State) :
    (s.transition t cs).mgmt.sticky = s.mgmt.sticky := by
  obtain ⟨h, p, ht⟩ := s.transition_eq_report t cs
  simp [ht, State.reportPower, Mgmt.onReport]

@[simp] theorem State.transition_cycleMarks (t : Target) (cs : List (Cause × Option SlotField)) (s : State) :
    (s.transition t cs).cycleMarks = s.cycleMarks := by
  have hheat : (s.transition t cs).heat.judged = s.heat.judged := by
    rw [State.transition_heat]
    split <;> simp
  have hpath : (s.transition t cs).path.heatDim = s.path.heatDim := by
    obtain ⟨h, p, ht⟩ := s.transition_eq_report t cs
    simp [ht, State.reportPower]
  simp only [State.cycleMarks, hheat, hpath, Mgmt.hasFlag, State.transition_sticky, State.transition_thermal]
  rfl

@[simp] theorem State.post_cycleMarks (c : NoticeContent) (s : State) : (s.post c).cycleMarks = s.cycleMarks := rfl

@[simp] theorem State.report_cycleMarks {f : StickyFlag} (h : StickyFlag.brownout ≠ f) (s : State) :
    (s.report f).cycleMarks = s.cycleMarks := by
  simp [State.cycleMarks, State.report, Mgmt.report_hasFlag, h]

@[simp] theorem State.enterReserve_cycleMarks (cs : List (Cause × Option SlotField)) (s : State) :
    (s.enterReserve cs).cycleMarks = s.cycleMarks := by
  refine Eq.trans ?_ (s.transition_cycleMarks toReserve cs)
  simp [State.cycleMarks, State.enterReserve]

@[simp] theorem State.sequencerZones_cycleMarks (z : PerZone ZoneReport) (s : State) :
    (s.sequencerZones z).cycleMarks = s.cycleMarks := by
  unfold State.sequencerZones; split <;> simp

@[simp] theorem State.pathZones_cycleMarks (z : PerZone ZoneReport) (s : State) :
    (s.pathZones z).cycleMarks = s.cycleMarks := by
  unfold State.pathZones; split <;> rfl

@[simp] theorem State.endIfNoGrace_cycleMarks (g : Nat) (s : State) :
    (s.endIfNoGrace g).cycleMarks = s.cycleMarks := by
  unfold State.endIfNoGrace State.endShutdown; (repeat' split) <;> simp

@[simp] theorem State.sendRequests_cycleMarks (before after : Thermal) (s : State) :
    (s.sendRequests before after).cycleMarks = s.cycleMarks := by
  have hshutdown : (s.sendShutdown after).cycleMarks = s.cycleMarks := by
    unfold State.sendShutdown State.thermalShutdown; (repeat' split) <;> simp
  refine Eq.trans ?_ hshutdown
  unfold State.sendRequests State.sendResume State.thermalResume
  (repeat' split) <;> simp

@[simp] theorem State.sendWarn_cycleMarks (before after : Thermal) (board : ZoneReport) (s : State) :
    (s.sendWarn before after board).cycleMarks = s.cycleMarks := by
  unfold State.sendWarn; (repeat' split) <;> simp

@[simp] theorem State.sendBlind_cycleMarks (before : Thermal) (board : ZoneReport) (s : State) :
    (s.sendBlind before board).cycleMarks = s.cycleMarks := by
  unfold State.sendBlind; split <;> simp

@[simp] theorem State.sendFilter_cycleMarks (before after : Thermal) (board : ZoneReport) (s : State) :
    (s.sendFilter before after board).cycleMarks = s.cycleMarks := by
  unfold State.sendFilter; (repeat' split) <;> simp

end Sys2Proof.Machine
end


section
/-! PROOF. The marks after a cycle's last conversion: "zones evaluated" moves those of heat-dim and of the shutdown count,
and what the evaluation judged is what stands (R14, R19, R36, R42). -/

namespace Sys2Proof.Machine

/-! ## Heat-dim at the display path (R47, R164) -/

@[simp] theorem DisplayPath.place_heatDim (f : QueuedFrame) (p : DisplayPath) : (p.place f).heatDim = p.heatDim := by
  unfold DisplayPath.place; (repeat' split) <;> rfl

@[simp] theorem State.inject_cycleMarks (e : InjectEntry) (s : State) : (s.inject e).cycleMarks = s.cycleMarks := by
  have hflag (f : QueuedFrame) : (s.placeFrame f).mgmt.hasFlag .brownout = s.mgmt.hasFlag .brownout := by
    unfold State.placeFrame State.reportIf State.report
    split <;> simp [Mgmt.report_hasFlag]
  have hheatDim (f : QueuedFrame) : (s.placeFrame f).path.heatDim = s.path.heatDim := by simp [State.placeFrame]
  unfold State.inject
  split
  · simp [State.cycleMarks, hflag, hheatDim]
  · rfl

@[simp] theorem State.displayRelease_cycleMarks (s : State) : s.displayRelease.cycleMarks = s.cycleMarks := by
  unfold State.displayRelease; split <;> rfl

@[simp] theorem State.dim_cycleMarks (s : State) : s.dim.cycleMarks = s.cycleMarks :=
  Eq.trans rfl (s.inject_cycleMarks s.tables.dim)

theorem State.sendHeatDim_cycleMarks (before after : Thermal) (s : State) :
    (s.sendHeatDim before after).cycleMarks =
      { s.cycleMarks with
        pathDim := if after.heatDim = before.heatDim then s.path.heatDim else after.heatDim } := by
  have hon : s.heatDimOn.cycleMarks = { s.cycleMarks with pathDim := true } := by
    simp only [State.heatDimOn]
    split
    · simp; rfl
    · rfl
  unfold State.sendHeatDim
  cases ha : after.heatDim <;> cases hb : before.heatDim
  case true.false => simp [hon]
  all_goals rfl

/-! ## "Zones evaluated" (R36, R42) -/

/-- The marks after the Thermal Limit Monitor has judged the event (R45, R47). -/
def CycleMarks.afterZones (p : Params) (z : PerZone ZoneReport) (m : CycleMarks) : CycleMarks :=
  let dim := twoWay p.persistence p.tdim (p.tdim - 20) z.display.hot m.dim.1 m.dim.2
  { m with
    dim := dim
    shutdownCount :=
      match z.board.hot with
      | none => 0
      | some h => if p.tshut ≤ h then count255 m.shutdownCount else 0
    pathDim := if dim.1 = m.dim.1 then m.pathDim else dim.1 }

theorem State.sendRequestsAndDim_cycleMarks (before after : Thermal) (s : State) :
    (s.sendRequestsAndDim before after).cycleMarks =
      { s.cycleMarks with
        pathDim := if after.heatDim = before.heatDim then s.path.heatDim else after.heatDim } := by
  have hchoices (u : State) (n : Nat) : ({ u with choices := n } : State).cycleMarks = u.cycleMarks := rfl
  have hpath : (s.sendRequests before after).path.heatDim = s.path.heatDim :=
    congrArg CycleMarks.pathDim (s.sendRequests_cycleMarks before after)
  obtain ⟨c, h | h⟩ := s.sendRequestsAndDim_cases before after
  · rw [h, hchoices, State.sendHeatDim_cycleMarks, State.sendRequests_cycleMarks, hpath]
  · rw [h, hchoices, State.sendRequests_cycleMarks, State.sendHeatDim_cycleMarks]

theorem State.thermalZones_cycleMarks (z : PerZone ZoneReport) (s : State) :
    (s.thermalZones z).cycleMarks = s.cycleMarks.afterZones s.params z := by
  simp only [State.thermalZones, State.sendFilter_cycleMarks, State.sendBlind_cycleMarks,
    State.sendRequestsAndDim_cycleMarks, State.sendWarn_cycleMarks]
  have hpath : ((s.onThermal (fun _ => s.thermal.judge s.params z.board z.display)).sendWarn s.thermal
      (s.thermal.judge s.params z.board z.display) z.board).path = s.path := by simp
  rw [hpath]
  rfl

theorem State.zonesEvaluated_cycleMarks (z : PerZone ZoneReport) (s : State) :
    (s.zonesEvaluated z).cycleMarks = s.cycleMarks.afterZones s.params z := by
  have hchoices (u : State) (n : Nat) : ({ u with choices := n } : State).cycleMarks = u.cycleMarks := rfl
  have hlast (u : State) (hu : u.cycleMarks = s.cycleMarks) (ht : u.tables = s.tables) :
      (u.thermalZones z).cycleMarks = s.cycleMarks.afterZones s.params z := by
    rw [State.thermalZones_cycleMarks, hu, State.params, ht]
  have hfirst := hlast ((s.pathZones z).sequencerZones z) (by simp) (by simp)
  have hsecond := hlast (s.pathZones z) (by simp) (by simp)
  rw [← State.sequencerZones_cycleMarks z] at hsecond
  unfold State.zonesEvaluated eitherOrder
  split
  · obtain h | h | h := (s.pathZones z).oneOf_cases (((s.pathZones z).sequencerZones z).thermalZones z)
      (((s.pathZones z).thermalZones z).sequencerZones z) <;> rw [h]
    exacts [hfirst, hfirst, hsecond]
  · exact hlast _ (by simp) (by simp)

/-! ## Up to the report (R19) -/

/-- The state at a cycle's last conversion when the Heating Controller has evaluated the zones and sends the results
(R14, R19, R41). -/
def State.evaluated (s : State) (ch : Fin 8) (code : BitVec 12) : State :=
  let u := (s.convert ch code).onMeas (Meas.advance ch)
  (u.onThermal (fun t => { t with air := u.meas.samples[5].reading })).evaluateZones

@[simp] theorem State.evaluated_keeps (s : State) (ch : Fin 8) (code : BitVec 12) :
    (s.evaluated ch code).held = s.held ∧ (s.evaluated ch code).clockMs = s.clockMs ∧
      (s.evaluated ch code).tables = s.tables ∧ (s.evaluated ch code).power = s.power ∧
      (s.evaluated ch code).sys = s.sys ∧ (s.evaluated ch code).disp = s.disp ∧
      (s.evaluated ch code).switch = s.switch ∧ (s.evaluated ch code).path = s.path := by
  simp [State.evaluated]

theorem State.evaluated_heat (s : State) (ch : Fin 8) (code : BitVec 12) :
    (s.evaluated ch code).heat = s.heat.evaluate s.tables (s.evaluated ch code).meas.samples := by
  simp [State.evaluated, State.evaluateZones_heat]

theorem State.evaluated_thermal (s : State) (ch : Fin 8) (code : BitVec 12) :
    ∃ air, (s.evaluated ch code).thermal = { s.thermal with air := air } := by
  simp [State.evaluated]

theorem State.convert_replyEnded (s : State) (ch : Fin 8) (code : BitVec 12) :
    (s.convert ch code).mgmt.replyEnded = s.mgmt.replyEnded := by
  simp only [State.convert, State.reportIf]
  (repeat' split) <;> rfl

/-- The flags that the evaluation reports end no reply. -/
theorem State.evaluated_mgmt (s : State) (ch : Fin 8) (code : BitVec 12) :
    (s.evaluated ch code).mgmt.pendingSoft = s.mgmt.pendingSoft ∧
      (s.evaluated ch code).mgmt.replyEnded = s.mgmt.replyEnded := by
  rw [← s.convert_pendingSoft ch code, ← s.convert_replyEnded ch code]
  simp only [State.evaluated, State.evaluateZones, State.reportIf]
  split <;> exact ⟨rfl, rfl⟩

/-- A change of the brownout condition is reported (R26). -/
theorem State.evaluated_brownout {s : State} {ch : Fin 8} {code : BitVec 12}
    (h : (s.evaluated ch code).heat.brownout ≠ s.heat.brownout) :
    (s.evaluated ch code).mgmt.hasFlag .brownout = true := by
  have hflag (u : State) : u.evaluateZones.heat.brownout ≠ u.heat.brownout →
      u.evaluateZones.mgmt.hasFlag .brownout = true := by
    intro hne
    rw [State.evaluateZones_heat] at hne
    have hchanged : ((brownoutStep u.params u.meas.samples[6].reading u.heat.brownout u.heat.supplyCount).1
        != u.heat.brownout) = true := bne_iff_ne.mpr hne
    simp [State.evaluateZones, State.reportIf, hchanged, State.report, Mgmt.report_hasFlag]
  exact hflag _ (by simpa [State.evaluated] using h)

/-- The end of a step with no soft reset pending: the rates of the ports at most, and the marks of the step. -/
theorem State.finish_keeps_of_no_soft {s : State} (hp : s.mgmt.pendingSoft = false) :
    s.finish.heat = s.heat ∧ s.finish.power = s.power ∧ s.finish.path = s.path ∧ s.finish.switch = s.switch ∧
      s.finish.tables = s.tables ∧ s.finish.thermal = s.thermal ∧ s.finish.disp.tx = s.disp.tx := by
  have htx : s.applyRateChange.disp.tx = s.disp.tx := by
    unfold State.applyRateChange
    split
    · rfl
    next port _ _ => cases port <;> simp [State.applyRate_system, State.applyRate_display]
  unfold State.finish State.replyEndTaken
  by_cases h : s.mgmt.replyEnded = true <;> simp [h, hp, htx]

theorem State.finish_cycleMarks {s : State} (hp : s.mgmt.pendingSoft = false) : s.finish.cycleMarks = s.cycleMarks := by
  obtain ⟨heat, -, path, -, -, thermal, -⟩ := State.finish_keeps_of_no_soft hp
  simp only [State.cycleMarks, heat, path, thermal, State.finish_hasFlag hp]

/-- The command that completes a cycle's last conversion sends the evaluation's results and ends the step, with no soft
reset pending. -/
theorem State.perform_cycleEnd {s : State} (hs : s.Quiet) {ch : Fin 8} (hn : s.meas.next = some ch)
    (hl : s.meas.lastChannel.val ≤ ch.val) (code : BitVec 12) :
    let v := s.evaluated ch code
    s.perform (State.conversionDone code) = (v.zonesEvaluated v.zoneReports).finish ∧
      (v.zonesEvaluated v.zoneReports).mgmt.pendingSoft = false ∧
      (s.perform (State.conversionDone code)).meas.samples = v.meas.samples := by
  intro v
  obtain ⟨⟨hheld, -⟩, hp⟩ := hs
  have hdone : s.perform (State.conversionDone code) = (v.zonesEvaluated v.zoneReports).finish := by
    rw [State.perform_of_running _ hheld, State.conversionDone_of_next hn, if_neg (by omega)]
    rfl
  refine ⟨hdone, ?_, ?_⟩
  · exact (Mgmt.conversionMarks_eq_iff.mp (v.zonesEvaluated_conversionMarks v.zoneReports)).2.trans
      ((s.evaluated_mgmt ch code).1.trans hp)
  · obtain ⟨c, hc, -⟩ := (v.zonesEvaluated v.zoneReports).finish_meas
    rw [hdone, hc]
    simp

/-- What the evaluation judged is what stands after the command, with the marks as the monitor judged them. -/
theorem State.perform_cycleEnd_marks {s : State} (hs : s.Quiet) {ch : Fin 8} (hn : s.meas.next = some ch)
    (hl : s.meas.lastChannel.val ≤ ch.val) (code : BitVec 12) :
    let v := s.evaluated ch code
    (s.perform (State.conversionDone code)).cycleMarks = v.cycleMarks.afterZones s.params v.zoneReports := by
  obtain ⟨hdone, hp, -⟩ := State.perform_cycleEnd hs hn hl code
  intro v
  have hparams : v.params = s.params := congrArg Tables.params (s.evaluated_keeps ch code).2.2.1
  rw [hdone, State.finish_cycleMarks hp, State.zonesEvaluated_cycleMarks, hparams]

end Sys2Proof.Machine
end


section
/-! PROOF. The supply at the cycle's last conversion (R25, R26). -/

namespace Sys2Proof.Machine

/-! ## The supply (R25, R26) -/

theorem Heat.evaluate_supply (t : Tables) (samples : Vector Sample 8) (h : Heat) :
    let b := brownoutStep t.params samples[6].reading h.brownout h.supplyCount
    (h.evaluate t samples).supplyCut = supplyCutFor t.params samples[6].reading ∧
      (h.evaluate t samples).brownout = b.1 ∧ (h.evaluate t samples).supplyCount = b.2 := ⟨rfl, rfl, rfl⟩

/-- What is judged of the supply at the cycle's last conversion is what stands after it, and a change is flagged. -/
theorem State.perform_cycleEnd_supply {s : State} (hs : s.Quiet) {ch : Fin 8} (hn : s.meas.next = some ch)
    (hl : s.meas.lastChannel.val ≤ ch.val) (code : BitVec 12) :
    let t := s.perform (State.conversionDone code)
    t.heat.supplyCut = supplyCutFor s.params t.meas.samples[6].usableValue ∧
      (t.heat.brownout, t.heat.supplyCount) =
        brownoutStep s.params t.meas.samples[6].usableValue s.heat.brownout s.heat.supplyCount ∧
      (t.heat.brownout ≠ s.heat.brownout → t.mgmt.hasFlag .brownout = true) := by
  obtain ⟨-, -, hsamples⟩ := State.perform_cycleEnd hs hn hl code
  have hmarks := State.perform_cycleEnd_marks hs hn hl code
  have hheat := s.evaluated_heat ch code
  have hflag := State.evaluated_brownout (s := s) (ch := ch) (code := code)
  intro t
  obtain ⟨hcut, hbrownout, hcount⟩ := Heat.evaluate_supply s.tables (s.evaluated ch code).meas.samples s.heat
  rw [← hheat, ← hsamples, Sample.reading_eq_usableValue] at hcut hbrownout hcount
  have hcut' : t.heat.supplyCut = (s.evaluated ch code).heat.supplyCut :=
    congrArg (fun m => m.heat.supplyCut) hmarks
  have hbrownout' : t.heat.brownout = (s.evaluated ch code).heat.brownout :=
    congrArg (fun m => m.heat.brownout) hmarks
  have hcount' : t.heat.supplyCount = (s.evaluated ch code).heat.supplyCount :=
    congrArg (fun m => m.heat.supplyCount) hmarks
  have hflag' : t.mgmt.hasFlag .brownout = (s.evaluated ch code).mgmt.hasFlag .brownout :=
    congrArg CycleMarks.brownoutFlag hmarks
  exact ⟨hcut'.trans hcut, Prod.ext (hbrownout'.trans hbrownout) (hcount'.trans hcount),
    fun hne => hflag'.trans (hflag (hbrownout' ▸ hne))⟩

end Sys2Proof.Machine

namespace Sys2Proof.Proofs

open Sys2Proof.Machine

/-- Settles O10: the supply cut and the brownout step by the cases of R26. -/
theorem cycleCompleteJudgesTheSupply : Obligations.CycleCompleteJudgesTheSupply := by
  intro s ch code hs hn hl
  refine ⟨s.perform (State.conversionDone code), rfl, ?_⟩
  obtain ⟨hcut, hstep, hflag⟩ := State.perform_cycleEnd_supply hs hn hl code
  generalize s.perform (State.conversionDone code) = t at hcut hstep hflag
  refine ⟨fun hnone => ?_, fun v hv => ?_, hflag⟩
  · rw [hnone] at hcut hstep
    obtain ⟨hb, hc⟩ := Prod.mk.inj hstep
    exact ⟨hcut, hb, hc⟩
  rw [hv] at hcut hstep
  refine ⟨hcut, fun hb hlow => ?_, fun hb hlow => ⟨fun hN => ?_, fun hN => ?_⟩,
    fun hb hlow => ⟨fun hN => ?_, fun hN => ?_⟩, fun hb hlow => ?_⟩
  · simpa [brownoutStep, hb, not_lt.mpr hlow] using hstep
  · simpa [brownoutStep, hb, hlow, count255, hN] using hstep
  · simpa [brownoutStep, hb, hlow, count255, not_le.mpr hN] using hstep
  · simpa [brownoutStep, hb, hlow, count255, hN] using hstep
  · simpa [brownoutStep, hb, hlow, count255, not_le.mpr hN] using hstep
  · simpa [brownoutStep, hb, not_le.mpr hlow] using hstep

end Sys2Proof.Proofs
end


section
/-! PROOF. The zones at the cycle's last conversion, and the allocation that stands after it by what the event does to the
power state (R19 to R23, R28 to R33). -/

namespace Sys2Proof.Machine

/-! ## One zone (R20 to R23) -/

/-- The accumulator of a zone that sees a cold value (R21). -/
theorem soakAfter_some (r : ZoneRecord) (c : Int) (soak : Nat) :
    (r.tstart ≤ c → (soakAfter r (some c) soak : Int) = min 65535 (soak + min (c - r.tstart + 4) 40)) ∧
      (c < r.tstart → r.tstart - r.hyst ≤ c → soakAfter r (some c) soak = soak) ∧
      (c < r.tstart - r.hyst → soakAfter r (some c) soak = soak / 2) := by
  unfold soakAfter
  refine ⟨fun h => ?_, fun h h' => ?_, fun h => ?_⟩
  · simp only [if_pos h]
    omega
  · simp only [if_neg (not_le.mpr h), if_pos h']
  · simp only [if_neg (by omega : ¬r.tstart ≤ c), if_neg (not_le.mpr h)]

/-- The duty request of a zone that sees its cold and hot values (R23). -/
theorem dutyRequest_some (r : ZoneRecord) (fallback : Nat) (c h : Int) :
    (r.tcut ≤ h ∨ r.thold ≤ c → dutyRequest r fallback (some c) (some h) = 0) ∧
      (h < r.tcut → c < r.thold →
        (dutyRequest r fallback (some c) (some h) : Int) = min 8 ((r.thold - c + r.band - 1) / r.band)) := by
  unfold dutyRequest
  refine ⟨fun hoff => ?_, fun hcut hhold => ?_⟩
  · by_cases hcut : r.tcut ≤ h
    · simp [hcut]
    · have hhold := hoff.resolve_left hcut
      simp [hcut, sub_nonpos.mpr hhold]
  · have hnonneg : 0 ≤ (r.thold - c + r.band - 1) / (r.band : Int) :=
      Int.ediv_nonneg (by omega) (Int.natCast_nonneg _)
    simp only [if_neg (not_le.mpr hcut), if_neg (by omega : ¬r.thold - c ≤ 0)]
    omega

/-- A zone as an evaluation by a record in force leaves it before the allocation (R18 to R23). -/
def ZoneState.evaluatedBy (samples : Vector Sample 8) (fallback : Nat) (r : ZoneRecord) (z : ZoneState) : ZoneState :=
  ZoneState.evaluate samples fallback { z with inForce := r }

theorem ZoneState.evaluatedBy_eq (samples : Vector Sample 8) (fallback : Nat) (r : ZoneRecord) (z : ZoneState) :
    z.evaluatedBy samples fallback r =
      { z with
        inForce := r, blind := (r.usableValues samples).isEmpty, cold := (r.usableValues samples).min?
        hot := (r.usableValues samples).max?, soak := soakAfter r (r.usableValues samples).min? z.soak
        request := dutyRequest r fallback (r.usableValues samples).min? (r.usableValues samples).max? } := by
  rw [← zoneReadings_eq_usableValues]
  rfl

/-- The Heating Controller as an evaluation judges it, before the allocation (R19, stages 1 to 3). -/
def Heat.judgedBy (t : Tables) (samples : Vector Sample 8) (h : Heat) : Heat :=
  ((h.takeRecords t).judgeSupply t.params samples[6].reading).judgeZones samples t.params.fallbackDuty

theorem Heat.evaluate_eq (t : Tables) (samples : Vector Sample 8) (h : Heat) :
    h.evaluate t samples = (h.judgedBy t samples).allocate t.params := rfl

theorem Heat.judgedBy_zone (t : Tables) (samples : Vector Sample 8) (h : Heat) (z : ZoneId) :
    (h.judgedBy t samples).zones.get z =
      (h.zones.get z).evaluatedBy samples t.params.fallbackDuty (t.zones.get z) := by
  cases z <;> rfl

/-! ## No grants (R29, R30) -/

/-- In HOT_OFF an allocation grants nothing (R29). -/
theorem Heat.allocate_noGrants {h : Heat} (hk : h.kept = .hotOff) (p : Params) : (h.allocate p).NoGrants := by
  intro z
  have hforced : h.forced z = true := (h.forced_iff z).mpr (.inr (.inl hk))
  rw [h.allocate_zone, if_pos hforced, ZoneState.handOver_eq]
  exact ⟨rfl, Nat.zero_min _⟩

theorem Heat.zeroGrants_noGrants (h : Heat) : h.zeroGrants.NoGrants := by
  intro z
  have hzone : h.zeroGrants.zones.get z = (h.zones.get z).handOver h.slot 0 := PerZone.get_map ..
  rw [hzone, ZoneState.handOver_eq]
  exact ⟨rfl, Nat.zero_min _⟩

/-- A report of HOT_OFF leaves no grant (R30). -/
theorem Heat.onReport_hotOff (h : Heat) : (h.onReport .hotOff).NoGrants := Heat.zeroGrants_noGrants _

/-- A report takes no grant up (R30). -/
theorem Heat.NoGrants.onReport {h : Heat} (hn : h.NoGrants) (st : PowerState) : (h.onReport st).NoGrants := by
  unfold Heat.onReport
  dsimp only
  split
  · exact Heat.zeroGrants_noGrants _
  · exact hn

theorem Heat.NoGrants.reserveRelease {h : Heat} (hn : h.NoGrants) : h.reserveRelease.NoGrants := by
  obtain hr | hr := h.reserveRelease_cases <;> rw [hr] <;> exact hn

theorem Heat.onReport_amounts (st : PowerState) (h : Heat) :
    (h.onReport st).budget = h.budget ∧ (h.onReport st).a8 = h.a8 := by
  unfold Heat.onReport
  dsimp only
  split <;> exact ⟨rfl, rfl⟩

theorem Heat.reserveRelease_amounts (h : Heat) :
    h.reserveRelease.budget = h.budget ∧ h.reserveRelease.a8 = h.a8 := by
  obtain hr | hr := h.reserveRelease_cases <;> rw [hr] <;> exact ⟨rfl, rfl⟩

/-- A transition leaves the budget and A8 (R30, R34). -/
theorem State.transition_amounts (t : Target) (cs : List (Cause × Option SlotField)) (s : State) :
    (s.transition t cs).heat.budget = s.heat.budget ∧ (s.transition t cs).heat.a8 = s.heat.a8 := by
  rw [State.transition_heat]
  split
  · rw [(Heat.onReport_amounts ..).1, (Heat.onReport_amounts ..).2]
    exact s.heat.reserveRelease_amounts
  · exact Heat.onReport_amounts ..

/-! ## What the monitor's requests do to the power state and the grants (R45, R46) -/

/-- What the monitor's requests of one event do in the Power Sequencer and the Heating Controller, by whether the
shutdown condition holds. -/
inductive State.Requested (shutdown : Bool) (w r : State) : Prop
  /-- Nothing is requested, or the state takes no request (R67). -/
  | kept (power : r.power = w.power) (heat : r.heat = w.heat)
      (takesNone : shutdown = true →
        w.power.state = .shutdown ∨ w.power.state = .hotOff ∨ w.power.state = .serviceHold)
  /-- A shutdown with a grace (R67). -/
  | grace (requested : shutdown = true) (left : w.power.state = .running) (entered : r.power.state = .shutdown)
      (heat : r.heat = { w.heat with kept := .shutdown })
  /-- A shutdown without one (R67, R68). -/
  | hotOff (requested : shutdown = true) (left : w.power.state ≠ .hotOff) (entered : r.power.state = .hotOff)
      (heat : r.heat.NoGrants) (amounts : r.heat.budget = w.heat.budget ∧ r.heat.a8 = w.heat.a8)
  /-- A resume (R72). -/
  | resume (left : w.power.state = .hotOff) (entered : r.power.state = .preheat ∨ r.power.state = .off)
      (heat : w.heat.NoGrants → r.heat.NoGrants)
      (amounts : r.heat.budget = w.heat.budget ∧ r.heat.a8 = w.heat.a8)

/-- Only the sequencer's and the Heating Controller's blocks are spoken of. -/
theorem State.Requested.congr {shutdown : Bool} {w w' r r' : State} (h : State.Requested shutdown w r)
    (hw : w'.power = w.power ∧ w'.heat = w.heat) (hr : r'.power = r.power ∧ r'.heat = r.heat) :
    State.Requested shutdown w' r' := by
  obtain ⟨hwp, hwh⟩ := hw
  obtain ⟨hrp, hrh⟩ := hr
  cases h with
  | kept power heat takesNone => exact .kept (by rw [hrp, hwp, power]) (by rw [hrh, hwh, heat]) (hwp ▸ takesNone)
  | grace requested left entered heat =>
    exact .grace requested (hwp ▸ left) (hrp ▸ entered) (by rw [hrh, hwh, heat])
  | hotOff requested left entered heat amounts =>
    exact .hotOff requested (hwp ▸ left) (hrp ▸ entered) (hrh ▸ heat) (hrh ▸ hwh ▸ amounts)
  | resume left entered heat amounts =>
    exact .resume (hwp ▸ left) (hrp ▸ entered) (hrh ▸ hwh ▸ heat) (hrh ▸ hwh ▸ amounts)

/-- HOT_OFF entered at the end of some transitions (R30). -/
theorem State.requested_hotOff {w u : State} (left : w.power.state ≠ .hotOff)
    (amounts : u.heat.budget = w.heat.budget ∧ u.heat.a8 = w.heat.a8) (cs : List (Cause × Option SlotField)) :
    State.Requested true w (u.transition toHotOff cs) := by
  obtain ⟨hbudget, ha8⟩ := u.transition_amounts toHotOff cs
  refine .hotOff rfl left (State.transition_state ..).1 ?_ ⟨hbudget.trans amounts.1, ha8.trans amounts.2⟩
  rw [State.transition_heat]
  exact Heat.onReport_hotOff _

/-- SHUTDOWN bound for HOT_OFF, ended at once where there is no grace (R67, R68). -/
theorem State.endIfNoGrace_hotOff (u : State) (hd : u.power.dest = some .hotOff) (g : Nat) :
    u.endIfNoGrace g = if g = 0 then u.transition toHotOff [] else u := by
  unfold State.endIfNoGrace State.endShutdown
  rw [hd]

/-- A shutdown request (R67). -/
theorem State.thermalShutdown_requested (w : State) : State.Requested true w w.thermalShutdown := by
  have entered (g : Nat) (cs : List (Cause × Option SlotField)) := w.transition_state (toShutdown .hotOff g) cs
  have amounts (g : Nat) (cs : List (Cause × Option SlotField)) := w.transition_amounts (toShutdown .hotOff g) cs
  have ended (left : w.power.state ≠ .hotOff) :
      State.Requested true w ((w.transition (toShutdown .hotOff 0) [(.thermal, none)]).endIfNoGrace 0) := by
    rw [State.endIfNoGrace_hotOff _ (entered 0 _).2.2, if_pos rfl]
    exact State.requested_hotOff left (amounts 0 _) []
  unfold State.thermalShutdown
  split
  next hst =>
    dsimp only
    rw [State.endIfNoGrace_hotOff (State.post _ _) (entered _ _).2.2]
    split
    next hg =>
      have hleft : w.power.state ≠ .hotOff := by rw [hst]; decide
      exact State.requested_hotOff hleft (by simpa using amounts _ _) []
    next hg =>
      have hheld : w.power.releases (toShutdown .hotOff w.params.shutdownGrace) = false := by
        simp [PowerSeq.releases, toShutdown, powerEnableIn]
      refine .grace rfl hst (entered _ _).1 ?_
      rw [(State.post_keeps ..).2.2.2.2.2.2.1, State.transition_heat, hheld]
      rfl
  next hst _ => exact State.requested_hotOff (by rw [hst]; decide) ⟨rfl, rfl⟩ _
  next hst _ => exact ended (by rw [hst]; decide)
  next hst => exact ended (by rw [hst]; decide)
  next hst => exact State.requested_hotOff (by rw [hst]; decide) ⟨rfl, rfl⟩ _
  next hst => exact State.requested_hotOff (by rw [hst]; decide) ⟨rfl, rfl⟩ _
  next hst => exact State.requested_hotOff (by rw [hst]; decide) ⟨rfl, rfl⟩ _
  next hst => exact .kept rfl rfl fun _ => .inl hst
  next hst => exact .kept rfl rfl fun _ => .inr (.inl hst)
  next hst => exact .kept rfl rfl fun _ => .inr (.inr hst)

/-- A resume signal in HOT_OFF (R72). -/
theorem State.thermalResume_requested {w : State} (hst : w.power.state = .hotOff) (shutdown : Bool) :
    State.Requested shutdown w w.thermalResume := by
  have resumed (g : Target) (hg : g.state = .preheat ∨ g.state = .off) :
      State.Requested shutdown w (w.transition g [(.thermalResume, none)]) := by
    refine .resume hst ((w.transition_state g _).1.symm ▸ hg) (fun hn => ?_) (w.transition_amounts g _)
    rw [State.transition_heat]
    split
    · exact hn.reserveRelease.onReport _
    · exact hn.onReport _
  unfold State.thermalResume
  rw [if_pos hst]
  split
  · exact resumed _ (.inl rfl)
  · exact resumed _ (.inr rfl)

/-- The requests of one event (R45, R46): in HOT_OFF a resume alone acts, and elsewhere a shutdown alone. -/
theorem State.sendRequests_requested {w : State} {before after : Thermal} (hk : before.kept = w.power.state) :
    State.Requested (after.sendsShutdown w.params) w (w.sendRequests before after) := by
  unfold State.sendRequests State.sendResume State.sendShutdown
  by_cases hst : w.power.state = .hotOff
  · have hnone : w.thermalShutdown = w := by simp [State.thermalShutdown, hst]
    have hsame : (if after.sendsShutdown w.params then w.thermalShutdown else w) = w := by rw [hnone, ite_self]
    rw [hsame]
    split
    · exact State.thermalResume_requested hst _
    · exact .kept rfl rfl fun _ => .inr (.inl hst)
  · rw [if_neg (fun h => hst (hk ▸ h.1))]
    split
    next h => exact h ▸ w.thermalShutdown_requested
    next h => exact .kept rfl rfl fun h' => absurd h' h

/-- The requests and heat-dim of one event, in either order (R154). -/
theorem State.sendRequestsAndDim_requested {w : State} {before after : Thermal} (hk : before.kept = w.power.state) :
    State.Requested (after.sendsShutdown w.params) w (w.sendRequestsAndDim before after) := by
  have hdimmed : (w.sendHeatDim before after).power = w.power ∧ (w.sendHeatDim before after).heat = w.heat := by simp
  obtain ⟨c, h | h⟩ := w.sendRequestsAndDim_cases before after <;> rw [h]
  · exact (State.sendRequests_requested hk).congr ⟨rfl, rfl⟩ (by simp)
  · have hsent := State.sendRequests_requested (w := w.sendHeatDim before after) (after := after)
      (hk.trans (congrArg PowerSeq.state hdimmed.1).symm)
    have hparams : (w.sendHeatDim before after).params = w.params := congrArg Tables.params (by simp)
    rw [hparams] at hsent
    exact hsent.congr ⟨hdimmed.1.symm, hdimmed.2.symm⟩ ⟨rfl, rfl⟩

/-- The shutdown condition of the event (R45). -/
def State.shutdownDue (z : PerZone ZoneReport) (s : State) : Bool :=
  (s.thermal.judge s.params z.board z.display).sendsShutdown s.params

/-- The state when the Thermal Limit Monitor, having judged, sends its requests (R42, R44). -/
def State.warned (z : PerZone ZoneReport) (s : State) : State :=
  let after := s.thermal.judge s.params z.board z.display
  (s.onThermal (fun _ => after)).sendWarn s.thermal after z.board

theorem State.thermalZones_eq (z : PerZone ZoneReport) (s : State) :
    s.thermalZones z =
      (((s.warned z).sendRequestsAndDim s.thermal (s.thermal.judge s.params z.board z.display)).sendBlind s.thermal
        z.board).sendFilter s.thermal (s.thermal.judge s.params z.board z.display) z.board := rfl

@[simp] theorem State.warned_keeps (z : PerZone ZoneReport) (s : State) :
    (s.warned z).clockMs = s.clockMs ∧ (s.warned z).tables = s.tables ∧ (s.warned z).heat = s.heat ∧
      (s.warned z).power = s.power ∧ (s.warned z).disp = s.disp ∧ (s.warned z).switch = s.switch ∧
      (s.warned z).path = s.path := by
  simp [State.warned]

theorem State.thermalZones_requested {w : State} (hk : w.thermal.kept = w.power.state) (z : PerZone ZoneReport) :
    State.Requested (w.shutdownDue z) w (w.thermalZones z) := by
  obtain ⟨-, htables, hheat, hpower, -⟩ := w.warned_keeps z
  have hsent := State.sendRequestsAndDim_requested (w := w.warned z)
    (after := w.thermal.judge w.params z.board z.display) (hk.trans (congrArg PowerSeq.state hpower).symm)
  rw [State.params, htables] at hsent
  exact hsent.congr ⟨hpower.symm, hheat.symm⟩ (by simp [State.thermalZones_eq])

/-! ## The event as a whole (R36, R57) -/

theorem State.pathZones_shutdownDue (z : PerZone ZoneReport) (s : State) :
    (s.pathZones z).shutdownDue z = s.shutdownDue z := by
  simp [State.shutdownDue, State.params]

/-- The reserve request of PREHEAT changes nothing that the shutdown condition depends on (R45, R57). -/
theorem State.enterReserve_shutdownDue (z : PerZone ZoneReport) (cs : List (Cause × Option SlotField)) (s : State) :
    (s.enterReserve cs).shutdownDue z = s.shutdownDue z := by
  have hthermal : (s.enterReserve cs).thermal = s.thermal.onReport .starting := s.transition_thermal toReserve cs
  have htables : (s.enterReserve cs).tables = s.tables := by simp
  unfold State.shutdownDue State.params
  rw [hthermal, htables]
  rfl

theorem State.enterReserve_power_state (cs : List (Cause × Option SlotField)) (s : State) :
    (s.enterReserve cs).power.state = .starting := (s.transition_state toReserve cs).1

/-- PREHEAT is left when every board-gate zone is warm (R57). -/
def State.leavesPreheat (z : PerZone ZoneReport) (s : State) : Bool :=
  decide (s.power.state = .preheat) && boardWarm z

theorem State.sequencerZones_of_leaves {z : PerZone ZoneReport} {s : State} (h : s.leavesPreheat z = true) :
    s.sequencerZones z = s.enterReserve [] := if_pos h

theorem State.sequencerZones_of_stays {z : PerZone ZoneReport} {s : State} (h : s.leavesPreheat z = false) :
    s.sequencerZones z = s := if_neg (by simpa [State.leavesPreheat] using h)

theorem State.Requested.of_start {w r : State} (h : State.Requested true w r)
    (hst : w.power.state = .preheat ∨ w.power.state = .starting) : r.power.state = .hotOff ∧ r.heat.NoGrants := by
  cases h with
  | kept power heat takesNone => obtain hst | hst := hst <;> simp [hst] at takesNone
  | grace requested left entered heat => obtain hst | hst := hst <;> simp [hst] at left
  | hotOff requested left entered heat amounts => exact ⟨entered, heat⟩
  | resume left entered heat amounts => obtain hst | hst := hst <;> simp [hst] at left

/-- With no shutdown requested nothing is, outside HOT_OFF (R45, R46). -/
theorem State.Requested.none {w r : State} (h : State.Requested false w r) (hst : w.power.state ≠ .hotOff) :
    r.power = w.power ∧ r.heat = w.heat := by
  cases h with
  | kept power heat takesNone => exact ⟨power, heat⟩
  | grace requested left entered heat => cases requested
  | hotOff requested left entered heat amounts => cases requested
  | resume left entered heat amounts => exact absurd left hst

theorem State.zonesEvaluated_stays {v : State} (hk : v.thermal.kept = v.power.state) {z : PerZone ZoneReport}
    (h : v.leavesPreheat z = false) : State.Requested (v.shutdownDue z) v (v.zonesEvaluated z) := by
  have horder : v.zonesOrderTells z = false := congrArg (· && v.shutdownDue z) h
  have hsent := State.thermalZones_requested (w := v.pathZones z) (by simpa using hk) z
  rw [State.pathZones_shutdownDue] at hsent
  simp only [State.zonesEvaluated, horder, State.sequencerZones_of_stays h]
  exact hsent.congr (by simp) ⟨rfl, rfl⟩

theorem State.reserveEntered_requested (z : PerZone ZoneReport) (v : State) :
    State.Requested (v.shutdownDue z) (v.enterReserve []) (((v.enterReserve []).pathZones z).thermalZones z) := by
  have hkept : (v.enterReserve []).thermal.kept = .starting :=
    congrArg Thermal.kept (v.transition_thermal toReserve [])
  have hsent := State.thermalZones_requested (w := (v.enterReserve []).pathZones z)
    (by simpa [State.enterReserve_power_state] using hkept) z
  rw [State.pathZones_shutdownDue, State.enterReserve_shutdownDue] at hsent
  exact hsent.congr (by simp) ⟨rfl, rfl⟩

/-- PREHEAT left for STARTING, phase RESERVE, with no shutdown requested (R57). -/
theorem State.zonesEvaluated_starts {v : State} {z : PerZone ZoneReport} (h : v.leavesPreheat z = true)
    (hs : v.shutdownDue z = false) : (v.zonesEvaluated z).power = (v.enterReserve []).power ∧
      (v.zonesEvaluated z).heat = (v.enterReserve []).heat := by
  have horder : v.zonesOrderTells z = false := (congrArg (v.leavesPreheat z && ·) hs).trans (Bool.and_false _)
  have hsent := v.reserveEntered_requested z
  rw [hs] at hsent
  simp only [State.zonesEvaluated, horder, State.sequencerZones_of_leaves h]
  exact hsent.none (by rw [State.enterReserve_power_state]; decide)

/-- Every board-gate zone warm and a shutdown requested on the same event: HOT_OFF, whichever recipient is first (R36,
R42). -/
theorem State.zonesEvaluated_hotOff {v : State} (hk : v.thermal.kept = v.power.state) {z : PerZone ZoneReport}
    (h : v.leavesPreheat z = true) (hs : v.shutdownDue z = true) :
    (v.zonesEvaluated z).power.state = .hotOff ∧ (v.zonesEvaluated z).heat.NoGrants := by
  have horder : v.zonesOrderTells z = true := (congrArg (v.leavesPreheat z && ·) hs).trans (by simp [h])
  have hpreheat : v.power.state = .preheat := of_decide_eq_true (Bool.and_eq_true_iff.mp h).1
  have hfirst : (((v.pathZones z).sequencerZones z).thermalZones z).power.state = .hotOff ∧
      (((v.pathZones z).sequencerZones z).thermalZones z).heat.NoGrants := by
    have hleaves : (v.pathZones z).leavesPreheat z = true := by simpa [State.leavesPreheat] using h
    rw [State.sequencerZones_of_leaves hleaves]
    have hkept : ((v.pathZones z).enterReserve []).thermal.kept = .starting :=
      congrArg Thermal.kept ((v.pathZones z).transition_thermal toReserve [])
    have hsent := State.thermalZones_requested (w := (v.pathZones z).enterReserve [])
      (hkept.trans (State.enterReserve_power_state ..).symm) z
    rw [State.enterReserve_shutdownDue, State.pathZones_shutdownDue, hs] at hsent
    exact hsent.of_start (.inr (State.enterReserve_power_state ..))
  have hsecond : (((v.pathZones z).thermalZones z).sequencerZones z).power.state = .hotOff ∧
      (((v.pathZones z).thermalZones z).sequencerZones z).heat.NoGrants := by
    have hsent := State.thermalZones_requested (w := v.pathZones z) (by simpa using hk) z
    rw [State.pathZones_shutdownDue, hs] at hsent
    have hoff := hsent.of_start (.inl (by simpa using hpreheat))
    rwa [State.sequencerZones_of_stays (by simp [State.leavesPreheat, hoff.1])]
  unfold State.zonesEvaluated eitherOrder
  rw [if_pos horder]
  obtain hc | hc | hc := (v.pathZones z).oneOf_cases (((v.pathZones z).sequencerZones z).thermalZones z)
    (((v.pathZones z).thermalZones z).sequencerZones z) <;> rw [hc]
  exacts [hfirst, hfirst, hsecond]

/-- The reserve request of PREHEAT allocates with the reserve held (R33). -/
theorem State.enterReserve_heat (cs : List (Cause × Option SlotField)) (s : State) :
    (s.enterReserve cs).heat = Heat.allocate s.params { s.heat with kept := .starting, reserveHeld := true } := by
  have hparams : (s.transition toReserve cs).params = s.params := congrArg Tables.params (by simp)
  have hheat : (s.enterReserve cs).heat = (s.transition toReserve cs).heat.reserveRequest s.params :=
    congrArg (fun u : State => u.heat) (rfl : s.enterReserve cs = (s.transition toReserve cs).onHeat _)
  rw [hheat, State.transition_heat]
  split
  · obtain hr | hr := s.heat.reserveRelease_cases <;> rw [hr] <;> rfl
  · rfl

/-! ## The allocation that stands (R19, R28) -/

/-- The allocation from the requests, told from what stands after the event: its zones with the grants, active grants
and outputs from before it. -/
def Heat.allocatedFrom (p : Params) (before after : Heat) : Heat :=
  let judged (z : ZoneId) : ZoneState :=
    { after.zones.get z with
      grant := (before.zones.get z).grant, active := (before.zones.get z).active
      output := (before.zones.get z).output }
  Heat.allocate p { before with
    heatWhileOff := p.heatWhileOff, supplyCut := after.supplyCut, brownout := after.brownout
    supplyCount := after.supplyCount
    zones := { board := judged .board, display := judged .display, front := judged .front } }

theorem Heat.evaluate_eq_allocatedFrom {t : Tables} {samples : Vector Sample 8} {h k : Heat}
    (hj : k.judged = (h.evaluate t samples).judged) : h.evaluate t samples = Heat.allocatedFrom t.params h k := by
  rw [h.evaluate_eq, Heat.allocate_judged] at hj
  have hzone (z : ZoneId) : (h.judgedBy t samples).zones.get z =
      { k.zones.get z with
        grant := (h.zones.get z).grant, active := (h.zones.get z).active, output := (h.zones.get z).output } := by
    rw [ZoneState.judged_with (Heat.judged_zone hj z), h.judgedBy_zone]
    rfl
  have hcut : k.supplyCut = (h.judgedBy t samples).supplyCut :=
    (congrArg Heat.supplyCut hj :)
  have hbrownout : k.brownout = (h.judgedBy t samples).brownout :=
    (congrArg Heat.brownout hj :)
  have hcount : k.supplyCount = (h.judgedBy t samples).supplyCount :=
    (congrArg Heat.supplyCount hj :)
  have hzones : (h.judgedBy t samples).zones = ⟨_, _, _⟩ :=
    congr (congr (congrArg PerZone.mk (hzone .board)) (hzone .display)) (hzone .front)
  rw [h.evaluate_eq, Heat.allocatedFrom, hcut, hbrownout, hcount, ← hzones]
  rfl

/-! ## The command as a whole -/

/-- A zone after the cycle's last conversion, as far as it is judged (R18 to R23). -/
theorem State.perform_cycleEnd_zone {s : State} (hs : s.Quiet) {ch : Fin 8} (hn : s.meas.next = some ch)
    (hl : s.meas.lastChannel.val ≤ ch.val) (code : BitVec 12) (z : ZoneId) :
    let t := s.perform (State.conversionDone code)
    (t.heat.zones.get z).judged = ((s.heat.zones.get z).evaluatedBy t.meas.samples s.params.fallbackDuty
      (s.tables.zones.get z)).judged := by
  obtain ⟨-, -, hsamples⟩ := State.perform_cycleEnd hs hn hl code
  have hj : (s.perform (State.conversionDone code)).heat.judged = (s.evaluated ch code).heat.judged :=
    congrArg CycleMarks.heat (State.perform_cycleEnd_marks hs hn hl code)
  intro t
  rw [Heat.judged_zone hj, s.evaluated_heat, Heat.evaluate_eq, Heat.judged_zone (Heat.allocate_judged ..),
    Heat.judgedBy_zone, ← hsamples]

/-- What the event does to the power state and the grants, by whether PREHEAT is left and a shutdown is requested on it
(R36, R42, R57). -/
theorem State.perform_cycleEnd_outcome {s : State} (hs : s.Quiet) (hk : s.KeptRight) {ch : Fin 8}
    (hn : s.meas.next = some ch) (hl : s.meas.lastChannel.val ≤ ch.val) (code : BitVec 12) :
    let v := s.evaluated ch code
    let t := s.perform (State.conversionDone code)
    (v.leavesPreheat v.zoneReports = false ∧ State.Requested (v.shutdownDue v.zoneReports) v t) ∨
      (v.leavesPreheat v.zoneReports = true ∧ v.shutdownDue v.zoneReports = false ∧
        t.power = (v.enterReserve []).power ∧
        t.heat = Heat.allocate s.params { v.heat with kept := .starting, reserveHeld := true }) ∨
      (v.leavesPreheat v.zoneReports = true ∧ v.shutdownDue v.zoneReports = true ∧ t.power.state = .hotOff ∧
        t.heat.NoGrants) := by
  obtain ⟨hdone, hsoft, -⟩ := State.perform_cycleEnd hs hn hl code
  obtain ⟨hheat, hpower, -⟩ := State.finish_keeps_of_no_soft hsoft
  rw [← hdone] at hheat hpower
  obtain ⟨-, -, htables, hvpower, -⟩ := s.evaluated_keeps ch code
  obtain ⟨air, hair⟩ := s.evaluated_thermal ch code
  intro v t
  have hvkept : v.thermal.kept = v.power.state :=
    (congrArg Thermal.kept hair).trans (hk.2.1.trans (congrArg PowerSeq.state hvpower).symm)
  cases hleaves : v.leavesPreheat v.zoneReports
  case false => exact .inl ⟨rfl, (State.zonesEvaluated_stays hvkept hleaves).congr ⟨rfl, rfl⟩ ⟨hpower, hheat⟩⟩
  case true =>
    cases hdue : v.shutdownDue v.zoneReports
    case false =>
      obtain ⟨hp, hh⟩ := State.zonesEvaluated_starts hleaves hdue
      rw [State.enterReserve_heat, State.params, htables] at hh
      exact .inr (.inl ⟨rfl, rfl, hpower.trans hp, hheat.trans hh⟩)
    case true =>
      obtain ⟨hoff, hnone⟩ := State.zonesEvaluated_hotOff hvkept hleaves hdue
      exact .inr (.inr ⟨rfl, rfl, hpower ▸ hoff, hheat ▸ hnone⟩)

/-- The allocation of the evaluation is what stands after the event, but where the power state changes on it (R30,
R33). -/
theorem State.perform_cycleEnd_heat {s : State} (hs : s.Quiet) (hk : s.KeptRight) {ch : Fin 8}
    (hn : s.meas.next = some ch) (hl : s.meas.lastChannel.val ≤ ch.val) (code : BitVec 12) :
    let allocated := (s.evaluated ch code).heat
    let t := s.perform (State.conversionDone code)
    (t.power.state = s.power.state → t.heat = allocated) ∧
      (s.power.state = .running → t.power.state = .shutdown → t.heat = { allocated with kept := .shutdown }) ∧
      (s.power.state = .preheat → t.power.state = .starting →
        t.heat = Heat.allocate s.params { allocated with kept := .starting, reserveHeld := true }) ∧
      (s.power.state = .hotOff ∨ t.power.state = .hotOff → t.heat.NoGrants) ∧
      (s.power.state ≠ .preheat → t.heat.budget = allocated.budget ∧ t.heat.a8 = allocated.a8) := by
  have hout := State.perform_cycleEnd_outcome hs hk hn hl code
  have hvpower := (s.evaluated_keeps ch code).2.2.2.1
  have hvnone : s.power.state = .hotOff → (s.evaluated ch code).heat.NoGrants := by
    rw [s.evaluated_heat, Heat.evaluate_eq]
    exact fun hst => Heat.allocate_noGrants (h := s.heat.judgedBy _ _) (hk.1.trans hst) _
  have hpreheat (h : (s.evaluated ch code).leavesPreheat (s.evaluated ch code).zoneReports = true) :
      s.power.state = .preheat := hvpower ▸ of_decide_eq_true (Bool.and_eq_true_iff.mp h).1
  intro allocated t
  change (_ ∧ State.Requested _ _ t) ∨ (_ ∧ _ ∧ t.power = _ ∧ t.heat = _) ∨
    (_ ∧ _ ∧ t.power.state = _ ∧ t.heat.NoGrants) at hout
  obtain ⟨-, hout⟩ | ⟨hleaves, -, hp, hh⟩ | ⟨hleaves, -, hoff, hnone⟩ := hout
  · cases hout with
    | kept power heat takesNone =>
      have hst : t.power.state = s.power.state := congrArg PowerSeq.state (power.trans hvpower)
      refine ⟨fun _ => heat, fun h h' => ?_, fun h h' => ?_, fun h => ?_, fun _ => ⟨?_, ?_⟩⟩
      · simp [hst, h] at h'
      · simp [hst, h] at h'
      · exact heat ▸ hvnone (by simpa [hst] using h)
      · exact congrArg Heat.budget heat
      · exact congrArg Heat.a8 heat
    | grace requested left entered heat =>
      rw [hvpower] at left
      simp [left, entered, heat, allocated]
    | hotOff requested left entered heat amounts =>
      rw [hvpower] at left
      exact ⟨fun h => absurd (h.symm.trans entered) left, fun _ h => by simp [entered] at h,
        fun _ h => by simp [entered] at h, fun _ => heat, fun _ => amounts⟩
    | resume left entered heat amounts =>
      rw [hvpower] at left
      refine ⟨fun h => ?_, fun h => by simp [left] at h, fun h => by simp [left] at h, fun _ => heat (hvnone left),
        fun _ => amounts⟩
      obtain hst | hst := entered <;> simp [left, hst] at h
  · have hst : t.power.state = .starting := hp ▸ State.enterReserve_power_state ..
    simp [hpreheat hleaves, hst, hh, allocated]
  · simpa [hpreheat hleaves, hoff] using hnone

end Sys2Proof.Machine

namespace Sys2Proof.Proofs

open Sys2Proof.Machine

/-- Settles O9: each zone by R20 to R23, and the allocation by the outcome of the event in the Power Sequencer. -/
theorem cycleCompleteEvaluatesTheZones : Obligations.CycleCompleteEvaluatesTheZones := by
  intro s ch code hs hn hl
  refine ⟨s.perform (State.conversionDone code), rfl, ?_, fun z => ?_, fun hk => ?_⟩
  · obtain ⟨⟨c, hmeas, -⟩, -⟩ := State.perform_lastConversion hs.1.1 hn code hl
    rw [hmeas]
  · have hzone := State.perform_cycleEnd_zone hs hn hl code z
    simp only [ZoneState.evaluatedBy_eq] at hzone
    intro r before after seen
    have inForce : after.inForce = r := (congrArg ZoneState.inForce hzone :)
    have blind : after.blind = seen.isEmpty := (congrArg ZoneState.blind hzone :)
    have cold : after.cold = seen.min? := (congrArg ZoneState.cold hzone :)
    have hot : after.hot = seen.max? := (congrArg ZoneState.hot hzone :)
    have soak : after.soak = soakAfter r seen.min? before.soak := (congrArg ZoneState.soak hzone :)
    have request : after.request = dutyRequest r s.params.fallbackDuty seen.min? seen.max? :=
      (congrArg ZoneState.request hzone :)
    refine ⟨inForce, by rw [blind, List.isEmpty_iff], cold, hot, fun c h hc hh => ?_, fun hb => ?_⟩
    · rw [soak, request, ← cold, ← hot, hc, hh]
      obtain ⟨hgain, hkeep, hhalve⟩ := soakAfter_some r c before.soak
      exact ⟨hgain, hkeep, hhalve, dutyRequest_some r s.params.fallbackDuty c h⟩
    · have hseen : seen = [] := List.isEmpty_iff.mp (blind ▸ hb)
      rw [soak, request, hseen]
      exact ⟨rfl, rfl⟩
  · have hj : (s.perform (State.conversionDone code)).heat.judged = (s.evaluated ch code).heat.judged :=
      congrArg CycleMarks.heat (State.perform_cycleEnd_marks hs hn hl code)
    have hheat := State.perform_cycleEnd_heat hs hk hn hl code
    rw [s.evaluated_heat] at hj
    rw [s.evaluated_heat, Heat.evaluate_eq_allocatedFrom hj] at hheat
    exact hheat

end Sys2Proof.Proofs
end


section
/-! PROOF. The power state and the display path at the cycle's last conversion (R36, R47, R57, R59, R155, R164). -/

namespace Sys2Proof.Machine

/-! ## What the zones report (R22, R36) -/

theorem State.zoneReports_get (s : State) (z : ZoneId) : s.zoneReports.get z =
    zoneReport (s.tables.zones.get z).soakTarget (s.heat.zones.get z) := PerZone.get_zip ..

/-- The reports hold nothing but what was judged (R36). -/
theorem State.zoneReports_of_judged {s t : State} (ht : t.tables = s.tables) (hj : t.heat.judged = s.heat.judged) :
    t.zoneReports = s.zoneReports := by
  refine PerZone.ext_get fun z => ?_
  rw [State.zoneReports_get, State.zoneReports_get, ht]
  exact (congrArg (zoneReport (s.tables.zones.get z).soakTarget) (Heat.judged_zone hj z) :)

theorem PerZone.toList_all {α : Type} (f : α → Bool) (p : PerZone α) :
    p.toList.all f = true ↔ ∀ z, f (p.get z) = true := by
  constructor
  · intro h z
    have hmem : p.get z ∈ p.toList := by cases z <;> simp [PerZone.get, PerZone.toList]
    exact List.all_eq_true.mp h _ hmem
  · intro h
    simp [PerZone.toList, show f p.board = true from h .board, show f p.display = true from h .display,
      show f p.front = true from h .front]

theorem boardWarm_iff (p : PerZone ZoneReport) :
    boardWarm p = true ↔ ∀ z, (p.get z).boardGate = true → (p.get z).warm = true := by
  simp only [boardWarm, PerZone.toList_all, Bool.or_eq_true, Bool.not_eq_true', ← Bool.not_eq_true, imp_iff_not_or]

theorem displayWarm_iff (p : PerZone ZoneReport) :
    displayWarm p = true ↔ ∀ z, (p.get z).displayGate = true → (p.get z).warm = true := by
  simp only [displayWarm, PerZone.toList_all, Bool.or_eq_true, Bool.not_eq_true', ← Bool.not_eq_true, imp_iff_not_or]

/-! ## The reserve request (R33, R57, R59) -/

/-- A grant handed over again changes nothing (R32). -/
theorem ZoneState.handOver_handOver (slot : Fin 8) (g : Nat) (z : ZoneState) :
    (z.handOver slot g).handOver slot g = z.handOver slot g := by
  simp [ZoneState.handOver_eq]

/-- An allocation made again changes nothing (R28, R32). -/
theorem Heat.allocate_allocate (p : Params) (h : Heat) : (h.allocate p).allocate p = h.allocate p := by
  have hserve : (h.allocate p).serve = h.serve := by
    funext acc z
    simp only [Heat.serve, h.allocate_zone, ZoneState.handOver_eq]
  have horder : (h.allocate p).order = h.order := by
    simp only [Heat.order, h.allocate_zone, ZoneState.handOver_eq]
  have hshare (a8 : Nat) : (h.allocate p).share a8 = h.share a8 := by
    rw [Heat.share, hserve, horder]
    rfl
  have havailable : (h.allocate p).available p = h.available p := rfl
  have hforced (z : ZoneId) : (h.allocate p).forced z = h.forced z := by
    have hcut : ((h.allocate p).zones.get z).cutOff = (h.zones.get z).cutOff := by
      simp only [ZoneState.cutOff, h.allocate_zone, ZoneState.handOver_eq]
    have hzero : (h.allocate p).allZero = h.allZero := rfl
    rw [Heat.forced, Heat.forced, hcut, hzero]
  have hzones : ((h.allocate p).allocate p).zones = (h.allocate p).zones := PerZone.ext_get fun z => by
    rw [Heat.allocate_zone, hforced, havailable, hshare, h.allocate_zone]
    exact ZoneState.handOver_handOver ..
  have ha8 : ((h.allocate p).allocate p).a8 = (h.allocate p).a8 := by
    rw [Heat.allocate_a8, havailable, hshare, h.allocate_a8]
  rw [Heat.allocate_frame, hzones, ha8]
  rfl

/-- The sequencer after a transition without a record (R55). -/
theorem State.transition_power (t : Target) (s : State) :
    (s.transition t []).power = PowerSeq.enter s.clockMs t (PowerSeq.setOutputs t s.power) := by
  by_cases h : s.power.releases t = true <;> simp [State.transition, State.makeRecords, h]

/-- The sequencer in STARTING, phase RESERVE, with no record made (R53, R55, R57). -/
theorem State.enterReserve_power (s : State) : (s.enterReserve []).power =
    { s.power with
      state := .starting, phase := some .reserve, dest := none, timer := none, boardPower := false
      resetAsserted := true, pgSeen := false } := by
  have hpower : (s.enterReserve []).power = (s.transition toReserve []).power := rfl
  rw [hpower, State.transition_power]
  simp [PowerSeq.setOutputs, PowerSeq.enter, toReserve, powerEnableIn, resetAssertedIn]

/-! ## The display path, its port and its counters -/

/-- What "zones evaluated" may move of the display: the path, the port and the counters of the injected frames. -/
def State.display (s : State) : DisplayPath × DispPort × Switch := (s.path, s.disp, s.switch)

/-- The display with the path's copy of heat-dim written (R164). -/
def withDim (d : Bool) (x : DisplayPath × DispPort × Switch) : DisplayPath × DispPort × Switch :=
  ({ x.1 with heatDim := d }, x.2)

/-- The path's copy of heat-dim set (R164). -/
def State.dimHeld (s : State) : State := { s with path := { s.path with heatDim := true } }

theorem State.displayRelease_display {s t : State} (h : t.display = s.display) :
    t.displayRelease.display = s.displayRelease.display := by
  obtain ⟨hpath, hrest⟩ := Prod.mk.inj h
  obtain ⟨hdisp, hswitch⟩ := Prod.mk.inj hrest
  unfold State.displayRelease
  rw [hpath, hdisp]
  split
  · simp [State.display, hpath, hdisp, hswitch]
  · exact h

/-- The path dims as the statements have it (R161 to R164). -/
theorem State.dim_display {s t : State} (htables : t.tables = s.tables) (h : t.display = s.display) :
    t.dim.displayRelease.display = s.dims.display := by
  obtain ⟨hpath, hrest⟩ := Prod.mk.inj h
  obtain ⟨hdisp, hswitch⟩ := Prod.mk.inj hrest
  refine State.displayRelease_display ?_
  unfold State.dim State.inject State.injected
  rw [htables]
  split
  · simp [State.display, hpath, hdisp, hswitch, State.placeFrame]
  · simp [State.display, hpath, hdisp, hswitch]

/-- Heat-dim turned on or off by an event (R47, R164): its copy is written, and an OPEN path dims as it turns on. -/
theorem State.sendHeatDim_display (before after : Thermal) (s : State) :
    let dim := if after.heatDim = before.heatDim then s.path.heatDim else after.heatDim
    (s.path.state = .opened → before.heatDim = false → after.heatDim = true →
      (s.sendHeatDim before after).display = s.dimHeld.dims.display) ∧
    (s.path.state ≠ .opened ∨ before.heatDim = true ∨ after.heatDim = false →
      (s.sendHeatDim before after).display = withDim dim s.display) := by
  refine ⟨fun hst hb ha => ?_, fun h => ?_⟩
  · simp only [State.sendHeatDim, ha, hb, State.heatDimOn]
    rw [if_pos (by decide)]
    show State.display (if s.path.state = .opened then _ else _) = _
    rw [if_pos hst]
    exact State.dim_display (s := s.dimHeld) rfl rfl
  · unfold State.sendHeatDim
    cases ha : after.heatDim <;> cases hb : before.heatDim
    case true.false =>
      have hst : s.path.state ≠ .opened := by simpa [ha, hb] using h
      simp only [State.heatDimOn]
      rw [if_pos (by decide)]
      show State.display (if s.path.state = .opened then _ else _) = _
      rw [if_neg hst]
      rfl
    all_goals rfl

/-! ## A display without power (R53, R154) -/

theorem State.transition_boardPower (t : Target) (cs : List (Cause × Option SlotField)) (s : State) :
    (s.transition t cs).power.boardPower = powerEnableIn t.state t.phase := by
  by_cases h : s.power.releases t = true <;>
    simp [State.transition, State.makeRecords, h, PowerSeq.enter, PowerSeq.record_foldl_boardPower, PowerSeq.setOutputs]

/-- A transition that leaves board power off leaves the display (R154). -/
theorem State.transition_display {s : State} {t : Target} (hb : s.power.boardPower = false)
    (ht : powerEnableIn t.state t.phase = false) (cs : List (Cause × Option SlotField)) :
    (s.transition t cs).display = s.display := by
  obtain ⟨h, p, he⟩ := s.transition_eq_report t cs
  have hp : p.boardPower = false := by
    have hpower := congrArg (fun u : State => u.power.boardPower) he
    rw [State.transition_boardPower, ht] at hpower
    simpa using hpower.symm
  simp [he, hb, hp, State.display, State.reportPower, State.pathReport]

/-- The states of a board without power in which the monitor's requests do not turn it on (R67, R72). -/
def PowerSeq.Dark (p : PowerSeq) : Prop :=
  p.boardPower = false ∧ (p.state = .preheat ∨ p.state = .hotOff ∨ p.state = .off ∨
    (p.state = .starting ∧ p.phase = some .reserve))

/-- A part with its board dark and its display path OFF, whose display is a given one but for the copy of heat-dim. -/
structure State.Dark (x : DisplayPath × DispPort × Switch) (w : State) : Prop where
  power : w.power.Dark
  off : w.path.state = .off
  display : w.display = withDim w.path.heatDim x

namespace State.Dark

variable {x : DisplayPath × DispPort × Switch} {w : State}

theorem of_keeps (h : w.Dark x) {r : State} (hp : r.power = w.power) (hd : r.display = w.display) : r.Dark x := by
  have hpath : r.path = w.path := congrArg Prod.fst hd
  exact ⟨hp ▸ h.power, hpath ▸ h.off, hpath ▸ hd.trans h.display⟩

theorem transition (h : w.Dark x) {t : Target} (ht : t = toHotOff ∨ t.state = .preheat ∨ t = toOff ∨ t = toReserve)
    (cs : List (Cause × Option SlotField)) : (w.transition t cs).Dark x := by
  have henable : powerEnableIn t.state t.phase = false := by
    obtain rfl | ht | rfl | rfl := ht
    · rfl
    · rw [ht]; rfl
    · rfl
    · rfl
  have hd := State.transition_display h.power.1 henable cs
  have hpath : (w.transition t cs).path = w.path := congrArg Prod.fst hd
  obtain ⟨hstate, hphase, -⟩ := w.transition_state t cs
  refine ⟨⟨(w.transition_boardPower t cs).trans henable, ?_⟩, hpath ▸ h.off, hpath ▸ hd.trans h.display⟩
  rw [hstate, hphase]
  obtain rfl | ht | rfl | rfl := ht
  · exact .inr (.inl rfl)
  · exact .inl ht
  · exact .inr (.inr (.inl rfl))
  · exact .inr (.inr (.inr ⟨rfl, rfl⟩))

theorem thermalShutdown (h : w.Dark x) : w.thermalShutdown.Dark x := by
  unfold State.thermalShutdown
  obtain hst | hst | hst | ⟨hst, hph⟩ := h.power.2
  · simpa only [hst] using h.transition (.inl rfl) _
  · simpa only [hst] using h
  · simpa only [hst] using h.transition (.inl rfl) _
  · simpa only [hst, hph] using h.transition (.inl rfl) _

theorem thermalResume (h : w.Dark x) : w.thermalResume.Dark x := by
  unfold State.thermalResume
  split
  · split
    · exact h.transition (.inr (.inl rfl)) _
    · exact h.transition (.inr (.inr (.inl rfl))) _
  · exact h

theorem sendRequests (h : w.Dark x) (before after : Thermal) : (w.sendRequests before after).Dark x := by
  have hshutdown : (w.sendShutdown after).Dark x := by
    unfold State.sendShutdown
    split
    · exact h.thermalShutdown
    · exact h
  unfold State.sendRequests State.sendResume
  split
  · exact hshutdown.thermalResume
  · exact hshutdown

theorem sendHeatDim (h : w.Dark x) (before after : Thermal) : (w.sendHeatDim before after).Dark x := by
  have hd := (w.sendHeatDim_display before after).2 (.inl (by rw [h.off]; decide))
  generalize (if after.heatDim = before.heatDim then w.path.heatDim else after.heatDim) = d at hd
  have hpath : (w.sendHeatDim before after).path = { w.path with heatDim := d } := congrArg Prod.fst hd
  refine ⟨?_, by rw [hpath]; exact h.off, ?_⟩
  · rw [show (w.sendHeatDim before after).power = w.power by simp]
    exact h.power
  · rw [hd, h.display, hpath]
    rfl

theorem thermalZones (h : w.Dark x) (z : PerZone ZoneReport) : (w.thermalZones z).Dark x := by
  have hwarned : (w.warned z).Dark x := h.of_keeps (by simp) (by simp [State.display])
  have hsent (before after : Thermal) : ((w.warned z).sendRequestsAndDim before after).Dark x := by
    obtain ⟨c, hc | hc⟩ := (w.warned z).sendRequestsAndDim_cases before after <;> rw [hc]
    · exact ((hwarned.sendRequests before after).sendHeatDim before after).of_keeps rfl rfl
    · exact ((hwarned.sendHeatDim before after).sendRequests before after).of_keeps rfl rfl
  rw [State.thermalZones_eq]
  exact (hsent w.thermal (w.thermal.judge w.params z.board z.display)).of_keeps (by simp) (by simp [State.display])

theorem sequencerZones (h : w.Dark x) (z : PerZone ZoneReport) : (w.sequencerZones z).Dark x := by
  unfold State.sequencerZones
  split
  · exact (h.transition (.inr (.inr (.inr rfl))) []).of_keeps (r := w.enterReserve []) rfl rfl
  · exact h

theorem pathZones (h : w.Dark x) (z : PerZone ZoneReport) : (w.pathZones z).Dark x := by
  unfold State.pathZones
  rw [if_neg (by simp [h.off])]
  exact h

theorem zonesEvaluated (h : w.Dark x) (z : PerZone ZoneReport) : (w.zonesEvaluated z).Dark x := by
  unfold State.zonesEvaluated eitherOrder
  split
  · obtain hc | hc | hc := (w.pathZones z).oneOf_cases (((w.pathZones z).sequencerZones z).thermalZones z)
      (((w.pathZones z).thermalZones z).sequencerZones z) <;> rw [hc]
    · exact ((h.pathZones z).sequencerZones z).thermalZones z
    · exact (((h.pathZones z).sequencerZones z).thermalZones z).of_keeps rfl rfl
    · exact (((h.pathZones z).thermalZones z).sequencerZones z).of_keeps rfl rfl
  · exact ((h.sequencerZones z).pathZones z).thermalZones z

end State.Dark

/-! ## An event without a request (R155, R164) -/

theorem State.sendHeatDim_replyEnded (before after : Thermal) (s : State) :
    (s.sendHeatDim before after).mgmt.replyEnded = s.mgmt.replyEnded := by
  simp only [State.sendHeatDim, State.heatDimOn, State.heatDimOff, State.dim, State.inject, State.placeFrame,
    State.reportIf]
  (repeat' split) <;> simp [State.report, Mgmt.report]

/-- With no shutdown due and the board not in HOT_OFF the monitor sends notices, flags and heat-dim alone (R42). -/
theorem State.thermalZones_no_request {w : State} {z : PerZone ZoneReport} (hk : w.thermal.kept ≠ .hotOff)
    (hs : w.shutdownDue z = false) :
    (w.thermalZones z).display =
        ((w.warned z).sendHeatDim w.thermal (w.thermal.judge w.params z.board z.display)).display ∧
      (w.thermalZones z).mgmt.replyEnded = w.mgmt.replyEnded := by
  have hparams : (w.warned z).params = w.params := congrArg Tables.params (w.warned_keeps z).2.1
  have hdue : (w.thermal.judge w.params z.board z.display).sendsShutdown (w.warned z).params = false := by
    rw [hparams]
    exact hs
  have hrequests : (w.warned z).sendRequests w.thermal (w.thermal.judge w.params z.board z.display) = w.warned z := by
    simp [State.sendRequests, State.sendShutdown, State.sendResume, hdue, hk]
  have hsent : (w.warned z).sendRequestsAndDim w.thermal (w.thermal.judge w.params z.board z.display) =
      (w.warned z).sendHeatDim w.thermal (w.thermal.judge w.params z.board z.display) := by
    simp [State.sendRequestsAndDim, State.dimOrderTells, hdue, hrequests]
  have hwarned : (w.warned z).mgmt.replyEnded = w.mgmt.replyEnded := by
    unfold State.warned State.sendWarn
    dsimp only
    (repeat' split) <;> rfl
  rw [State.thermalZones_eq, hsent]
  refine ⟨by simp [State.display], ?_⟩
  rw [← hwarned, ← (w.warned z).sendHeatDim_replyEnded w.thermal (w.thermal.judge w.params z.board z.display)]
  unfold State.sendFilter State.sendBlind
  (repeat' split) <;> rfl

theorem State.finish_display {s : State} (h : s.mgmt.replyEnded = false) : s.finish.display = s.display := by
  rw [State.finish_of_no_reply h]
  rfl

/-! ## The command as a whole -/

section

variable {s : State} {ch : Fin 8} (code : BitVec 12)

/-- Heat-dim of the monitor and of the path after the cycle's last conversion, and the reports that stand (R36, R47). -/
theorem State.perform_cycleEnd_dim (hs : s.Quiet) (hn : s.meas.next = some ch)
    (hl : s.meas.lastChannel.val ≤ ch.val) :
    let v := s.evaluated ch code
    let t := s.perform (State.conversionDone code)
    t.thermal.heatDim = (v.thermal.judge v.params v.zoneReports.board v.zoneReports.display).heatDim ∧
      t.path.heatDim = (if t.thermal.heatDim = s.thermal.heatDim then s.path.heatDim else t.thermal.heatDim) ∧
      (t.thermal.shutdownCount < s.params.persistence → v.shutdownDue v.zoneReports = false) ∧
      t.zoneReports = v.zoneReports := by
  have hmarks := State.perform_cycleEnd_marks hs hn hl code
  obtain ⟨hdone, hsoft, -⟩ := State.perform_cycleEnd hs hn hl code
  obtain ⟨-, -, -, -, htables, -⟩ := State.finish_keeps_of_no_soft hsoft
  obtain ⟨air, hair⟩ := s.evaluated_thermal ch code
  obtain ⟨-, -, hvtables, -, -, -, -, hvpath⟩ := s.evaluated_keeps ch code
  intro v t
  have hvparams : v.params = s.params := congrArg Tables.params hvtables
  have hvdim : v.thermal.heatDim = s.thermal.heatDim := (congrArg Thermal.heatDim hair :)
  have hdim : t.thermal.heatDim = (v.thermal.judge v.params v.zoneReports.board v.zoneReports.display).heatDim := by
    rw [hvparams]
    exact congrArg (fun m => m.dim.1) hmarks
  refine ⟨hdim, ?_, fun hcount => ?_, State.zoneReports_of_judged ?_ (congrArg CycleMarks.heat hmarks)⟩
  · rw [hdim, ← hvdim, ← hvpath, hvparams]
    exact congrArg CycleMarks.pathDim hmarks
  · have hnext : t.thermal.shutdownCount = v.thermal.shutdownNext s.params v.zoneReports.board.hot :=
      congrArg CycleMarks.shutdownCount hmarks
    rw [hnext, ← hvparams] at hcount
    exact decide_eq_false (not_le.mpr hcount)
  · rw [← hdone] at htables
    exact htables.trans (State.zonesEvaluated_keeps ..).2.2.1

/-- Without power on the board and with the path OFF the event writes the copy of heat-dim alone (R47, R164). -/
theorem State.perform_cycleEnd_dark (hs : s.Quiet) (hn : s.meas.next = some ch)
    (hl : s.meas.lastChannel.val ≤ ch.val) (hp : s.power.Dark) (hoff : s.path.state = .off) :
    let t := s.perform (State.conversionDone code)
    t.path = { s.path with heatDim := t.path.heatDim } ∧ t.disp.tx = s.disp.tx ∧ t.switch = s.switch := by
  obtain ⟨hdone, hsoft, -⟩ := State.perform_cycleEnd hs hn hl code
  obtain ⟨-, -, hpath, hswitch, -, -, htx⟩ := State.finish_keeps_of_no_soft hsoft
  rw [← hdone] at hpath hswitch htx
  obtain ⟨-, -, -, hvpower, -, hvdisp, hvswitch, hvpath⟩ := s.evaluated_keeps ch code
  have hdark : (s.evaluated ch code).Dark s.display :=
    ⟨hvpower ▸ hp, hvpath ▸ hoff, by simp only [State.display, hvpath, hvdisp, hvswitch]; rfl⟩
  obtain ⟨-, -, hdisplay⟩ := hdark.zonesEvaluated (s.evaluated ch code).zoneReports
  obtain ⟨hrpath, hrest⟩ := Prod.mk.inj hdisplay
  obtain ⟨hrdisp, hrswitch⟩ := Prod.mk.inj hrest
  intro t
  exact ⟨by rw [hpath]; exact hrpath, htx.trans (congrArg DispPort.tx hrdisp), hswitch.trans hrswitch⟩

/-- The path when the display-gate zones have been judged: WAIT_WARM ends when they are warm (R155, R156). -/
def DisplayPath.afterWarm (q : Params) (now : Nat) (warm : Bool) (p : DisplayPath) : DisplayPath :=
  if p.state = .waitWarm ∧ warm = true then p.started q now else p

theorem DisplayPath.afterWarm_heatDim (q : Params) (now : Nat) (warm : Bool) (p : DisplayPath) :
    (p.afterWarm q now warm).heatDim = p.heatDim := by
  unfold DisplayPath.afterWarm
  split <;> rfl

theorem DisplayPath.afterWarm_of_ne (q : Params) (now : Nat) (warm : Bool) {p : DisplayPath}
    (h : p.state ≠ .waitWarm) : p.afterWarm q now warm = p := if_neg (fun hw => h hw.1)

theorem DisplayPath.afterWarm_not_opened (q : Params) (now : Nat) (warm : Bool) {p : DisplayPath}
    (h : p.state ≠ .opened) : (p.afterWarm q now warm).state ≠ .opened := by
  unfold DisplayPath.afterWarm
  split
  · exact fun hs => by cases hs
  · exact h

theorem State.pathZones_evaluated (s : State) (ch : Fin 8) (z : PerZone ZoneReport) :
    ((s.evaluated ch code).pathZones z).display =
      (s.path.afterWarm s.params s.clockMs (displayWarm z), s.disp, s.switch) := by
  unfold State.pathZones DisplayPath.afterWarm
  by_cases h : s.path.state = .waitWarm ∧ displayWarm z = true
  · simp [State.display, h, State.enterStarting, State.timer, DisplayPath.started, State.params]
  · simp [State.display, h]

/-- The dimming of a path depends on the display and the tables alone (R161 to R164). -/
theorem State.dims_display {s t : State} (htables : t.tables = s.tables) (h : t.display = s.display) :
    t.dims.display = s.dims.display := (State.dim_display rfl rfl).symm.trans (State.dim_display htables h)

/-- Outside PREHEAT and HOT_OFF an event that requests nothing only sends heat-dim after the path's own part of it (R36,
R155, R164). -/
theorem State.perform_cycleEnd_sendsDim (hs : s.Quiet) (hk : s.KeptRight) (hn : s.meas.next = some ch)
    (hl : s.meas.lastChannel.val ≤ ch.val) (hpre : s.power.state ≠ .preheat) (hhot : s.power.state ≠ .hotOff)
    (hdue : (s.evaluated ch code).shutdownDue (s.evaluated ch code).zoneReports = false) :
    ∃ (w : State) (before after : Thermal), w.tables = s.tables ∧
      w.display = ((s.evaluated ch code).pathZones (s.evaluated ch code).zoneReports).display ∧
      before.heatDim = s.thermal.heatDim ∧
      after.heatDim = (s.perform (State.conversionDone code)).thermal.heatDim ∧
      (s.perform (State.conversionDone code)).display = (w.sendHeatDim before after).display := by
  obtain ⟨hdone, -, -⟩ := State.perform_cycleEnd hs hn hl code
  obtain ⟨hdim, -⟩ := State.perform_cycleEnd_dim code hs hn hl
  obtain ⟨-, -, hvtables, hvpower, -⟩ := s.evaluated_keeps ch code
  obtain ⟨air, hair⟩ := s.evaluated_thermal ch code
  have hended : (s.evaluated ch code).mgmt.replyEnded = false := (s.evaluated_mgmt ch code).2.trans hs.1.2.1
  rw [hdim, hdone]
  have hvkept : (s.evaluated ch code).thermal.kept ≠ .hotOff := by
    rw [hair]
    exact fun h => hhot (hk.2.1.symm.trans h)
  have hvdim : (s.evaluated ch code).thermal.heatDim = s.thermal.heatDim := (congrArg Thermal.heatDim hair :)
  have hvpre : (s.evaluated ch code).power.state ≠ .preheat := hvpower ▸ hpre
  generalize s.evaluated ch code = v at *
  have hstays : v.leavesPreheat v.zoneReports = false := by simp [State.leavesPreheat, hvpre]
  have horder : v.zonesOrderTells v.zoneReports = false := congrArg (· && v.shutdownDue v.zoneReports) hstays
  have hevent : v.zonesEvaluated v.zoneReports = (v.pathZones v.zoneReports).thermalZones v.zoneReports := by
    simp [State.zonesEvaluated, horder, State.sequencerZones_of_stays hstays]
  obtain ⟨hdisplay, hreply⟩ := State.thermalZones_no_request (w := v.pathZones v.zoneReports) (z := v.zoneReports)
    (by simpa using hvkept) (by rw [State.pathZones_shutdownDue]; exact hdue)
  have hfinish : (v.zonesEvaluated v.zoneReports).finish.display = (v.zonesEvaluated v.zoneReports).display :=
    State.finish_display (by rw [hevent, hreply]; simpa using hended)
  rw [hfinish, hevent, hdisplay]
  refine ⟨_, _, _, ?_, ?_, ?_, ?_, rfl⟩
  · simpa using hvtables
  · simp [State.display]
  · simpa using hvdim
  · simp [State.params]

/-- The display after an event that requests nothing, outside PREHEAT and HOT_OFF (R155, R156, R164). -/
theorem State.perform_cycleEnd_display (hs : s.Quiet) (hk : s.KeptRight) (hn : s.meas.next = some ch)
    (hl : s.meas.lastChannel.val ≤ ch.val) (hpre : s.power.state ≠ .preheat) (hhot : s.power.state ≠ .hotOff)
    (hdue : (s.evaluated ch code).shutdownDue (s.evaluated ch code).zoneReports = false) :
    let t := s.perform (State.conversionDone code)
    let dim := if t.thermal.heatDim = s.thermal.heatDim then s.path.heatDim else t.thermal.heatDim
    let warm := displayWarm (s.evaluated ch code).zoneReports
    (s.path.state = .opened → s.thermal.heatDim = false → t.thermal.heatDim = true →
      t.display = s.dimHeld.dims.display) ∧
    (s.path.state ≠ .opened ∨ s.thermal.heatDim = true ∨ t.thermal.heatDim = false →
      t.display = withDim dim (s.path.afterWarm s.params s.clockMs warm, s.disp, s.switch)) := by
  obtain ⟨w, before, after, htables, hw, hbefore, hafter, hdisplay⟩ :=
    State.perform_cycleEnd_sendsDim code hs hk hn hl hpre hhot hdue
  obtain ⟨hdims, hcopy⟩ := w.sendHeatDim_display before after
  rw [hbefore, hafter, ← hdisplay] at hdims hcopy
  rw [State.pathZones_evaluated] at hw
  generalize (s.evaluated ch code).zoneReports = z at hw
  have hwpath : w.path = s.path.afterWarm s.params s.clockMs (displayWarm z) := congrArg Prod.fst hw
  refine ⟨fun hopen hoff hon => ?_, fun hno => ?_⟩
  · rw [DisplayPath.afterWarm_of_ne _ _ _ (by simp [hopen])] at hw hwpath
    exact (hdims (hwpath ▸ hopen) hoff hon).trans (State.dims_display htables (congrArg (withDim true) hw))
  · rw [hw, hwpath, DisplayPath.afterWarm_heatDim] at hcopy
    exact hcopy (hno.imp_left (DisplayPath.afterWarm_not_opened _ _ _))

/-- PREHEAT on an event that requests nothing (R33, R57, R59). -/
theorem State.perform_cycleEnd_preheat (hs : s.Quiet) (hk : s.KeptRight) (hn : s.meas.next = some ch)
    (hl : s.meas.lastChannel.val ≤ ch.val) (hpre : s.power.state = .preheat)
    (hdue : (s.evaluated ch code).shutdownDue (s.evaluated ch code).zoneReports = false) :
    let t := s.perform (State.conversionDone code)
    (boardWarm (s.evaluated ch code).zoneReports = true →
      t.heat.reserveHeld = true ∧ t.heat.reserve = s.params.boardReserve ∧ Heat.allocate s.params t.heat = t.heat ∧
      t.power =
        { s.power with
          state := .starting, phase := some .reserve, dest := none, timer := none, boardPower := false
          resetAsserted := true, pgSeen := false }) ∧
    (boardWarm (s.evaluated ch code).zoneReports = false →
      t.power = s.power ∧ t.heat.reserveHeld = s.heat.reserveHeld) := by
  have hout := State.perform_cycleEnd_outcome hs hk hn hl code
  have hvpower := (s.evaluated_keeps ch code).2.2.2.1
  have hvheld : (s.evaluated ch code).heat.reserveHeld = s.heat.reserveHeld := by
    rw [s.evaluated_heat]
    rfl
  have hleaves : (s.evaluated ch code).leavesPreheat (s.evaluated ch code).zoneReports =
      boardWarm (s.evaluated ch code).zoneReports := by
    simp [State.leavesPreheat, hpre]
  simp only [hleaves, hdue] at hout
  generalize s.perform (State.conversionDone code) = t at hout
  intro t
  obtain ⟨hwarm, hout⟩ | ⟨hwarm, -, hpower, hheat⟩ | ⟨-, hfalse, -⟩ := hout
  · obtain ⟨hpower, hheat⟩ := hout.none (by rw [hvpower, hpre]; decide)
    exact ⟨fun h => by simp [hwarm] at h, fun _ => ⟨hpower.trans hvpower,
      (congrArg Heat.reserveHeld hheat).trans hvheld⟩⟩
  · refine ⟨fun _ => ⟨by rw [hheat]; rfl, by rw [hheat]; rfl, by rw [hheat, Heat.allocate_allocate], ?_⟩,
      fun h => by simp [hwarm] at h⟩
    rw [hpower, State.enterReserve_power, hvpower]
  · cases hfalse

/-- Outside PREHEAT and HOT_OFF an event that requests no shutdown leaves the sequencer (R45, R46, R57). -/
theorem State.perform_cycleEnd_power (hs : s.Quiet) (hk : s.KeptRight) (hn : s.meas.next = some ch)
    (hl : s.meas.lastChannel.val ≤ ch.val) (hpre : s.power.state ≠ .preheat) (hhot : s.power.state ≠ .hotOff)
    (hdue : (s.evaluated ch code).shutdownDue (s.evaluated ch code).zoneReports = false) :
    (s.perform (State.conversionDone code)).power = s.power := by
  have hvpower := (s.evaluated_keeps ch code).2.2.2.1
  have hstays : (s.evaluated ch code).leavesPreheat (s.evaluated ch code).zoneReports = false := by
    simp [State.leavesPreheat, hpre]
  obtain ⟨-, hout⟩ | ⟨h, -⟩ | ⟨h, -⟩ := State.perform_cycleEnd_outcome hs hk hn hl code
  · rw [hdue] at hout
    exact (hout.none (by rw [hvpower]; exact hhot)).1.trans hvpower
  · rw [hstays] at h
    cases h
  · rw [hstays] at h
    cases h

end

end Sys2Proof.Machine

namespace Sys2Proof.Proofs

open Sys2Proof.Machine

/-- Settles O14: the reports as they stand, the copy of heat-dim, a dark board's path, and by power state the reserve
request and the display path. -/
theorem zonesEvaluatedMoveTheStates : Obligations.ZonesEvaluatedMoveTheStates := by
  refine ⟨fun s z => s.zoneReports_get z, fun s ch code hs hk hn hl => ⟨s.perform (State.conversionDone code), rfl, ?_⟩⟩
  obtain ⟨-, hdim, hdue, hreports⟩ := State.perform_cycleEnd_dim code hs hn hl
  intro dim
  refine ⟨hdim, fun hst hb hoff => ?_, fun hcount => ?_⟩
  · have hdark : s.power.Dark := ⟨hb, hst.elim .inl (fun h => .inr (.inl h))⟩
    obtain ⟨hpath, htx, hswitch⟩ := State.perform_cycleEnd_dark code hs hn hl hdark hoff
    rw [hdim] at hpath
    exact ⟨hpath, htx, hswitch⟩
  have hnone := hdue hcount
  simp only [hreports, ← boardWarm_iff, ← displayWarm_iff, Bool.not_eq_true]
  refine ⟨fun hpre => State.perform_cycleEnd_preheat code hs hk hn hl hpre hnone, fun hpre hhot =>
    ⟨State.perform_cycleEnd_power code hs hk hn hl hpre hhot hnone, ?_⟩⟩
  obtain ⟨hdims, hcopy⟩ := State.perform_cycleEnd_display code hs hk hn hl hpre hhot hnone
  refine ⟨fun hwait => ⟨fun hwarm => ?_, fun hcold => ?_⟩, fun hopen hoff hon => ?_, fun hwait hno => ?_⟩
  · have hpath := congrArg Prod.fst (hcopy (.inl (by simp [hwait])))
    rwa [show s.path.afterWarm _ _ _ = _ from if_pos ⟨hwait, hwarm⟩] at hpath
  · have hpath := congrArg Prod.fst (hcopy (.inl (by simp [hwait])))
    rwa [show s.path.afterWarm _ _ _ = _ from if_neg (by simp [hcold])] at hpath
  · obtain ⟨hpath, hrest⟩ := Prod.mk.inj (hdims hopen hoff hon)
    obtain ⟨hdisp, hswitch⟩ := Prod.mk.inj hrest
    exact ⟨hpath, hdisp, hswitch⟩
  · rw [DisplayPath.afterWarm_of_ne _ _ _ hwait] at hcopy
    obtain ⟨hpath, hrest⟩ := Prod.mk.inj (hcopy hno)
    obtain ⟨hdisp, hswitch⟩ := Prod.mk.inj hrest
    exact ⟨hpath, hdisp, hswitch⟩

end Sys2Proof.Proofs
end


section
/-! PROOF. What the Thermal Limit Monitor sends at the cycle's last conversion: the sequencer's and the monitor's state
after its requests, and the notices and the flag that stand (R41 to R46, R55, R67, R72, R74, R175, R176). -/

namespace Sys2Proof.Machine

/-! ## The notice queue (R175, R176) -/

/-- What postings and reports read and write of the Management Unit. -/
def Mgmt.notices (m : Mgmt) : PowerState × BitVec 8 × List Notice := (m.kept, m.counter, m.queue)

theorem Mgmt.notices_eq_iff {m m' : Mgmt} :
    m.notices = m'.notices ↔ m.kept = m'.kept ∧ m.counter = m'.counter ∧ m.queue = m'.queue := by
  simp [Mgmt.notices]

theorem Mgmt.kept_of_notices {m m' : Mgmt} (h : m.notices = m'.notices) : m.kept = m'.kept := congrArg Prod.fst h

theorem Mgmt.post_notices {m m' : Mgmt} (h : m.notices = m'.notices) (c : NoticeContent) :
    (m.post c).notices = (m'.post c).notices := by
  obtain ⟨hkept, hcounter, hqueue⟩ := Mgmt.notices_eq_iff.mp h
  simp only [Mgmt.notices, Mgmt.post, hkept, hcounter, hqueue]

theorem PowerState.accepts_iff {st : PowerState} : st.accepts = true ↔ st = .running ∨ st = .shutdown := by
  cases st <;> simp [PowerState.accepts]

/-- A notice of this content waits, unless the kept power state accepts none. -/
def Mgmt.Holds (c : NoticeContent) (m : Mgmt) : Prop := m.kept.accepts = true → ∃ n ∈ m.queue, n.content = c

theorem Mgmt.Holds.of_notices {c : NoticeContent} {m m' : Mgmt} (h : m.Holds c) (he : m'.notices = m.notices) :
    m'.Holds c := by
  obtain ⟨hkept, -, hqueue⟩ := Mgmt.notices_eq_iff.mp he
  rw [Mgmt.Holds, hkept, hqueue]
  exact h

/-- A posted notice waits (R175). -/
theorem Mgmt.post_holds (c : NoticeContent) (m : Mgmt) : (m.post c).Holds c := by
  intro (hk : m.kept.accepts = true)
  simp only [Mgmt.post, hk, if_true]
  split
  next h =>
    obtain ⟨q, hq, hkind⟩ := List.any_eq_true.mp h
    exact ⟨_, List.mem_map.mpr ⟨q, hq, if_pos (of_decide_eq_true hkind)⟩, rfl⟩
  · exact ⟨_, List.mem_append_right _ (List.mem_singleton.mpr rfl), rfl⟩

/-- A posting of another kind takes no waiting notice away (R175). -/
theorem Mgmt.Holds.post {c d : NoticeContent} {m : Mgmt} (h : m.Holds c) (hkind : c.kind ≠ d.kind) :
    (m.post d).Holds c := by
  intro (hk : m.kept.accepts = true)
  obtain ⟨n, hn, rfl⟩ := h hk
  refine ⟨n, ?_, rfl⟩
  simp only [Mgmt.post, hk, if_true]
  split
  · exact List.mem_map.mpr ⟨n, hn, if_neg hkind⟩
  · exact List.mem_append_left _ hn

/-- A report to a unit that accepts notices takes none away, unless the state reported accepts none (R176). -/
theorem Mgmt.Holds.onReport {c : NoticeContent} {m : Mgmt} (h : m.Holds c) (hk : m.kept.accepts = true)
    (st : PowerState) : (m.onReport st).Holds c := by
  intro (hst : st.accepts = true)
  simpa only [Mgmt.onReport, hst, if_true] using h hk

theorem State.portReport_notices (s : State) : s.portReport.mgmt.notices = s.mgmt.notices := by
  have hdrop (u : State) : u.dropReply.mgmt.notices = u.mgmt.notices := by
    unfold State.dropReply
    split <;> rfl
  simp only [State.portReport, State.portDies]
  (repeat' split)
  exacts [rfl, rfl, hdrop (s.onSys _)]

/-- A transition reports its state to the Management Unit (R55, R176). -/
theorem State.transition_notices (t : Target) (cs : List (Cause × Option SlotField)) (s : State) :
    (s.transition t cs).mgmt.notices = (s.mgmt.onReport t.state).notices := by
  obtain ⟨h, p, he⟩ := s.transition_eq_report t cs
  have hp : p.state = t.state := by
    obtain ⟨hstate, -⟩ := s.transition_state t cs
    rw [he] at hstate
    simpa using hstate
  rw [he, State.reportPower, State.portReport_notices]
  simp [hp]

theorem State.placeFrame_notices (f : QueuedFrame) (s : State) : (s.placeFrame f).mgmt.notices = s.mgmt.notices := by
  unfold State.placeFrame State.reportIf
  split <;> rfl

/-- Heat-dim posts no notice (R47, R164). -/
theorem State.sendHeatDim_notices (before after : Thermal) (s : State) :
    (s.sendHeatDim before after).mgmt.notices = s.mgmt.notices := by
  have hinject (e : InjectEntry) (u : State) : (u.inject e).mgmt.notices = u.mgmt.notices := by
    unfold State.inject
    split
    · exact u.placeFrame_notices _
    · rfl
  have hrelease (u : State) : u.displayRelease.mgmt.notices = u.mgmt.notices := by
    unfold State.displayRelease
    split <;> rfl
  simp only [State.sendHeatDim, State.heatDimOn, State.heatDimOff, State.dim]
  (repeat' split)
  · rw [hrelease]
    exact hinject ..
  all_goals rfl

theorem State.finish_notices {s : State} (hp : s.mgmt.pendingSoft = false) :
    s.finish.mgmt.notices = s.mgmt.notices := by
  unfold State.finish State.replyEndTaken
  by_cases h : s.mgmt.replyEnded = true <;> simp [h, hp, Mgmt.notices]

/-- A conversion and an evaluation post no notice (R7, R8, R10, R26). -/
theorem State.evaluated_notices (s : State) (ch : Fin 8) (code : BitVec 12) :
    (s.evaluated ch code).mgmt.notices = s.mgmt.notices := by
  have hconvert : (s.convert ch code).mgmt.notices = s.mgmt.notices := by
    simp only [State.convert, State.reportIf]
    (repeat' split) <;> rfl
  rw [← hconvert]
  simp only [State.evaluated, State.evaluateZones, State.reportIf]
  split <;> rfl

/-! ## The flag (R44) -/

theorem State.sendRequests_sticky (before after : Thermal) (s : State) :
    (s.sendRequests before after).mgmt.sticky = s.mgmt.sticky := by
  have hend (g : Nat) (u : State) : (u.endIfNoGrace g).mgmt.sticky = u.mgmt.sticky := by
    unfold State.endIfNoGrace State.endShutdown
    (repeat' split) <;> simp only [State.transition_sticky]
  have hpost (c : NoticeContent) (u : State) : (u.post c).mgmt.sticky = u.mgmt.sticky := rfl
  have hshutdown : (s.sendShutdown after).mgmt.sticky = s.mgmt.sticky := by
    unfold State.sendShutdown State.thermalShutdown
    (repeat' split) <;> simp only [hend, hpost, State.transition_sticky]
  refine Eq.trans ?_ hshutdown
  unfold State.sendRequests State.sendResume State.thermalResume
  (repeat' split) <;> simp only [State.transition_sticky]

theorem State.sendHeatDim_hasFlag {f : StickyFlag} (hf : f ≠ .queueDiscard) (before after : Thermal) (s : State) :
    (s.sendHeatDim before after).mgmt.hasFlag f = s.mgmt.hasFlag f := by
  have hplace (q : QueuedFrame) (u : State) : (u.placeFrame q).mgmt.hasFlag f = u.mgmt.hasFlag f := by
    unfold State.placeFrame State.reportIf
    split
    · simp [State.report, Mgmt.report_hasFlag, hf]
    · rfl
  have hinject (e : InjectEntry) (u : State) : (u.inject e).mgmt.hasFlag f = u.mgmt.hasFlag f := by
    unfold State.inject
    split
    · exact hplace _ u
    · rfl
  have hrelease (u : State) : u.displayRelease.mgmt.hasFlag f = u.mgmt.hasFlag f := by
    unfold State.displayRelease
    split <;> rfl
  simp only [State.sendHeatDim, State.heatDimOn, State.heatDimOff, State.dim]
  (repeat' split)
  · rw [hrelease]
    exact hinject ..
  all_goals rfl

/-- Warn holding at or above Twarn: the flag on each event, and the notice where it was not held before (R44). -/
theorem State.warned_of_warn {z : PerZone ZoneReport} {w : State} {h : Int} (hhot : z.board.hot = some h)
    (hwarn : (w.thermal.judge w.params z.board z.display).warn = true) (hle : w.params.twarn ≤ h) :
    let u := w.onThermal (fun _ => w.thermal.judge w.params z.board z.display)
    w.warned z =
      (if w.thermal.warn then u else u.post (.thermalWarn false (some h) w.params.twarn)).report .thermalWarn := by
  simp only [State.warned, State.sendWarn, hhot]
  exact if_pos (by rw [hwarn]; exact decide_eq_true hle)

theorem State.warned_hasFlag {z : PerZone ZoneReport} {w : State} {h : Int} (hhot : z.board.hot = some h)
    (hwarn : (w.thermal.judge w.params z.board z.display).warn = true) (hle : w.params.twarn ≤ h) :
    (w.warned z).mgmt.hasFlag .thermalWarn = true := by
  rw [State.warned_of_warn hhot hwarn hle]
  simp [State.report, Mgmt.report_hasFlag]

theorem State.thermalZones_hasFlag {z : PerZone ZoneReport} {w : State} {f : StickyFlag} (hf : f ≠ .queueDiscard)
    (h : (w.warned z).mgmt.hasFlag f = true) : (w.thermalZones z).mgmt.hasFlag f = true := by
  have hrequests (before after : Thermal) (u : State) :
      (u.sendRequests before after).mgmt.hasFlag f = u.mgmt.hasFlag f := by
    rw [Mgmt.hasFlag, State.sendRequests_sticky, Mgmt.hasFlag]
  have hsent (before after : Thermal) : ((w.warned z).sendRequestsAndDim before after).mgmt.hasFlag f = true := by
    obtain ⟨c, hc | hc⟩ := (w.warned z).sendRequestsAndDim_cases before after <;> rw [hc, ← h]
    · exact (State.sendHeatDim_hasFlag hf ..).trans (hrequests ..)
    · exact (hrequests ..).trans (State.sendHeatDim_hasFlag hf ..)
  rw [State.thermalZones_eq, ← hsent w.thermal (w.thermal.judge w.params z.board z.display)]
  unfold State.sendFilter State.sendBlind
  (repeat' split) <;> rfl

/-! ## The monitor's state after reports (R41) -/

/-- The monitor's state after some reports, none of RUNNING, to a monitor as judged (R41). -/
structure Thermal.Reported (judged t : Thermal) : Prop where
  rest : t = { judged with kept := t.kept, filterCount := t.filterCount, resumeCount := t.resumeCount }
  outside : judged.kept ≠ .running → t.kept ≠ .running ∧ t.filterCount = judged.filterCount
  none : t.kept = .running → t = judged

theorem Thermal.Reported.refl (t : Thermal) : t.Reported t := ⟨rfl, fun h => ⟨h, rfl⟩, fun _ => rfl⟩

theorem Thermal.Reported.onReport {judged t : Thermal} (h : judged.Reported t) {st : PowerState}
    (hst : st ≠ .running) : judged.Reported (t.onReport st) := by
  refine ⟨?_, fun hk => ⟨hst, ?_⟩, fun hk => absurd hk hst⟩
  · conv_lhs => rw [h.rest]
    simp [Thermal.onReport, hst]
  · obtain ⟨htk, hcount⟩ := h.outside hk
    simp [Thermal.onReport, htk, hcount]

/-- The states that no judgement tells apart: in them the monitor judges neither the rise nor a resume and warns of no
blind board (R46, R48, R49). -/
structure PowerState.Idle (st : PowerState) : Prop where
  not_running : st ≠ .running
  not_hotOff : st ≠ .hotOff
  not_accepts : st.accepts = false

theorem Thermal.judge_kept {t : Thermal} (ht : t.kept.Idle) {k : PowerState} (hk : k.Idle) (p : Params)
    (board display : ZoneReport) :
    ({ t with kept := k } : Thermal).judge p board display = { t.judge p board display with kept := k } := by
  obtain ⟨ht1, ht2, ht3⟩ := ht
  obtain ⟨hk1, hk2, hk3⟩ := hk
  simp [Thermal.judge, Thermal.warnNext, Thermal.dimNext, Thermal.shutdownNext, Thermal.resumeNext, Thermal.blindNext,
    Thermal.filterNext, ht1, ht2, ht3, hk1, hk2, hk3]

theorem Thermal.Reported.of_kept {judged t : Thermal} {k : PowerState} (hk : k = judged.kept ∨ k.Idle)
    (h : ({ judged with kept := k } : Thermal).Reported t) : judged.Reported t := by
  obtain rfl | hk := hk
  · exact h
  · obtain ⟨hrunning, hcount⟩ := h.outside hk.not_running
    exact ⟨h.rest, fun _ => ⟨hrunning, hcount⟩, fun ht => absurd ht hrunning⟩

theorem State.transition_toShutdown_dest (g : Nat) (cs : List (Cause × Option SlotField)) (s : State) :
    (s.transition (toShutdown .hotOff g) cs).power.dest = some .hotOff := by
  obtain ⟨-, -, hdest⟩ := s.transition_state (toShutdown .hotOff g) cs
  exact hdest

theorem State.thermalShutdown_thermal (w : State) : w.thermal.Reported w.thermalShutdown.thermal := by
  have htransition {u : State} (h : w.thermal.Reported u.thermal) {g : Target} (hg : g.state ≠ .running)
      (cs : List (Cause × Option SlotField)) : w.thermal.Reported (u.transition g cs).thermal := by
    rw [State.transition_thermal]
    exact h.onReport hg
  have hrefl := Thermal.Reported.refl w.thermal
  have hgrace (g : Nat) := htransition (u := w) hrefl (g := toShutdown .hotOff g) nofun [(.thermal, none)]
  have hoff (cs : List (Cause × Option SlotField)) := htransition (u := w) hrefl (g := toHotOff) (by decide) cs
  have hend {u : State} (h : w.thermal.Reported u.thermal) (g : Nat) (hd : u.power.dest = some .hotOff) :
      w.thermal.Reported (u.endIfNoGrace g).thermal := by
    rw [State.endIfNoGrace_hotOff u hd]
    split
    · exact htransition h (by decide) []
    · exact h
  have hdest (g : Nat) := w.transition_toShutdown_dest g [(.thermal, none)]
  unfold State.thermalShutdown
  split
  · exact hend (u := State.post _ _) (hgrace _) _ (hdest _)
  · exact hoff _
  · exact hend (hgrace 0) 0 (hdest 0)
  · exact hend (hgrace 0) 0 (hdest 0)
  · exact hoff _
  · exact hoff _
  · exact hoff _
  · exact hrefl
  · exact hrefl
  · exact hrefl

/-- The monitor's requests report no state but SHUTDOWN, HOT_OFF, PREHEAT and OFF to it (R67, R72). -/
theorem State.sendRequests_thermal (before after : Thermal) (w : State) :
    w.thermal.Reported (w.sendRequests before after).thermal := by
  have hshutdown : w.thermal.Reported (w.sendShutdown after).thermal := by
    unfold State.sendShutdown
    split
    · exact w.thermalShutdown_thermal
    · exact .refl _
  unfold State.sendRequests State.sendResume State.thermalResume
  (repeat' split)
  · rw [State.transition_thermal]
    exact hshutdown.onReport nofun
  · rw [State.transition_thermal]
    exact hshutdown.onReport nofun
  · exact hshutdown
  · exact hshutdown

/-! ## The sequencer after a request (R45, R46, R55, R67, R72) -/

/-- The sequencer with a transition's record made (R74). -/
def State.recorded (s : State) (c : Cause) : PowerSeq :=
  s.power.logged (s.power.newRecord s.clockMs s.boardHot c none s.power.restartList.length)

/-- The sequencer after a transition with one record (R55, R74). -/
theorem State.transition_recorded (t : Target) (c : Cause) (s : State) :
    (s.transition t [(c, none)]).power = PowerSeq.enter s.clockMs t (PowerSeq.setOutputs t (s.recorded c)) := by
  have hhot : s.heat.reserveRelease.zones = s.heat.zones := by
    obtain h | h := s.heat.reserveRelease_cases <;> rw [h]
  by_cases h : s.power.releases t = true
  · simp [State.transition, State.makeRecords, h, State.boardHot, hhot]
    rfl
  · simp [State.transition, State.makeRecords, h]
    rfl

/-- A state in which the board is off and in reset is entered (R53, R54). -/
theorem PowerSeq.enter_boardOff {t : Target} (hs : t.state = .hotOff ∨ t.state = .preheat ∨ t.state = .off)
    (hp : t.phase = none) (hd : t.dest = none) (now : Nat) (p : PowerSeq) :
    PowerSeq.enter now t (PowerSeq.setOutputs t p) =
      p.boardOff t.state (t.timer.map (fun d => { start := now, dur := d })) := by
  obtain hs | hs | hs := hs <;>
    simp [PowerSeq.enter, PowerSeq.setOutputs, PowerSeq.boardOff, hs, hp, hd, powerEnableIn, resetAssertedIn]

theorem State.transition_toHotOff (s : State) :
    (s.transition toHotOff [(.thermal, none)]).power = (s.recorded .thermal).boardOff .hotOff none := by
  rw [State.transition_recorded, PowerSeq.enter_boardOff (.inl rfl) rfl rfl]
  rfl

theorem State.post_power (c : NoticeContent) (s : State) : (s.post c).power = s.power := rfl

/-- A shutdown request in RUNNING with a grace (R67). -/
theorem State.thermalShutdown_grace {s : State} (hst : s.power.state = .running) (hg : s.params.shutdownGrace ≠ 0) :
    s.thermalShutdown = (s.transition (toShutdown .hotOff s.params.shutdownGrace) [(.thermal, none)]).post
      (.thermalShutdown s.params.shutdownGrace) := by
  simp only [State.thermalShutdown, hst]
  exact if_neg hg

theorem State.thermalShutdown_grace_power {s : State} (hst : s.power.state = .running)
    (hg : s.params.shutdownGrace ≠ 0) : s.thermalShutdown.power =
      { s.recorded .thermal with
        state := .shutdown, phase := none, dest := some .hotOff, boardPower := true
        timer := some { start := s.clockMs, dur := s.params.shutdownGrace * 1000 } } := by
  rw [State.thermalShutdown_grace hst hg, State.post_power, State.transition_recorded]
  simp [PowerSeq.enter, PowerSeq.setOutputs, toShutdown, powerEnableIn, resetAssertedIn]

theorem State.thermalShutdown_grace_notice {s : State} (hst : s.power.state = .running)
    (hg : s.params.shutdownGrace ≠ 0) : s.thermalShutdown.mgmt.kept = .shutdown ∧
      s.thermalShutdown.mgmt.Holds (.thermalShutdown s.params.shutdownGrace) := by
  rw [State.thermalShutdown_grace hst hg]
  exact ⟨Mgmt.kept_of_notices (s.transition_notices ..), Mgmt.post_holds _ _⟩

/-- A shutdown request where there is no grace (R67, R68). -/
theorem State.thermalShutdown_hotOff {s : State}
    (hst : (s.power.state = .running ∧ s.params.shutdownGrace = 0) ∨ s.power.state = .starting ∨
      s.power.state = .restarting ∨ s.power.state = .off ∨ s.power.state = .cycling ∨ s.power.state = .preheat) :
    s.thermalShutdown.power = (s.recorded .thermal).boardOff .hotOff none := by
  have hended {u : State} (hp : u.power = (s.transition (toShutdown .hotOff 0) [(.thermal, none)]).power)
      (hc : u.clockMs = s.clockMs) : (u.endIfNoGrace 0).power = (s.recorded .thermal).boardOff .hotOff none := by
    rw [State.endIfNoGrace_hotOff u (hp ▸ State.transition_toShutdown_dest ..), if_pos rfl,
      State.transition_power, hp, hc, State.transition_recorded, PowerSeq.enter_boardOff (.inl rfl) rfl rfl]
    rfl
  obtain ⟨hst, hg⟩ | hst | hst | hst | hst | hst := hst
  · simp only [State.thermalShutdown, hst, hg]
    exact hended (State.post_power ..) (by simp)
  · by_cases hph : s.power.phase = some .reserve
    · simpa only [State.thermalShutdown, hst, hph] using s.transition_toHotOff
    · simpa only [State.thermalShutdown, hst, hph] using hended rfl (by simp)
  · simpa only [State.thermalShutdown, hst] using hended rfl (by simp)
  all_goals simpa only [State.thermalShutdown, hst] using s.transition_toHotOff

/-- A shutdown request in a state that takes none (R67). -/
theorem State.thermalShutdown_ignored {s : State}
    (hst : s.power.state = .shutdown ∨ s.power.state = .hotOff ∨ s.power.state = .serviceHold) :
    s.thermalShutdown = s := by
  obtain hst | hst | hst := hst <;> simp [State.thermalShutdown, hst]

/-- A resume in HOT_OFF (R72). -/
theorem State.thermalResume_power {s : State} (hst : s.power.state = .hotOff) :
    s.thermalResume.power = (s.recorded .thermalResume).boardOff (if s.params.autoResume then .preheat else .off)
      (if s.params.autoResume then some { start := s.clockMs, dur := s.params.preheatLimit * 60000 } else none) := by
  simp only [State.thermalResume, hst, if_true, State.transition_recorded]
  cases s.params.autoResume
  · exact PowerSeq.enter_boardOff (t := toOff) (.inr (.inr rfl)) rfl rfl ..
  · exact PowerSeq.enter_boardOff (t := toPreheat s.params) (.inr (.inl rfl)) rfl rfl ..

end Sys2Proof.Machine
end


section
/-! PROOF. The state from which the monitor sends its requests at a cycle's last conversion, and what stands of them
after the command (R36, R41 to R50). -/

namespace Sys2Proof.Machine

/-! ## One event at the monitor (R42) -/

/-- The monitor as it judges an event (R42). -/
def State.judgement (z : PerZone ZoneReport) (s : State) : Thermal := s.thermal.judge s.params z.board z.display

/-- States that agree in the tables, the clock, the heaters, the sequencer, the monitor and the notices, as one event's
heat-dim and flags leave them. -/
structure State.Alike (u s : State) : Prop where
  tables : u.tables = s.tables
  clock : u.clockMs = s.clockMs
  heat : u.heat = s.heat
  power : u.power = s.power
  thermal : u.thermal = s.thermal
  notices : u.mgmt.notices = s.mgmt.notices

theorem State.sendHeatDim_alike (before after : Thermal) (s : State) : (s.sendHeatDim before after).Alike s :=
  ⟨by simp, by simp, by simp, by simp, by simp, s.sendHeatDim_notices before after⟩

theorem State.pathZones_alike (z : PerZone ZoneReport) (s : State) : (s.pathZones z).Alike s :=
  ⟨by simp, by simp, by simp, by simp, by simp, by simp⟩

/-- In either order of the requests and heat-dim (R154), the requests are sent from such a state and leave such a
state. -/
theorem State.sendRequestsAndDim_alike (before after : Thermal) (s : State) :
    ∃ u : State, u.Alike s ∧ (s.sendRequestsAndDim before after).Alike (u.sendRequests before after) := by
  obtain ⟨c, h | h⟩ := s.sendRequestsAndDim_cases before after <;> rw [h]
  · obtain ⟨tables, clock, heat, power, thermal, notices⟩ :=
      (s.sendRequests before after).sendHeatDim_alike before after
    exact ⟨s, ⟨rfl, rfl, rfl, rfl, rfl, rfl⟩, tables, clock, heat, power, thermal, notices⟩
  · exact ⟨s.sendHeatDim before after, s.sendHeatDim_alike before after, rfl, rfl, rfl, rfl, rfl, rfl⟩

/-- An event at the monitor: the requests, then the notices of a blind board and of the filter (R42). -/
theorem State.thermalZones_alike (z : PerZone ZoneReport) (w : State) :
    ∃ u x : State, u.Alike (w.warned z) ∧ x.Alike (u.sendRequests w.thermal (w.judgement z)) ∧
      w.thermalZones z = (x.sendBlind w.thermal z.board).sendFilter w.thermal (w.judgement z) z.board := by
  obtain ⟨u, hu, hx⟩ := (w.warned z).sendRequestsAndDim_alike w.thermal (w.judgement z)
  exact ⟨u, _, hu, hx, w.thermalZones_eq z⟩

theorem State.warned_thermal (z : PerZone ZoneReport) (w : State) : (w.warned z).thermal = w.judgement z := by
  simp [State.warned, State.judgement]

theorem State.thermalZones_reported (z : PerZone ZoneReport) (w : State) :
    (w.judgement z).Reported (w.thermalZones z).thermal := by
  obtain ⟨u, x, hu, hx, he⟩ := w.thermalZones_alike z
  have hsent := u.sendRequests_thermal w.thermal (w.judgement z)
  rw [hu.thermal, State.warned_thermal, ← hx.thermal] at hsent
  simpa [he] using hsent

/-- Nothing of the Management Unit moves where BOARD is blind (R44). -/
theorem State.warned_mgmt_of_blind {z : PerZone ZoneReport} (h : z.board.hot = none) (w : State) :
    (w.warned z).mgmt = w.mgmt := by
  simp [State.warned, State.sendWarn, h]

theorem State.warned_mgmt_kept (z : PerZone ZoneReport) (w : State) : (w.warned z).mgmt.kept = w.mgmt.kept := by
  simp only [State.warned, State.sendWarn]
  (repeat' split) <;> rfl

/-- Warn turned on posts its notice (R44). -/
theorem State.warned_holds {z : PerZone ZoneReport} {w : State} {h : Int} (hhot : z.board.hot = some h)
    (hbefore : w.thermal.warn = false) (hwarn : (w.judgement z).warn = true) (hle : w.params.twarn ≤ h) :
    (w.warned z).mgmt.Holds (.thermalWarn false (some h) w.params.twarn) := by
  rw [State.warned_of_warn hhot hwarn hle, hbefore]
  exact (Mgmt.post_holds _ w.mgmt).of_notices rfl

theorem State.sendBlind_holds {c : NoticeContent} {x : State} (h : x.mgmt.Holds c) (hc : c.kind ≠ .thermalWarn)
    (before : Thermal) (board : ZoneReport) : (x.sendBlind before board).mgmt.Holds c := by
  unfold State.sendBlind
  split
  · exact h.post hc
  · exact h

theorem State.sendFilter_holds {c : NoticeContent} {x : State} (h : x.mgmt.Holds c) (hc : c.kind ≠ .filterService)
    (before after : Thermal) (board : ZoneReport) : (x.sendFilter before after board).mgmt.Holds c := by
  unfold State.sendFilter
  (repeat' split)
  exacts [h.post hc, h, h]

theorem State.sendNotices_kept (before after : Thermal) (board : ZoneReport) (x : State) :
    ((x.sendBlind before board).sendFilter before after board).mgmt.kept = x.mgmt.kept := by
  unfold State.sendFilter State.sendBlind
  (repeat' split) <;> rfl

/-- In HOT_OFF only a resume acts (R46, R67). -/
theorem State.sendRequests_of_hotOff {before after : Thermal} {u : State} (hst : u.power.state = .hotOff)
    (hk : before.kept = .hotOff) : u.sendRequests before after =
      if u.params.persistence ≤ after.resumeCount then u.thermalResume else u := by
  have hnone : u.sendShutdown after = u := by
    rw [State.sendShutdown, State.thermalShutdown_ignored (.inr (.inl hst)), ite_self]
  simp [State.sendRequests, hnone, State.sendResume, hk]

/-- Outside HOT_OFF only a shutdown acts (R45, R46). -/
theorem State.sendRequests_of_not_hotOff {before : Thermal} (hk : before.kept ≠ .hotOff) (after : Thermal)
    (u : State) : u.sendRequests before after = if after.sendsShutdown u.params then u.thermalShutdown else u := by
  simp [State.sendRequests, State.sendResume, State.sendShutdown, hk]

/-! ## "Zones evaluated" (R36) -/

theorem State.zonesEvaluated_of_stays {z : PerZone ZoneReport} {v : State} (h : v.leavesPreheat z = false) :
    v.zonesEvaluated z = (v.pathZones z).thermalZones z := by
  have horder : v.zonesOrderTells z = false := congrArg (· && v.shutdownDue z) h
  simp [State.zonesEvaluated, horder, State.sequencerZones_of_stays h]

theorem State.leavesPreheat_state {z : PerZone ZoneReport} {v : State} (h : v.leavesPreheat z = true) :
    v.power.state = .preheat := by
  obtain ⟨hpre, -⟩ := Bool.and_eq_true_iff.mp h
  exact of_decide_eq_true hpre

/-- Where the event leaves PREHEAT the monitor judges it in PREHEAT or in STARTING, whichever recipient is first. -/
theorem State.zonesEvaluated_of_leaves {z : PerZone ZoneReport} {v : State} (hk : v.thermal.kept = v.power.state)
    (h : v.leavesPreheat z = true) :
    ∃ (w : State) (k : PowerState) (c : Nat), v.zonesEvaluated z = { w.thermalZones z with choices := c } ∧
      w.tables = v.tables ∧ k.Idle ∧ w.thermal = { v.thermal with kept := k } := by
  have hpre : v.power.state = .preheat := State.leavesPreheat_state h
  have hkept : v.thermal.kept = .preheat := hk.trans hpre
  have hstarting : PowerState.Idle .starting := ⟨nofun, nofun, rfl⟩
  have hreport : v.thermal.onReport .starting = { v.thermal with kept := .starting } := by
    simp [Thermal.onReport, hkept]
  have hentered : (v.enterReserve []).thermal = { v.thermal with kept := .starting } :=
    (v.transition_thermal toReserve []).trans hreport
  have hpath : (v.pathZones z).leavesPreheat z = true := by simpa [State.leavesPreheat] using h
  have hpathEntered : ((v.pathZones z).enterReserve []).thermal = { v.thermal with kept := .starting } := by
    refine ((v.pathZones z).transition_thermal toReserve []).trans ?_
    rw [(v.pathZones_alike z).thermal]
    exact hreport
  unfold State.zonesEvaluated eitherOrder
  split
  next horder =>
    obtain ⟨-, hdue⟩ : v.leavesPreheat z = true ∧ v.shutdownDue z = true := Bool.and_eq_true_iff.mp horder
    have hsecond : ((v.pathZones z).thermalZones z).sequencerZones z = (v.pathZones z).thermalZones z := by
      have hsent := State.thermalZones_requested (w := v.pathZones z) (by simpa using hk) z
      rw [State.pathZones_shutdownDue, hdue] at hsent
      obtain ⟨hoff, -⟩ := hsent.of_start (.inl (by simpa using hpre))
      exact State.sequencerZones_of_stays (by simp [State.leavesPreheat, hoff])
    rw [hsecond, State.sequencerZones_of_leaves hpath]
    obtain hc | hc | hc := (v.pathZones z).oneOf_cases (((v.pathZones z).enterReserve []).thermalZones z)
      ((v.pathZones z).thermalZones z) <;> rw [hc]
    · exact ⟨(v.pathZones z).enterReserve [], _, _, rfl, by simp, hstarting, hpathEntered⟩
    · exact ⟨(v.pathZones z).enterReserve [], _, _, rfl, by simp, hstarting, hpathEntered⟩
    · exact ⟨v.pathZones z, .preheat, _, rfl, by simp, ⟨nofun, nofun, rfl⟩, by simp [← hkept]⟩
  · rw [State.sequencerZones_of_leaves h]
    exact ⟨(v.enterReserve []).pathZones z, _, _, rfl, by simp, hstarting, by simpa using hentered⟩

/-- One event at the monitor is what stands after "zones evaluated", but for the count of choices (R36, R42). -/
theorem State.zonesEvaluated_judges {v : State} (hk : v.thermal.kept = v.power.state) (z : PerZone ZoneReport) :
    ∃ (w : State) (k : PowerState) (c : Nat), v.zonesEvaluated z = { w.thermalZones z with choices := c } ∧
      w.params = v.params ∧ w.judgement z = { v.judgement z with kept := k } ∧ (k = v.thermal.kept ∨ k.Idle) := by
  cases h : v.leavesPreheat z
  case false =>
    have hw := v.pathZones_alike z
    refine ⟨v.pathZones z, _, _, State.zonesEvaluated_of_stays h, congrArg Tables.params hw.tables, ?_, .inl rfl⟩
    rw [State.judgement, State.params, hw.thermal, hw.tables]
    rfl
  case true =>
    obtain ⟨w, k, c, he, htables, hidle, hw⟩ := State.zonesEvaluated_of_leaves hk h
    have hpre : v.power.state = .preheat := State.leavesPreheat_state h
    have hvidle : v.thermal.kept.Idle := by
      rw [hk, hpre]
      exact ⟨nofun, nofun, rfl⟩
    refine ⟨w, k, c, he, congrArg Tables.params htables, ?_, .inr hidle⟩
    rw [State.judgement, State.params, hw, htables, Thermal.judge_kept hvidle hidle]
    rfl

/-! ## The command as a whole -/

theorem State.KeptRight.thermal {s : State} (h : s.KeptRight) : s.thermal.kept = s.power.state := by
  obtain ⟨-, hthermal, -⟩ := h
  exact hthermal

theorem State.KeptRight.mgmt {s : State} (h : s.KeptRight) : s.mgmt.kept = s.power.state := by
  obtain ⟨-, -, -, -, hmgmt⟩ := h
  exact hmgmt

theorem State.evaluated_params (s : State) (ch : Fin 8) (code : BitVec 12) :
    (s.evaluated ch code).params = s.params := by simp [State.params]

/-- The monitor before the cycle's last conversion with the air value of the state after it (R41). -/
def State.aired (s t : State) : Thermal := { s.thermal with air := t.meas.samples[5].usableValue }

theorem State.aired_kept {s : State} (h : s.KeptRight) (t : State) : (s.aired t).kept = s.power.state := h.thermal

/-- The monitor as it judges the cycle's last conversion, told from the states before and after it (R42). -/
def State.judgedAs (s t : State) : Thermal :=
  (s.aired t).judge s.params t.zoneReports.board t.zoneReports.display

section

variable {s : State} {ch : Fin 8} (code : BitVec 12)

theorem State.perform_cycleEnd_aired (hs : s.Quiet) (hn : s.meas.next = some ch)
    (hl : s.meas.lastChannel.val ≤ ch.val) :
    (s.evaluated ch code).thermal = s.aired (s.perform (State.conversionDone code)) := by
  obtain ⟨-, -, hsamples⟩ := State.perform_cycleEnd hs hn hl code
  rw [State.aired, hsamples, ← Sample.reading_eq_usableValue]
  simp [State.evaluated]

theorem State.perform_cycleEnd_judgement (hs : s.Quiet) (hn : s.meas.next = some ch)
    (hl : s.meas.lastChannel.val ≤ ch.val) :
    (s.evaluated ch code).judgement (s.evaluated ch code).zoneReports =
      s.judgedAs (s.perform (State.conversionDone code)) := by
  obtain ⟨-, -, -, hreports⟩ := State.perform_cycleEnd_dim code hs hn hl
  rw [State.judgement, State.perform_cycleEnd_aired code hs hn hl, State.judgedAs, hreports, State.evaluated_params]

theorem State.evaluated_kept (hk : s.KeptRight) :
    (s.evaluated ch code).thermal.kept = (s.evaluated ch code).power.state := by
  obtain ⟨air, hair⟩ := s.evaluated_thermal ch code
  obtain ⟨-, -, -, hpower, -⟩ := s.evaluated_keeps ch code
  rw [hair, hpower]
  exact hk.thermal

/-- The monitor after the cycle's last conversion is as judged, but for what reports wrote (R41, R42). -/
theorem State.perform_cycleEnd_thermal (hs : s.Quiet) (hk : s.KeptRight) (hn : s.meas.next = some ch)
    (hl : s.meas.lastChannel.val ≤ ch.val) :
    (s.judgedAs (s.perform (State.conversionDone code))).Reported (s.perform (State.conversionDone code)).thermal := by
  obtain ⟨hdone, hsoft, -⟩ := State.perform_cycleEnd hs hn hl code
  obtain ⟨-, -, -, -, -, hthermal, -⟩ := State.finish_keeps_of_no_soft hsoft
  obtain ⟨w, k, c, he, -, hw, hkeeps⟩ := State.zonesEvaluated_judges (State.evaluated_kept (ch := ch) code hk)
    (s.evaluated ch code).zoneReports
  have hsent := w.thermalZones_reported (s.evaluated ch code).zoneReports
  rw [hw] at hsent
  rw [← State.perform_cycleEnd_judgement code hs hn hl, hdone, hthermal, he]
  exact hsent.of_kept hkeeps

/-- Warn held at or above Twarn is flagged (R44). -/
theorem State.perform_cycleEnd_warnFlag (hs : s.Quiet) (hk : s.KeptRight) (hn : s.meas.next = some ch)
    (hl : s.meas.lastChannel.val ≤ ch.val) :
    let t := s.perform (State.conversionDone code)
    ∀ h, t.heat.zones.board.hot = some h → t.thermal.warn = true → s.params.twarn ≤ h →
      t.mgmt.hasFlag .thermalWarn = true := by
  obtain ⟨hdone, hsoft, -⟩ := State.perform_cycleEnd hs hn hl code
  obtain ⟨-, -, -, hreports⟩ := State.perform_cycleEnd_dim code hs hn hl
  have hjudged := State.perform_cycleEnd_judgement code hs hn hl
  obtain ⟨w, k, c, he, hwparams, hw, -⟩ := State.zonesEvaluated_judges (State.evaluated_kept (ch := ch) code hk)
    (s.evaluated ch code).zoneReports
  have hwarn := congrArg Thermal.warn (State.perform_cycleEnd_thermal code hs hk hn hl).rest
  intro t h hhot hon hle
  have hzhot : (s.evaluated ch code).zoneReports.board.hot = some h := by
    rw [← hreports]
    exact hhot
  have hwwarn : (w.judgement (s.evaluated ch code).zoneReports).warn = true := by
    rw [hw, hjudged]
    exact hwarn.symm.trans hon
  have hwle : w.params.twarn ≤ h := by rwa [hwparams, s.evaluated_params]
  have hflag := State.thermalZones_hasFlag (f := .thermalWarn) (by decide) (State.warned_hasFlag hzhot hwwarn hwle)
  show (s.perform _).mgmt.hasFlag _ = true
  rw [hdone, State.finish_hasFlag hsoft, he]
  exact hflag

/-- The state from which the monitor sends its requests at the cycle's last conversion, told from the states before and
after the command (R42, R44). -/
structure State.SendsFrom (s t u : State) : Prop where
  tables : u.tables = s.tables
  clock : u.clockMs = s.clockMs
  power : u.power = s.power
  hot : u.boardHot = t.heat.zones.board.hot
  thermal : u.thermal = s.judgedAs t
  kept : u.mgmt.kept = s.mgmt.kept
  blind : t.heat.zones.board.hot = none → u.mgmt.notices = s.mgmt.notices
  warns : ∀ h, t.heat.zones.board.hot = some h → s.thermal.warn = false → (s.judgedAs t).warn = true →
    s.params.twarn ≤ h → u.mgmt.Holds (.thermalWarn false (some h) s.params.twarn)

theorem State.SendsFrom.of_warned {t v u : State} (hclock : v.clockMs = s.clockMs) (htables : v.tables = s.tables)
    (hpower : v.power = s.power) (hnotices : v.mgmt.notices = s.mgmt.notices) (haired : v.thermal = s.aired t)
    (hjudged : v.judgement t.zoneReports = s.judgedAs t) (hreports : t.zoneReports = v.zoneReports)
    (hu : u.Alike ((v.pathZones t.zoneReports).warned t.zoneReports)) : s.SendsFrom t u := by
  have hw := v.pathZones_alike t.zoneReports
  have hwjudged : (v.pathZones t.zoneReports).judgement t.zoneReports = s.judgedAs t := by
    rw [← hjudged, State.judgement, State.params, hw.thermal, hw.tables]
    rfl
  have hwmgmt : (v.pathZones t.zoneReports).mgmt = v.mgmt := by simp
  have hhot : t.heat.zones.board.hot = v.heat.zones.board.hot := congrArg (fun r => r.board.hot) hreports
  generalize v.pathZones t.zoneReports = w at *
  obtain ⟨hwarnedClock, hwarnedTables, hwarnedHeat, hwarnedPower, -⟩ := w.warned_keeps t.zoneReports
  constructor
  case tables => rw [hu.tables, hwarnedTables, hw.tables, htables]
  case clock => rw [hu.clock, hwarnedClock, hw.clock, hclock]
  case power => rw [hu.power, hwarnedPower, hw.power, hpower]
  case hot => rw [State.boardHot, hu.heat, hwarnedHeat, hw.heat, hhot]
  case thermal => rw [hu.thermal, State.warned_thermal, hwjudged]
  case kept =>
    rw [Mgmt.kept_of_notices hu.notices, State.warned_mgmt_kept, hwmgmt, Mgmt.kept_of_notices hnotices]
  case blind =>
    intro hnone
    rw [hu.notices, State.warned_mgmt_of_blind hnone, hwmgmt, hnotices]
  case warns =>
    intro h hsome hoff hon hle
    have hparams : w.params = s.params := congrArg Tables.params (hw.tables.trans htables)
    have hwoff : w.thermal.warn = false := by
      rw [hw.thermal, haired]
      exact hoff
    have hholds := State.warned_holds (w := w) hsome hwoff (hwjudged ▸ hon) (hparams ▸ hle)
    rw [hparams] at hholds
    exact hholds.of_notices hu.notices

/-- Where PREHEAT is not left: what the requests leave stands after the command, with the notices of a blind board and
of the filter posted (R42, R48, R50). -/
theorem State.perform_cycleEnd_sent (hs : s.Quiet) (hn : s.meas.next = some ch)
    (hl : s.meas.lastChannel.val ≤ ch.val)
    (hstays : (s.evaluated ch code).leavesPreheat (s.evaluated ch code).zoneReports = false) :
    let t := s.perform (State.conversionDone code)
    ∃ u x : State, s.SendsFrom t u ∧ x.Alike (u.sendRequests (s.aired t) (s.judgedAs t)) ∧ t.power = x.power ∧
      t.thermal = x.thermal ∧ t.mgmt.notices =
        ((x.sendBlind (s.aired t) t.zoneReports.board).sendFilter (s.aired t) (s.judgedAs t)
          t.zoneReports.board).mgmt.notices := by
  obtain ⟨hdone, hsoft, -⟩ := State.perform_cycleEnd hs hn hl code
  obtain ⟨-, hpower, -, -, -, hthermal, -⟩ := State.finish_keeps_of_no_soft hsoft
  have hnotices := State.finish_notices hsoft
  rw [← hdone, State.zonesEvaluated_of_stays hstays] at hpower hthermal hnotices
  obtain ⟨-, hvclock, hvtables, hvpower, -⟩ := s.evaluated_keeps ch code
  have hvnotices := s.evaluated_notices ch code
  have haired := State.perform_cycleEnd_aired code hs hn hl
  have hjudged := State.perform_cycleEnd_judgement code hs hn hl
  obtain ⟨-, -, -, hreports⟩ := State.perform_cycleEnd_dim code hs hn hl
  intro t
  rw [← hreports] at hpower hthermal hnotices hjudged
  obtain ⟨u, x, hu, hx, he⟩ := ((s.evaluated ch code).pathZones t.zoneReports).thermalZones_alike t.zoneReports
  have hw := (s.evaluated ch code).pathZones_alike t.zoneReports
  have hwjudged : ((s.evaluated ch code).pathZones t.zoneReports).judgement t.zoneReports = s.judgedAs t := by
    rw [State.judgement, State.params, hw.thermal, hw.tables]
    exact hjudged
  rw [hwjudged, hw.thermal, haired] at hx he
  rw [he] at hpower hthermal hnotices
  exact ⟨u, x, .of_warned hvclock hvtables hvpower hvnotices haired hjudged hreports hu, hx, by simpa using hpower,
    by simpa using hthermal, hnotices⟩

end

end Sys2Proof.Machine
end


section
/-! PROOF. The monitor's shutdown and resume requests at the cycle's last conversion, by the power state (R45, R46, R67,
R68, R72). -/

namespace Sys2Proof.Machine

section

variable {s t u : State}

theorem State.SendsFrom.params (h : s.SendsFrom t u) : u.params = s.params := congrArg Tables.params h.tables

theorem State.SendsFrom.recorded (h : s.SendsFrom t u) (c : Cause) : u.recorded c =
    s.power.logged (s.power.newRecord s.clockMs t.heat.zones.board.hot c none s.power.restartList.length) := by
  rw [State.recorded, h.power, h.clock, h.hot]

end

/-- The resume count of an event in HOT_OFF (R46). -/
theorem Thermal.resumeNext_hotOff {t : Thermal} (hk : t.kept = .hotOff) (p : Params) (board : Option Int) :
    (∀ h, board = some h → h ≤ p.tresume → t.resumeNext p board = min (t.resumeCount + 1) 255) ∧
      (board = none ∨ (∃ h, board = some h ∧ p.tresume < h) → t.resumeNext p board = 0) := by
  refine ⟨?_, ?_⟩
  · rintro h rfl hle
    simp [Thermal.resumeNext, hk, hle, count255]
  · rintro (rfl | ⟨h, rfl, hlt⟩)
    · simp [Thermal.resumeNext, hk]
    · simp [Thermal.resumeNext, hk, not_le.mpr hlt]

section

variable {s : State} {ch : Fin 8} (code : BitVec 12)

/-- PREHEAT stays while a board-gate zone is not warm (R57). -/
theorem State.perform_cycleEnd_stays (hs : s.Quiet) (hn : s.meas.next = some ch)
    (hl : s.meas.lastChannel.val ≤ ch.val) (h : s.power.state = .preheat →
      ∃ z, ((s.perform (State.conversionDone code)).zoneReports.get z).boardGate = true ∧
        ((s.perform (State.conversionDone code)).zoneReports.get z).warm = false) :
    (s.evaluated ch code).leavesPreheat (s.evaluated ch code).zoneReports = false := by
  obtain ⟨-, -, -, hreports⟩ := State.perform_cycleEnd_dim code hs hn hl
  obtain ⟨-, -, -, hpower, -⟩ := s.evaluated_keeps ch code
  refine Bool.eq_false_iff.mpr fun hleaves => ?_
  obtain ⟨z, hgate, hcold⟩ := h (hpower ▸ State.leavesPreheat_state hleaves)
  obtain ⟨-, hwarm⟩ := Bool.and_eq_true_iff.mp hleaves
  rw [← hreports, boardWarm_iff] at hwarm
  exact absurd (hwarm z hgate) (Bool.eq_false_iff.mp hcold)

/-- Outside HOT_OFF, with PREHEAT not left, the shutdown request is what moves the sequencer (R45). -/
theorem State.perform_cycleEnd_shutdown (hs : s.Quiet) (hk : s.KeptRight) (hn : s.meas.next = some ch)
    (hl : s.meas.lastChannel.val ≤ ch.val) (hhot : s.power.state ≠ .hotOff)
    (hstays : (s.evaluated ch code).leavesPreheat (s.evaluated ch code).zoneReports = false)
    (hcount : s.params.persistence ≤ (s.perform (State.conversionDone code)).thermal.shutdownCount) :
    let t := s.perform (State.conversionDone code)
    ∃ u : State, s.SendsFrom t u ∧ t.power = u.thermalShutdown.power ∧
      t.mgmt.kept = u.thermalShutdown.mgmt.kept ∧
      ∀ c, u.thermalShutdown.mgmt.Holds c → c.kind ≠ .thermalWarn → c.kind ≠ .filterService →
        t.mgmt.Holds c := by
  intro t
  obtain ⟨u, x, hu, hx, hpower, -, hnotices⟩ := State.perform_cycleEnd_sent code hs hn hl hstays
  have hcount' : t.thermal.shutdownCount = (s.judgedAs t).shutdownCount :=
    (congrArg Thermal.shutdownCount (State.perform_cycleEnd_thermal code hs hk hn hl).rest :)
  have hdue : (s.judgedAs t).sendsShutdown u.params = true := by
    rw [hu.params]
    exact decide_eq_true (hcount' ▸ hcount)
  have haired : (s.aired t).kept ≠ .hotOff := (State.aired_kept hk t).trans_ne hhot
  rw [State.sendRequests_of_not_hotOff haired, if_pos hdue] at hx
  have hkept : t.mgmt.kept = u.thermalShutdown.mgmt.kept :=
    calc t.mgmt.kept = _ := Mgmt.kept_of_notices hnotices
      _ = x.mgmt.kept := State.sendNotices_kept ..
      _ = _ := Mgmt.kept_of_notices hx.notices
  refine ⟨u, hu, hpower.trans hx.power, hkept, fun c hc hw hf => ?_⟩
  exact (State.sendFilter_holds (State.sendBlind_holds (hc.of_notices hx.notices) hw _ _) hf _ _ _).of_notices hnotices

/-- In HOT_OFF the resume is what moves the sequencer (R46, R72). -/
theorem State.perform_cycleEnd_resume (hs : s.Quiet) (hk : s.KeptRight) (hn : s.meas.next = some ch)
    (hl : s.meas.lastChannel.val ≤ ch.val) (hhot : s.power.state = .hotOff) :
    let t := s.perform (State.conversionDone code)
    let count := s.thermal.resumeNext s.params t.heat.zones.board.hot
    (s.params.persistence ≤ count → ∃ u : State, s.SendsFrom t u ∧ t.power = u.thermalResume.power) ∧
      (count < s.params.persistence → t.power = s.power ∧ t.thermal.resumeCount = count) := by
  intro t count
  obtain ⟨u, x, hu, hx, hpower, hthermal, -⟩ := State.perform_cycleEnd_sent code hs hn hl
    (State.perform_cycleEnd_stays code hs hn hl (fun h => by simp [hhot] at h))
  have hkept : (s.aired t).kept = .hotOff := (State.aired_kept hk t).trans hhot
  rw [State.sendRequests_of_hotOff (hu.power ▸ hhot) hkept, hu.params] at hx
  refine ⟨fun hreached => ⟨u, hu, ?_⟩, fun hbelow => ?_⟩
  · rw [if_pos (show s.params.persistence ≤ (s.judgedAs t).resumeCount from hreached)] at hx
    exact hpower.trans hx.power
  · rw [if_neg (show ¬s.params.persistence ≤ (s.judgedAs t).resumeCount from not_le.mpr hbelow)] at hx
    exact ⟨hpower.trans (hx.power.trans hu.power),
      congrArg Thermal.resumeCount (hthermal.trans (hx.thermal.trans hu.thermal))⟩

end

end Sys2Proof.Machine

namespace Sys2Proof.Proofs

open Sys2Proof.Machine

/-- Settles O15: the grants of HOT_OFF, the shutdown request by the power state, and the resume count. -/
theorem thermalRequestsActByState : Obligations.ThermalRequestsActByState := by
  intro s ch code hs hk hn hl
  refine ⟨s.perform (State.conversionDone code), rfl, ?_⟩
  obtain ⟨-, -, -, hgrants, -⟩ := State.perform_cycleEnd_heat hs hk hn hl code
  intro hot made
  refine ⟨fun hoff z => (hgrants (.inr hoff) z).1, fun hcount => ?_, fun hhot => ?_⟩
  · have hsent (hst : s.power.state ≠ .hotOff) (h) := State.perform_cycleEnd_shutdown code hs hk hn hl hst
      (State.perform_cycleEnd_stays code hs hn hl h) hcount
    refine ⟨fun hst hg => ?_, fun hst => ?_, fun hst => ?_⟩
    · obtain ⟨u, hu, hpower, hkept, hholds⟩ := hsent (by simp [hst]) (by simp [hst])
      have hust : u.power.state = .running := hu.power ▸ hst
      rw [← hu.params] at hg
      obtain ⟨hukept, hnotice⟩ := State.thermalShutdown_grace_notice hust hg
      refine ⟨?_, ?_⟩
      · rw [hpower, State.thermalShutdown_grace_power hust hg, hu.recorded, hu.clock, hu.params]
      · rw [← hu.params]
        exact hholds _ hnotice nofun nofun (by rw [hkept, hukept]; rfl)
    · obtain ⟨u, hu, hpower, -⟩ := hsent (by rintro h; simp [h] at hst) (by rintro h; simpa [h] using hst)
      rw [hpower, State.thermalShutdown_hotOff, hu.recorded]
      rw [hu.power, hu.params]
      tauto
    · obtain ⟨u, hu, hpower, -⟩ := hsent (by rintro h; simp [h] at hst) (by rintro h; simp [h] at hst)
      rw [hpower, State.thermalShutdown_ignored (by rw [hu.power]; tauto), hu.power]
  · obtain ⟨hresume, hstays⟩ := State.perform_cycleEnd_resume code hs hk hn hl hhot
    obtain ⟨hcool, hzero⟩ := Thermal.resumeNext_hotOff (hk.thermal.trans hhot) s.params hot
    refine ⟨fun h hsome hle => ?_, fun hwarm hpos => ?_⟩
    · rw [← hcool h hsome hle]
      refine ⟨fun hreached => ?_, hstays⟩
      obtain ⟨u, hu, hpower⟩ := hresume hreached
      rw [hpower, State.thermalResume_power (hu.power ▸ hhot), hu.recorded, hu.clock, hu.params]
    · obtain ⟨hpower, hcount⟩ := hstays (hzero hwarm ▸ hpos)
      exact ⟨hpower, hcount.trans (hzero hwarm)⟩

end Sys2Proof.Proofs
end


section
/-! PROOF. What the monitor judges at the cycle's last conversion and the notices that stand (R43, R44, R47 to R50). -/

namespace Sys2Proof.Machine

/-! ## The judgements (R43, R47, R49, R50) -/

/-- The cases of a condition that is set at one threshold and cleared at another (R43, R47). -/
theorem twoWay_some {n count count' : Nat} {setAt clearAt h : Int} {holds holds' : Bool}
    (e : (holds', count') = twoWay n setAt clearAt (some h) holds count) :
    (holds = false → setAt ≤ h → n ≤ count255 count → holds' = true ∧ count' = 0) ∧
    (holds = false → setAt ≤ h → ¬n ≤ count255 count → holds' = false ∧ count' = count255 count) ∧
    (holds = false → h < setAt → holds' = false ∧ count' = 0) ∧
    (holds = true → h ≤ clearAt → n ≤ count255 count → holds' = false ∧ count' = 0) ∧
    (holds = true → h ≤ clearAt → ¬n ≤ count255 count → holds' = true ∧ count' = count255 count) ∧
    (holds = true → clearAt < h → holds' = true ∧ count' = 0) := by
  refine ⟨fun hb hh hr => ?_, fun hb hh hr => ?_, fun hb hh => ?_, fun hb hh hr => ?_, fun hb hh hr => ?_,
    fun hb hh => ?_⟩
  · simpa [twoWay, hb, hh, hr] using e
  · simpa [twoWay, hb, hh, hr] using e
  · simpa [twoWay, hb, not_le.mpr hh] using e
  · simpa [twoWay, hb, hh, hr] using e
  · simpa [twoWay, hb, hh, hr] using e
  · simpa [twoWay, hb, not_le.mpr hh] using e

/-- With no hot value the condition stays and its count is 0 (R43, R47). -/
theorem twoWay_none {n count count' : Nat} {setAt clearAt : Int} {holds holds' : Bool}
    (e : (holds', count') = twoWay n setAt clearAt none holds count) : holds' = holds ∧ count' = 0 := Prod.mk.inj e

/-- Outside RUNNING the rise is not judged (R49). -/
theorem Thermal.filterNext_of_not_running {t : Thermal} (hk : t.kept ≠ .running) (p : Params) (board : Option Int) :
    t.filterNext p board = (t.filterService, t.filterCount) := if_neg hk

/-- In RUNNING with no hot value or no air value there is no rise (R49). -/
theorem Thermal.filterNext_of_no_rise {t : Thermal} (hk : t.kept = .running) {board : Option Int}
    (h : board = none ∨ t.air = none) (p : Params) : t.filterNext p board = (t.filterService, 0) := by
  have hrise : t.rise board = none := by
    obtain rfl | h := h
    · rfl
    · cases board <;> simp [Thermal.rise, h]
  simp [Thermal.filterNext, hk, hrise]

/-- The cases of filter-service on a rise in RUNNING (R50). -/
theorem Thermal.filterNext_of_rise {t : Thermal} (hk : t.kept = .running) {h a : Int} (ha : t.air = some a)
    {p : Params} {holds : Bool} {count' : Nat} (e : (holds, count') = t.filterNext p (some h)) :
    (t.filterService = false → h - a ≤ p.riseLimit → holds = false ∧ count' = 0) ∧
    (t.filterService = false → p.riseLimit < h - a → bump t.filterCount < p.riseCount →
      holds = false ∧ count' = bump t.filterCount) ∧
    (t.filterService = false → p.riseLimit < h - a → p.riseCount ≤ bump t.filterCount →
      holds = true ∧ count' = 0) ∧
    (t.filterService = true → (p.riseLimit : Int) - p.riseHysteresis < h - a → holds = true ∧ count' = 0) ∧
    (t.filterService = true → h - a ≤ (p.riseLimit : Int) - p.riseHysteresis →
      (bump t.filterCount < p.riseCount → holds = true ∧ count' = bump t.filterCount) ∧
      (p.riseCount ≤ bump t.filterCount → holds = false ∧ count' = 0)) := by
  have hrise : t.rise (some h) = some (h - a) := by simp [Thermal.rise, ha]
  rw [Thermal.filterNext, if_pos hk, hrise] at e
  refine ⟨fun hb hr => ?_, fun hb hr hc => ?_, fun hb hr hc => ?_, fun hb hr => ?_,
    fun hb hr => ⟨fun hc => ?_, fun hc => ?_⟩⟩
  · simpa [hb, not_lt.mpr hr] using e
  · simpa [hb, hr, not_le.mpr hc] using e
  · simpa [hb, hr, hc] using e
  · simpa [hb, not_le.mpr hr] using e
  · simpa [hb, hr, not_le.mpr hc] using e
  · simpa [hb, hr, hc] using e

/-! ## The notices (R44, R48, R50) -/

/-- The filter's notice is posted as filter-service is set (R50). -/
theorem State.sendFilter_set_holds {before after : Thermal} {board : ZoneReport} {h a : Int} (hhot : board.hot = some h)
    (hair : before.air = some a) (hb : before.filterService = false) (ha : after.filterService = true) (x : State) :
    (x.sendFilter before after board).mgmt.Holds (.filterService (h - a) h a) := by
  simp only [State.sendFilter, hhot, hair, hb, ha]
  exact Mgmt.post_holds _ x.mgmt

/-- A shutdown request in RUNNING or SHUTDOWN takes no other notice away but by HOT_OFF's report (R67, R176). -/
theorem State.thermalShutdown_holds {u : State} {c : NoticeContent} (h : u.mgmt.Holds c)
    (hc : c.kind ≠ .thermalShutdown) (hk : u.mgmt.kept.accepts = true)
    (hst : u.power.state = .running ∨ u.power.state = .shutdown) :
    u.thermalShutdown.mgmt.Holds c := by
  obtain hst | hst := hst
  · by_cases hg : u.params.shutdownGrace = 0
    · have hoff (v : State) : (v.transition toHotOff []).mgmt.Holds c := by
        intro haccepts
        rw [Mgmt.kept_of_notices (v.transition_notices ..)] at haccepts
        cases haccepts
      simp only [State.thermalShutdown, hst, hg]
      rw [State.endIfNoGrace_hotOff (State.post _ _) (u.transition_toShutdown_dest 0 _), if_pos rfl]
      exact hoff _
    · rw [State.thermalShutdown_grace hst hg]
      exact ((h.onReport hk .shutdown).of_notices (u.transition_notices ..)).post hc
  · rwa [State.thermalShutdown_ignored (.inl hst)]

section

variable {s : State} {ch : Fin 8} (code : BitVec 12)

/-- BOARD is blind exactly where it has no hot value (R20). -/
theorem State.perform_cycleEnd_board_blind (hs : s.Quiet) (hn : s.meas.next = some ch)
    (hl : s.meas.lastChannel.val ≤ ch.val) :
    let t := s.perform (State.conversionDone code)
    t.heat.zones.board.blind = true ↔ t.heat.zones.board.hot = none := by
  have hzone := State.perform_cycleEnd_zone hs hn hl code .board
  simp only [ZoneState.evaluatedBy_eq] at hzone
  intro t
  have blind : t.heat.zones.board.blind = _ := (congrArg ZoneState.blind hzone :)
  have hot : t.heat.zones.board.hot = _ := (congrArg ZoneState.hot hzone :)
  rw [blind, hot]
  simp [ZoneState.judged]

theorem State.aired_not_hotOff (hk : s.KeptRight) (hst : s.power.state = .running ∨ s.power.state = .shutdown)
    (t : State) : (s.aired t).kept ≠ .hotOff := by
  rw [State.aired_kept hk]
  obtain h | h := hst <;> rw [h] <;> decide

/-- In RUNNING and SHUTDOWN warn turned on leaves its notice waiting, unless the board goes to HOT_OFF (R44, R176). -/
theorem State.perform_cycleEnd_warnNotice (hs : s.Quiet) (hk : s.KeptRight) (hn : s.meas.next = some ch)
    (hl : s.meas.lastChannel.val ≤ ch.val) (hst : s.power.state = .running ∨ s.power.state = .shutdown) :
    let t := s.perform (State.conversionDone code)
    ∀ h, t.heat.zones.board.hot = some h → s.thermal.warn = false → t.thermal.warn = true →
      s.params.twarn ≤ h → t.mgmt.Holds (.thermalWarn false (some h) s.params.twarn) := by
  have hstays := State.perform_cycleEnd_stays code hs hn hl (fun h => by simp [h] at hst)
  obtain ⟨u, x, hu, hx, -, -, hnotices⟩ := State.perform_cycleEnd_sent code hs hn hl hstays
  have hwarn := congrArg Thermal.warn (State.perform_cycleEnd_thermal code hs hk hn hl).rest
  have hblind := State.perform_cycleEnd_board_blind code hs hn hl
  intro t h hhot hoff hon hle
  have hseen : t.zoneReports.board.blind = false := Bool.eq_false_iff.mpr fun hb =>
    absurd (hhot.symm.trans (hblind.mp hb)) nofun
  have hposted := hu.warns h hhot hoff (hwarn.symm.trans hon) hle
  have hkept : u.mgmt.kept.accepts = true := PowerState.accepts_iff.mpr (by rwa [hu.kept, hk.mgmt])
  have hsent : (u.sendRequests (s.aired t) (s.judgedAs t)).mgmt.Holds
      (.thermalWarn false (some h) s.params.twarn) := by
    rw [State.sendRequests_of_not_hotOff (State.aired_not_hotOff hk hst t)]
    split
    · exact State.thermalShutdown_holds hposted nofun hkept (hu.power ▸ hst)
    · exact hposted
  have hblindless : x.sendBlind (s.aired t) t.zoneReports.board = x := by
    simp [State.sendBlind, Thermal.warnsBlind, hseen]
  rw [hblindless] at hnotices
  exact (State.sendFilter_holds (hsent.of_notices hx.notices) nofun _ _ _).of_notices hnotices

/-- In RUNNING filter-service turned on leaves its notice waiting (R50). -/
theorem State.perform_cycleEnd_filterNotice (hs : s.Quiet) (hn : s.meas.next = some ch)
    (hl : s.meas.lastChannel.val ≤ ch.val) (hst : s.power.state = .running) :
    let t := s.perform (State.conversionDone code)
    ∀ h a, t.heat.zones.board.hot = some h → (s.aired t).air = some a → s.thermal.filterService = false →
      (s.judgedAs t).filterService = true → t.mgmt.Holds (.filterService (h - a) h a) := by
  have hstays := State.perform_cycleEnd_stays code hs hn hl (fun h => by simp [h] at hst)
  obtain ⟨u, x, -, -, -, -, hnotices⟩ := State.perform_cycleEnd_sent code hs hn hl hstays
  intro t h a hhot hair hoff hon
  exact (State.sendFilter_set_holds hhot hair hoff hon _).of_notices hnotices

/-- In RUNNING and SHUTDOWN a blind board not yet warned of is warned of, and nothing else is posted (R48). -/
theorem State.perform_cycleEnd_blindNotice (hs : s.Quiet) (hk : s.KeptRight) (hn : s.meas.next = some ch)
    (hl : s.meas.lastChannel.val ≤ ch.val) (hst : s.power.state = .running ∨ s.power.state = .shutdown)
    (hgiven : s.thermal.blindGiven = false) (hpos : 0 < s.params.persistence) :
    let t := s.perform (State.conversionDone code)
    t.heat.zones.board.blind = true →
      t.mgmt.notices = (s.mgmt.post (.thermalWarn true none s.params.twarn)).notices := by
  have hstays := State.perform_cycleEnd_stays code hs hn hl (fun h => by simp [h] at hst)
  obtain ⟨u, x, hu, hx, -, -, hnotices⟩ := State.perform_cycleEnd_sent code hs hn hl hstays
  have hblind := State.perform_cycleEnd_board_blind code hs hn hl
  intro t hb
  have hnone : t.heat.zones.board.hot = none := hblind.mp hb
  have hdue : (s.judgedAs t).sendsShutdown u.params = false := by
    have hzero : (s.judgedAs t).shutdownCount = 0 := by
      show (s.aired t).shutdownNext s.params t.heat.zones.board.hot = 0
      rw [hnone]
      rfl
    rw [hu.params]
    simpa [Thermal.sendsShutdown, hzero] using Nat.pos_iff_ne_zero.mp hpos
  rw [State.sendRequests_of_not_hotOff (State.aired_not_hotOff hk hst t), hdue] at hx
  have hwarns : (s.aired t).warnsBlind t.zoneReports.board.blind = true := by
    have haccepts : (s.aired t).kept.accepts = true := PowerState.accepts_iff.mpr (by rwa [State.aired_kept hk])
    rw [Thermal.warnsBlind, haccepts, show t.zoneReports.board.blind = true from hb,
      show (s.aired t).blindGiven = false from hgiven]
    rfl
  have hfilterless (y : State) : y.sendFilter (s.aired t) (s.judgedAs t) t.zoneReports.board = y := by
    simp only [State.sendFilter, show t.zoneReports.board.hot = none from hnone]
  have hxparams : x.params = s.params := congrArg Tables.params (hx.tables.trans hu.tables)
  rw [hfilterless, State.sendBlind, if_pos hwarns, hxparams] at hnotices
  exact hnotices.trans (Mgmt.post_notices (hx.notices.trans (hu.blind hnone)) _)

end

end Sys2Proof.Machine

namespace Sys2Proof.Proofs

open Sys2Proof.Machine

/-- Settles O13: the judgements by their cases, the flag, and the notices that stand. -/
theorem cycleCompleteJudgesTheLimits : Obligations.CycleCompleteJudgesTheLimits := by
  intro s ch code hs hk hn hl
  refine ⟨s.perform (State.conversionDone code), rfl, ?_⟩
  obtain ⟨hrest, houtside, hinside⟩ := State.perform_cycleEnd_thermal code hs hk hn hl
  have hflag := State.perform_cycleEnd_warnFlag code hs hk hn hl
  have hwarnNotice := State.perform_cycleEnd_warnNotice code hs hk hn hl
  have hfilterNotice := State.perform_cycleEnd_filterNotice code hs hn hl
  have hblindNotice := State.perform_cycleEnd_blindNotice code hs hk hn hl
  obtain ⟨-, hskept, -, -, hsmgmt⟩ := hk
  generalize s.perform (State.conversionDone code) = t at *
  have air : t.thermal.air = t.meas.samples[5].usableValue := (congrArg Thermal.air hrest :)
  have warn : (t.thermal.warn, t.thermal.warnCount) =
      twoWay s.params.persistence s.params.twarn (s.params.twarn - s.params.thys) t.heat.zones.board.hot s.thermal.warn
        s.thermal.warnCount := (congrArg (fun m => (m.warn, m.warnCount)) hrest :)
  have dim : (t.thermal.heatDim, t.thermal.dimCount) =
      twoWay s.params.persistence s.params.tdim (s.params.tdim - 20) t.heat.zones.display.hot s.thermal.heatDim
        s.thermal.dimCount := (congrArg (fun m => (m.heatDim, m.dimCount)) hrest :)
  have shutdown : t.thermal.shutdownCount = s.thermal.shutdownNext s.params t.heat.zones.board.hot :=
    (congrArg Thermal.shutdownCount hrest :)
  have given : t.thermal.blindGiven = s.thermal.blindNext t.heat.zones.board.blind :=
    (congrArg Thermal.blindGiven hrest :)
  have filter : t.thermal.filterService = ((s.aired t).filterNext s.params t.heat.zones.board.hot).1 :=
    (congrArg Thermal.filterService hrest :)
  have hjudged (hst : t.thermal.kept = .running) : (t.thermal.filterService, t.thermal.filterCount) =
      (s.aired t).filterNext s.params t.heat.zones.board.hot :=
    (congrArg (fun m => (m.filterService, m.filterCount)) (hinside hst) :)
  refine ⟨air, fun hnone => ?_, fun h hsome => ?_, fun hnone => ?_, fun h hsome => ?_, fun hseen => ?_,
    fun hunseen => ⟨fun hgiven => ?_, fun hnot hst hst' => ?_, fun hnot hst hpos => ?_⟩, fun hst => ?_,
    fun hst hst' => ⟨fun hnone => ?_, fun h a hsome hair => ?_⟩⟩
  · rw [hnone] at warn shutdown
    obtain ⟨hw, hc⟩ := twoWay_none warn
    exact ⟨hw, hc, shutdown⟩
  · rw [hsome] at warn shutdown
    obtain ⟨hset, hcount, hbelow, hclear, hclearCount, habove⟩ := twoWay_some warn
    refine ⟨shutdown, fun hoff hle hr => ?_, hcount, hbelow, hclear, hclearCount, habove, hflag h hsome⟩
    obtain ⟨hon, hc⟩ := hset hoff hle hr
    exact ⟨hon, hc, fun hst htst =>
      hwarnNotice (hsmgmt ▸ hst) h hsome hoff hon hle (PowerState.accepts_iff.mpr htst)⟩
  · rw [hnone] at dim
    exact twoWay_none dim
  · rw [hsome] at dim
    exact twoWay_some dim
  · simp [given, Thermal.blindNext, hseen]
  · simp [given, Thermal.blindNext, hunseen, hgiven]
  · have haccepts : s.thermal.kept.accepts = false := by
      rw [Bool.eq_false_iff, Ne, PowerState.accepts_iff]
      tauto
    simp [given, Thermal.blindNext, hnot, haccepts]
  · obtain ⟨-, hcounter, hqueue⟩ := Mgmt.notices_eq_iff.mp (hblindNotice (hskept ▸ hst) hnot hpos hunseen)
    refine ⟨?_, hqueue, hcounter⟩
    simp [given, Thermal.blindNext, hunseen, PowerState.accepts_iff.mpr hst]
  · have hnext := Thermal.filterNext_of_not_running (t := s.aired t) hst s.params t.heat.zones.board.hot
    obtain ⟨-, hcount⟩ := houtside hst
    exact Prod.mk.inj ((Prod.ext filter hcount).trans hnext)
  · have hnext := Thermal.filterNext_of_no_rise (t := s.aired t) hst (air ▸ hnone) s.params
    exact Prod.mk.inj ((hjudged hst').trans hnext)
  · have hair' : (s.aired t).air = some a := air.symm.trans hair
    have hfilter := hjudged hst'
    rw [hsome] at hfilter
    obtain ⟨hlow, hcount, hset, hrest⟩ := Thermal.filterNext_of_rise (t := s.aired t) hst hair' hfilter
    refine ⟨hlow, hcount, fun hoff hr hc => ?_, hrest⟩
    obtain ⟨hon, hzero⟩ := hset hoff hr hc
    exact ⟨hon, hzero, fun hrun htrun => hfilterNotice (hsmgmt ▸ hrun) h a hsome hair' hoff (hinside hst' ▸ hon)
      (PowerState.accepts_iff.mpr (.inl htrun))⟩

end Sys2Proof.Proofs
end


section
/-! PROOF. What a transition of the Power Sequencer leaves in each block (R55). -/

namespace Sys2Proof.Machine

/-! ## The sequencer after a transition (R53, R55, R74) -/

/-- Records change the log and the next record's number alone, and leave at most 16 (R74). -/
theorem PowerSeq.records_eq (up : BitVec 32) (hot : Option Int) (left : PowerState)
    (cs : List (Cause × Option SlotField)) (p : PowerSeq) :
    ∃ log seq, cs.foldl (PowerSeq.record up hot left) p = { p with log := log, nextSeq := seq } ∧
      (p.log.length ≤ 16 → log.length ≤ 16) := by
  induction cs generalizing p with
  | nil => exact ⟨_, _, rfl, id⟩
  | cons c cs ih =>
    obtain ⟨log, seq, heq, hlen⟩ := ih (p.record up hot left c)
    exact ⟨log, seq, heq, fun _ => hlen (PowerSeq.record_length_le ..)⟩

/-- The sequencer when a transition has made its records and entered its target (R55). -/
def State.entered (t : Target) (cs : List (Cause × Option SlotField)) (s : State) : PowerSeq :=
  PowerSeq.enter s.clockMs t (cs.foldl (PowerSeq.record s.uptime s.boardHot s.power.state) (s.power.setOutputs t))

/-- A transition is its report, from the state with the reserve released or not and the target entered (R55). -/
theorem State.transition_eq (t : Target) (cs : List (Cause × Option SlotField)) (s : State) :
    s.transition t cs = State.reportPower (!s.power.boardPower && powerEnableIn t.state t.phase)
      (s.power.boardPower && !powerEnableIn t.state t.phase)
      { s with
        heat := if s.power.releases t then s.heat.reserveRelease else s.heat, power := s.entered t cs } := by
  have hhot : s.heat.reserveRelease.zones = s.heat.zones := by
    obtain h | h := s.heat.reserveRelease_cases <;> rw [h]
  by_cases h : s.power.releases t = true
  · have hentered : s.entered t cs = PowerSeq.enter s.clockMs t (cs.foldl
        (PowerSeq.record s.uptime s.heat.reserveRelease.zones.board.hot s.power.state) (s.power.setOutputs t)) := by
      rw [hhot]; rfl
    simp only [State.transition, h, if_true, hentered]
    rfl
  · simp only [State.transition, h]
    rfl

/-- What the sequencer holds after a transition (R53, R54, R55). -/
structure PowerSeq.Entered (t : Target) (now : Nat) (p q : PowerSeq) : Prop where
  state : q.state = t.state
  phase : q.phase = t.phase
  dest : q.dest = t.dest
  timer : q.timer = t.timer.map (fun d => { start := now, dur := d })
  boardPower : q.boardPower = powerEnableIn t.state t.phase
  resetAsserted : q.resetAsserted = resetAssertedIn p.resetAsserted t.state t.phase
  restartList : q.restartList = p.restartList
  log : p.log.length ≤ 16 → q.log.length ≤ 16

theorem State.transition_power_eq (t : Target) (cs : List (Cause × Option SlotField)) (s : State) :
    (s.transition t cs).power = s.entered t cs := by
  simp [s.transition_eq t cs]

theorem State.transition_entered (t : Target) (cs : List (Cause × Option SlotField)) (s : State) :
    s.power.Entered t s.clockMs (s.transition t cs).power := by
  obtain ⟨log, seq, heq, hlen⟩ :=
    PowerSeq.records_eq s.uptime s.boardHot s.power.state cs (s.power.setOutputs t)
  rw [State.transition_power_eq, State.entered, heq]
  exact ⟨rfl, rfl, rfl, rfl, rfl, rfl, rfl, hlen⟩

/-- The outputs after a transition are those of its target (R53). -/
theorem State.transition_outputsRight (t : Target) (cs : List (Cause × Option SlotField)) (s : State) :
    (s.transition t cs).power.OutputsRight := by
  have h := s.transition_entered t cs
  rw [PowerSeq.outputsRight_iff, h.boardPower, h.resetAsserted, h.state, h.phase]
  refine ⟨rfl, ?_⟩
  unfold resetAssertedIn
  split <;> rfl

/-! ## The blocks that take its report (R55) -/

/-- The display path after a report, by whether board power enable turned on or off (R154). -/
def DisplayPath.onBoard (q : Params) (now : Nat) (sending on off : Bool) (p : DisplayPath) : DisplayPath :=
  if on then
    { p with state := .waitWarm, retry := 0, waitTimer := some { start := now, dur := q.waitLimit * 60000 } }
  else if off then
    { p with
      state := .off, power := false, queue := [], waitTimer := none, startTimer := none, silenceTimer := none
      idleTimer := none, dqDiscard := min (p.dqDiscard + (if sending then 1 else 0) + p.queue.length) 65535 }
  else p

theorem State.pathReport_eq (on off : Bool) (s : State) :
    (s.pathReport on off).path = s.path.onBoard s.params s.clockMs s.disp.tx.isSome on off ∧
      (s.pathReport on off).disp = if !on && off then { s.disp with tx := none } else s.disp := by
  have hdisp : s.pathPowerOff.disp = { s.disp with tx := none } := by
    obtain ⟨d, hd⟩ : ∃ d, s.disp = d := ⟨_, rfl⟩
    unfold State.pathPowerOff State.cutDisplayTx
    split <;> simp_all
    cases d
    simp_all
  cases on <;> cases off
  case false.true => exact ⟨s.pathPowerOff_eq.2, hdisp⟩
  all_goals exact ⟨rfl, rfl⟩

section
variable (t : Target) (cs : List (Cause × Option SlotField)) (s : State)

theorem State.transition_live :
    (s.transition t cs).live = s.live.onReport s.params s.clockMs t.state t.phase := by
  simp [s.transition_eq t cs, State.reportPower, State.entered, PowerSeq.enter]

theorem State.transition_keypad : (s.transition t cs).keypad = s.keypad.onReport t.state := by
  simp [s.transition_eq t cs, State.reportPower, State.entered, PowerSeq.enter]

theorem State.transition_matcher :
    (s.transition t cs).matcher = s.matcher.reportArrives s.keypad.scanning s.tables.sequences t.state := by
  simp [s.transition_eq t cs, State.reportPower, State.entered, PowerSeq.enter]

theorem State.transition_beeper : (s.transition t cs).beeper = s.beeper.onReport t.state s.clockMs := by
  simp [s.transition_eq t cs, State.reportPower, State.entered, PowerSeq.enter]

/-- Board power enable turns on, or off, in a transition (R53, R55). -/
def PowerSeq.turnsOn (t : Target) (p : PowerSeq) : Bool := !p.boardPower && powerEnableIn t.state t.phase

def PowerSeq.turnsOff (t : Target) (p : PowerSeq) : Bool := p.boardPower && !powerEnableIn t.state t.phase

/-- The display path follows board power enable (R154). -/
theorem State.transition_path :
    (s.transition t cs).path =
      s.path.onBoard s.params s.clockMs s.disp.tx.isSome (s.power.turnsOn t) (s.power.turnsOff t) := by
  rw [State.transition_eq]
  simp [State.reportPower, State.pathReport_eq, State.params]
  rfl

theorem State.transition_disp : (s.transition t cs).disp =
    if s.power.turnsOff t then { s.disp with tx := none } else s.disp := by
  rw [State.transition_eq]
  cases hb : s.power.boardPower <;> cases he : powerEnableIn t.state t.phase <;>
    simp [State.reportPower, State.pathReport_eq, PowerSeq.turnsOff, hb, he]

/-- The system port's own rule: it holds at most 16 forwarded frames, and nothing while it is not live (R133, R137). -/
structure SysPort.Right (p : SysPort) : Prop where
  fwd : p.fwd.length ≤ 16
  dead : p.isLive = false → p.slot = .empty ∧ p.fwd = [] ∧ p.tx = none

theorem State.portReport_right {s : State} (h : s.sys.Right) : s.portReport.sys.Right := by
  have hdies := s.portDies_sys
  obtain ⟨-, -, -, -, hslot, hfwd, htx, -⟩ := hdies
  simp only [State.portReport]
  split
  · exact h
  · split
    · exact ⟨h.fwd, fun hdead => by cases hdead⟩
    · exact ⟨by simp [hfwd], fun _ => ⟨hslot, hfwd, htx⟩⟩

theorem State.transition_sys_right (h : s.sys.Right) : (s.transition t cs).sys.Right := by
  rw [State.transition_eq]
  exact State.portReport_right (by simpa using h)

theorem State.transition_isLive : (s.transition t cs).sys.isLive =
    ((s.transition t cs).power.boardPower && !(s.transition t cs).power.resetAsserted) := by
  rw [State.transition_eq]
  simp [State.reportPower, (State.portReport_sys _).1]

end

end Sys2Proof.Machine
end


section
/-! PROOF. The elementary changes that a command's work is made of, and what each invariant asks of them. -/

namespace Sys2Proof.Machine

/-! ## The rules that each block's own changes keep -/

/-- Display power is on in STARTING, OPEN and DIMMED (R154). -/
abbrev DisplayPath.Powered (p : DisplayPath) : Prop :=
  p.power = true ↔ p.state = .starting ∨ p.state = .opened ∨ p.state = .dimmed

/-- A display queue within its limits, by which classes coalesce (R160). -/
abbrev FramesRight (coalesce : Fin 64 → Bool) (q : List QueuedFrame) : Prop :=
  q.length ≤ 16 ∧ ∀ c : Fin 64, coalesce c = true → (q.filter (fun f => f.cls = c)).length ≤ 1

/-- A change of the display path that leaves OFF and the copy of heat-dim as they are, and keeps its rules. -/
structure DisplayPath.Keeps (coalesce : Fin 64 → Bool) (p q : DisplayPath) : Prop where
  heatDim : q.heatDim = p.heatDim
  off : q.state = .off ↔ p.state = .off
  power : p.Powered → q.Powered
  queue : FramesRight coalesce p.queue → FramesRight coalesce q.queue

/-- A change of the system port that leaves its liveness and keeps its rule (R133, R137). -/
structure SysPort.Keeps (p q : SysPort) : Prop where
  isLive : q.isLive = p.isLive
  right : p.Right → q.Right

/-- A change of the Management Unit that leaves the power state it keeps, and keeps its rule (R175, R176). -/
structure Mgmt.Keeps (m n : Mgmt) : Prop where
  kept : n.kept = m.kept
  queue : m.QueueRight → n.QueueRight

/-- A change of the Keypad Scanner that leaves the reports it has taken and keeps its rule (R108). -/
structure Keypad.Keeps (k l : Keypad) : Prop where
  kept : l.kept = k.kept
  scanning : l.scanning = k.scanning
  deferred : l.deferred = k.deferred
  room : k.RoomKept → l.RoomKept

/-- A change of the Heating Controller outside the reports and the reserve handshake (R33, R34). -/
structure Heat.Keeps (h i : Heat) : Prop where
  kept : i.kept = h.kept
  reserveHeld : i.reserveHeld = h.reserveHeld
  reserve : (h.reserveHeld = false → h.reserve = 0) → i.reserveHeld = false → i.reserve = 0

/-- A change of the Liveness Monitor outside the reports: the stage stays, or is one of the two of RUNNING (R84 to
R86). -/
abbrev Liveness.Keeps (l m : Liveness) : Prop :=
  m.stage = l.stage ∨
    ((l.stage = .watching ∨ l.stage = .warned) ∧ (m.stage = .watching ∨ m.stage = .warned))

/-- The sequencer is where the board is on or about to be: in phase RESERVE or after it (R53, R59). -/
def PowerSeq.Reserved (p : PowerSeq) : Prop :=
  powerEnableIn p.state p.phase = true ∨ (p.state = .starting ∧ p.phase = some .reserve)

/-- A transition to this target needs no reserve request: the reserve is not requested by it, and is held already where
the board turns on (R55, R59). -/
structure PowerSeq.MayEnter (t : Target) (p : PowerSeq) : Prop where
  notReserve : ¬(t.state = .starting ∧ t.phase = some .reserve)
  reserved : powerEnableIn t.state t.phase = true → p.Reserved

/-! ## The changes -/

/-- What makes a change: a block in its own state, a press or a hold that carries out a panel action (R70), the Power
Sequencer elsewhere, a resume (R72), the monitor's judgement of heat-dim (R47), the scan's beginning and end (R96),
and the step's own taking of the command from the queue. -/
inductive Change where
  | own | panel | sequencer | resume | dim | scan | queue
  deriving DecidableEq

/-- An elementary change of the state in a command's work, by what makes it. -/
inductive State.Move : Change → State → State → Prop where
  | frame (s : State) (clockMs choices : Nat) (store : StoreImage) (meas : Meas) (beeper : Beeper) (disp : DispPort)
      (switch : Switch) : Move .own s { s with
        clockMs := clockMs, choices := choices, store := store, meas := meas, beeper := beeper, disp := disp
        switch := switch }
  | tables {s : State} {t : Tables} {q : List QueuedFrame} (limit : t.params.restartLimit = s.params.restartLimit)
      (queue : FramesRight s.tables.coalesceOf s.path.queue → FramesRight t.coalesceOf q) :
      Move .own s { s with tables := t, path := { s.path with queue := q } }
  | heat {s : State} {h : Heat} (keeps : s.heat.Keeps h) : Move .own s { s with heat := h }
  | thermal {s : State} {t : Thermal} (kept : t.kept = s.thermal.kept) (heatDim : t.heatDim = s.thermal.heatDim) :
      Move .own s { s with thermal := t }
  | live {s : State} {l : Liveness} (keeps : s.live.Keeps l) : Move .own s { s with live := l }
  | power (s : State) (timer : Option Timer) (pgSeen pgLevel : Bool) : Move .own s { s with
      power := { s.power with timer := timer, pgSeen := pgSeen, pgLevel := pgLevel } }
  | keypad {s : State} {k : Keypad} (keeps : s.keypad.Keeps k) : Move .own s { s with keypad := k }
  | matcher {s : State} {m : Matcher} (kept : m.kept = s.matcher.kept) (deferred : m.deferred = s.matcher.deferred) :
      Move .own s { s with matcher := m }
  | takeReports (s : State) : Move .own s s.takeReports
  | sys {s : State} {p : SysPort} (keeps : s.sys.Keeps p) : Move .own s { s with sys := p }
  | path {s : State} {p : DisplayPath} (keeps : s.path.Keeps s.tables.coalesceOf p) : Move .own s { s with path := p }
  | mgmt {s : State} {m : Mgmt} (keeps : s.mgmt.Keeps m) : Move .own s { s with mgmt := m }
  | carryOut {s : State} (a : PanelAction) (slot : SlotField) (acts : s.power.state = a.actsIn) :
      Move .panel s (s.carryOut a slot)
  | restartList {s : State} {l : List (BitVec 32)}
      (length : l.length ≤ s.power.restartList.length ∨ l.length ≤ s.params.restartLimit) :
      Move .sequencer s { s with power := { s.power with restartList := l } }
  | limit {s : State} {t : Tables} {q : List QueuedFrame}
      (queue : FramesRight s.tables.coalesceOf s.path.queue → FramesRight t.coalesceOf q) : Move .sequencer s { s with
        tables := t, power := { s.power with restartList := trimList t.params.restartLimit s.power.restartList }
        path := { s.path with queue := q } }
  | transition {s : State} {t : Target} (cs : List (Cause × Option SlotField)) (enters : s.power.MayEnter t)
      (leaves : s.power.state ≠ .hotOff ∧ s.power.state ≠ .serviceHold) : Move .sequencer s (s.transition t cs)
  | shutdownAtOnce {s : State} (cs : List (Cause × Option SlotField)) (leaves : s.power.state = .starting) :
      Move .sequencer s ((s.transition (toShutdown .hotOff 0) cs).transition toHotOff [])
  | enterReserve {s : State} (cs : List (Cause × Option SlotField)) (leaves : s.power.state = .preheat) :
      Move .sequencer s (s.enterReserve cs)
  | resume {s : State} (leaves : s.power.state = .hotOff) : Move .resume s s.thermalResume
  | judged {s : State} {t : Thermal} (kept : t.kept = s.thermal.kept) : Move .dim s { s with thermal := t }
  | heatDim (s : State) (b : Bool) : Move .dim s { s with path := { s.path with heatDim := b } }
  | scanBegins {s : State} {k : Keypad} (scanning : k.scanning = true) (kept : k.kept = s.keypad.kept)
      (deferred : k.deferred = s.keypad.deferred) (room : s.keypad.RoomKept → k.RoomKept) : Move .scan s { s with keypad := k }
  | queue (s : State) (q : List Instr) : Move .queue s { s with pending := q }
  | scanEnds (s : State) : Move .scan s (s.onKeypad Keypad.endScan).takeReports

/-- A run of changes, the blocks' own and those made by what is listed. -/
def State.Moves (by_ : List Change) : State → State → Prop :=
  Relation.ReflTransGen (fun s t => ∃ c, (c = .own ∨ c ∈ by_) ∧ State.Move c s t)

namespace State.Moves

variable {by_ : List Change} {s₀ s t : State}

theorem refl (s : State) : Moves by_ s s := Relation.ReflTransGen.refl

theorem trans (h : Moves by_ s₀ s) (h' : Moves by_ s t) : Moves by_ s₀ t := Relation.ReflTransGen.trans h h'

theorem own (h : Moves by_ s₀ s) (m : Move .own s t) : Moves by_ s₀ t := .tail h ⟨.own, .inl rfl, m⟩

theorem move {c : Change} (h : Moves by_ s₀ s) (hc : c ∈ by_) (m : Move c s t) : Moves by_ s₀ t :=
  .tail h ⟨c, .inr hc, m⟩

theorem mono {more : List Change} (h : Moves by_ s t) (hsub : ∀ c ∈ by_, c ∈ more) : Moves more s t :=
  Relation.ReflTransGen.mono (fun _ _ ⟨c, hc, m⟩ => ⟨c, hc.imp_right (hsub c), m⟩) _ _ h

/-- What every change keeps, a run of changes keeps. -/
theorem keeps {P : State → Prop} (h : Moves by_ s t) (hs : P s)
    (hP : ∀ c a b, c = .own ∨ c ∈ by_ → Move c a b → P a → P b) : P t := by
  induction h with
  | refl => exact hs
  | tail _ hm ih =>
    obtain ⟨c, hc, m⟩ := hm
    exact hP c _ _ hc m ih

end State.Moves

end Sys2Proof.Machine
end


section
/-! PROOF. The invariants of the Power Sequencer's neighbours, kept by every elementary change. -/

namespace Sys2Proof.Machine

/-! ## Compound changes as transitions -/

/-- A panel action is a transition, SERVICE_RELEASE from an emptied restart window list (R70, R73). -/
theorem State.carryOut_eq (a : PanelAction) (slot : SlotField) (s : State) :
    ∃ l t cs, (l = s.power.restartList ∨ l = []) ∧
      s.carryOut a slot = State.transition t cs { s with power := { s.power with restartList := l } } ∧
      (s.power.state = a.actsIn → s.power.MayEnter t) := by
  cases a with
  | powerOn => exact ⟨_, toPreheat s.params, _, .inl rfl, rfl, fun _ => ⟨by simp [toPreheat], by simp [toPreheat, powerEnableIn]⟩⟩
  | restart =>
    refine ⟨_, toPulse s.params, _, .inl rfl, rfl, fun h => ⟨by simp [toPulse], fun _ => .inl ?_⟩⟩
    rw [show s.power.state = .running from h]
    rfl
  | serviceRelease =>
    exact ⟨_, toPreheat s.params, _, .inr rfl, rfl, fun _ => ⟨by simp [toPreheat], by simp [toPreheat, powerEnableIn]⟩⟩

theorem State.thermalResume_eq {s : State} (h : s.power.state = .hotOff) : s.thermalResume =
    s.transition (if s.params.autoResume then toPreheat s.params else toOff) [(.thermalResume, none)] := if_pos h

theorem PowerSeq.mayEnter_resumed (p : PowerSeq) (q : Params) :
    p.MayEnter (if q.autoResume then toPreheat q else toOff) := by
  cases q.autoResume <;> exact ⟨by simp [toPreheat, toOff], by simp [toPreheat, toOff, powerEnableIn]⟩

/-- An invariant that each kind of change keeps, whatever a transition's target. -/
structure State.Steady (P : State → Prop) : Prop where
  own {s t : State} (m : Move .own s t) : P s → P t
  restartList {s : State} {l : List (BitVec 32)}
    (length : l.length ≤ s.power.restartList.length ∨ l.length ≤ s.params.restartLimit) :
    P s → P { s with power := { s.power with restartList := l } }
  limit {s : State} {t : Tables} {q : List QueuedFrame}
    (queue : FramesRight s.tables.coalesceOf s.path.queue → FramesRight t.coalesceOf q) : P s → P { s with
      tables := t, power := { s.power with restartList := trimList t.params.restartLimit s.power.restartList }
      path := { s.path with queue := q } }
  transition (t : Target) (cs : List (Cause × Option SlotField)) (s : State) : P s → P (s.transition t cs)
  request (s : State) : P s → P (s.onHeat (Heat.reserveRequest s.params))
  dim {s t : State} (m : Move .dim s t) : P s → P t
  scan {s t : State} (m : Move .scan s t) : P s → P t
  queue (s : State) (q : List Instr) : P s → P { s with pending := q }

theorem State.Steady.keeps {P : State → Prop} (hP : State.Steady P) {by_ : List Change} {s t : State}
    (h : Moves by_ s t) : P s → P t := by
  refine fun hs => h.keeps hs fun c a b _ m ha => ?_
  cases c with
  | own => exact hP.own m ha
  | dim => exact hP.dim m ha
  | scan => exact hP.scan m ha
  | queue =>
    cases m with
    | queue _ q => exact hP.queue a q ha
  | resume =>
    cases m with
    | resume leaves => exact a.thermalResume_eq leaves ▸ hP.transition _ _ a ha
  | panel =>
    cases m with
    | carryOut action slot _ =>
      obtain ⟨l, t, cs, hl, heq, -⟩ := a.carryOut_eq action slot
      rw [heq]
      refine hP.transition t cs _ (hP.restartList (.inl ?_) ha)
      obtain rfl | rfl := hl <;> simp
  | sequencer =>
    cases m with
    | restartList length => exact hP.restartList length ha
    | limit queue => exact hP.limit queue ha
    | transition cs _ _ => exact hP.transition _ cs a ha
    | shutdownAtOnce cs _ => exact hP.transition _ _ _ (hP.transition _ cs a ha)
    | enterReserve cs _ =>
      have h := hP.request _ (hP.transition toReserve cs a ha)
      rwa [show (a.transition toReserve cs).params = a.params from congrArg Tables.params (by simp)] at h

/-! ## Invariants of one block and the sequencer -/

theorem State.steady_outputsRight : State.Steady (fun s => s.power.OutputsRight) where
  own m h := by cases m <;> exact h
  restartList _ h := h
  limit _ h := h
  transition t cs s _ := s.transition_outputsRight t cs
  request _ h := h
  queue _ _ h := h
  dim m h := by cases m <;> exact h
  scan m h := by cases m <;> exact h

/-- The restart window list and the Restart Log (R66, R74). -/
theorem State.steady_listsBounded : State.Steady State.ListsBounded where
  own m h := by
    cases m with
    | tables limit _ => exact ⟨limit ▸ h.1, h.2⟩
    | _ => exact h
  restartList length h := ⟨length.elim (fun hl => hl.trans h.1) id, h.2⟩
  limit _ h := ⟨trimList_length_le _ _, h.2⟩
  transition t cs s h := by
    have hp := s.transition_entered t cs
    refine ⟨?_, hp.log h.2⟩
    rw [hp.restartList, State.params, (State.transition_keeps ..).2.2.2.1]
    exact h.1
  request _ h := h
  queue _ _ h := h
  dim m h := by cases m <;> exact h
  scan m h := by cases m <;> exact h

/-- A flushed queue and reported-down set leave room (R110). -/
theorem Keypad.takeReport_room {k : Keypad} (h : k.RoomKept) (st : PowerState) : (k.takeReport st).RoomKept := by
  unfold Keypad.takeReport
  split
  · exact Nat.zero_le _
  · exact h

theorem Keypad.endScan_room {k : Keypad} (h : k.RoomKept) : k.endScan.RoomKept := by
  unfold Keypad.endScan
  generalize hk : ({ k with scanning := false, deferred := [], scans := k.scans + 1 } : Keypad) = l
  have hl : l.RoomKept := hk ▸ h
  clear hk
  induction k.deferred generalizing l with
  | nil => exact hl
  | cons st sts ih => exact ih _ (Keypad.takeReport_room hl st)

/-- The key event queue's room (R108). -/
theorem State.steady_roomKept : State.Steady (fun s => s.keypad.RoomKept) where
  own m h := by
    cases m with
    | keypad keeps => exact keeps.room h
    | _ => exact h
  restartList _ h := h
  limit _ h := h
  transition t cs s h := by
    rw [State.transition_keypad]
    unfold Keypad.onReport
    split
    · exact h
    · exact Keypad.takeReport_room h _
  request _ h := h
  queue _ _ h := h
  dim m h := by cases m <;> exact h
  scan m h := by
    cases m with
    | scanBegins _ _ _ room => exact room h
    | scanEnds => exact Keypad.endScan_room h

/-- The notice queue (R175, R176). -/
theorem State.steady_queueRight : State.Steady (fun s => s.mgmt.QueueRight) where
  own m h := by
    cases m with
    | mgmt keeps => exact keeps.queue h
    | _ => exact h
  restartList _ h := h
  limit _ h := h
  transition t cs s h := by
    obtain ⟨hkept, -, hqueue⟩ := Mgmt.notices_eq_iff.mp (s.transition_notices t cs)
    obtain ⟨hnodup, -⟩ := h
    dsimp only [Mgmt.QueueRight]
    rw [hkept, hqueue]
    simp only [Mgmt.onReport]
    split
    next hacc => exact ⟨hnodup, fun hno => by rw [hacc] at hno; cases hno⟩
    next => exact ⟨List.nodup_nil, fun _ => rfl⟩
  request _ h := h
  queue _ _ h := h
  dim m h := by cases m <;> exact h
  scan m h := by cases m <;> exact h

/-- The display path's queue and state after a transition (R154). -/
theorem DisplayPath.onBoard_queue (q : Params) (now : Nat) (sending on off : Bool) (p : DisplayPath) :
    (p.onBoard q now sending on off).queue = p.queue ∨ (p.onBoard q now sending on off).queue = [] := by
  unfold DisplayPath.onBoard
  (repeat' split) <;> simp

/-- The display queue (R153, R160). -/
theorem State.steady_displayQueueRight : State.Steady State.DisplayQueueRight where
  own m h := by
    cases m with
    | tables _ queue => exact queue h
    | path keeps => exact keeps.queue h
    | _ => exact h
  restartList _ h := h
  limit queue h := queue h
  transition t cs s h := by
    have htables : (s.transition t cs).tables = s.tables := (State.transition_keeps ..).2.2.2.1
    have hq : FramesRight s.tables.coalesceOf (s.transition t cs).path.queue := by
      rw [State.transition_path]
      obtain hq | hq := DisplayPath.onBoard_queue s.params s.clockMs s.disp.tx.isSome (s.power.turnsOn t)
        (s.power.turnsOff t) s.path <;> rw [hq]
      · exact h
      · exact ⟨Nat.zero_le _, fun _ _ => Nat.zero_le _⟩
    unfold State.DisplayQueueRight
    rw [htables]
    exact hq
  request _ h := h
  queue _ _ h := h
  dim m h := by cases m <;> exact h
  scan m h := by cases m <;> exact h

/-- The system port (R133, R137). -/
theorem State.linkRight_iff (s : State) :
    s.LinkRight ↔ s.sys.isLive = (s.power.boardPower && !s.power.resetAsserted) ∧ s.sys.Right :=
  ⟨fun ⟨hlive, hfwd, hdead⟩ => ⟨hlive, hfwd, hdead⟩, fun ⟨hlive, hright⟩ => ⟨hlive, hright.fwd, hright.dead⟩⟩

theorem State.steady_linkRight : State.Steady State.LinkRight where
  own m h := by
    cases m with
    | sys keeps =>
      obtain ⟨hlive, hright⟩ := (State.linkRight_iff _).mp h
      exact (State.linkRight_iff _).mpr ⟨keeps.isLive.trans hlive, keeps.right hright⟩
    | _ => exact h
  restartList _ h := h
  limit _ h := h
  transition t cs s h := (State.linkRight_iff _).mpr
    ⟨s.transition_isLive t cs, s.transition_sys_right t cs ((State.linkRight_iff s).mp h).2⟩
  request _ h := h
  queue _ _ h := h
  dim m h := by cases m <;> exact h
  scan m h := by cases m <;> exact h

/-- The display path (R154, R156, R158). -/
theorem State.steady_pathRight : State.Steady State.PathRight where
  own m h := by
    cases m with
    | path keeps => exact ⟨keeps.off.trans h.1, keeps.power h.2⟩
    | _ => exact h
  restartList _ h := h
  limit _ h := h
  transition t cs s h := by
    have hb := (s.transition_entered t cs).boardPower
    unfold State.PathRight
    rw [hb, State.transition_path]
    obtain ⟨hoff, hpower⟩ := h
    unfold DisplayPath.onBoard PowerSeq.turnsOn PowerSeq.turnsOff
    cases hs : s.power.boardPower <;> cases powerEnableIn t.state t.phase <;> simp_all
  request _ h := h
  queue _ _ h := h
  dim m h := by cases m <;> exact h
  scan m h := by cases m <;> exact h

/-! ## The reserve (R33, R34, R55) -/

/-- With the outputs right, the board may be on where board power is or phase RESERVE. -/
theorem PowerSeq.reserved_iff {p : PowerSeq} (h : p.OutputsRight) :
    p.Reserved ↔ p.boardPower = true ∨ (p.state = .starting ∧ p.phase = some .reserve) := by
  rw [PowerSeq.Reserved, ((PowerSeq.outputsRight_iff p).mp h).1]

theorem Heat.onReport_reserve (st : PowerState) (h : Heat) :
    (h.onReport st).kept = st ∧ (h.onReport st).reserveHeld = h.reserveHeld ∧
      (h.onReport st).reserve = h.reserve := by
  unfold Heat.onReport
  dsimp only
  split <;> exact ⟨rfl, rfl, rfl⟩

/-- No reserve is in force after a transition that leaves none held (R34). -/
theorem State.transition_reserve {s : State} (h : s.heat.reserveHeld = false → s.heat.reserve = 0) (t : Target)
    (cs : List (Cause × Option SlotField)) :
    (s.transition t cs).heat.reserveHeld = false → (s.transition t cs).heat.reserve = 0 := by
  rw [State.transition_heat, (Heat.onReport_reserve _ _).2.1, (Heat.onReport_reserve _ _).2.2]
  split
  · unfold Heat.reserveRelease
    split
    · exact fun _ => rfl
    · exact h
  · exact h

/-- A transition keeps the reserve right where it turns the board on with the reserve held alone (R55, R59). -/
theorem State.transition_reserveRight_of_held {s : State}
    (hheld : s.heat.reserveHeld = true →
      s.power.boardPower = true ∨ (s.power.state = .starting ∧ s.power.phase = some .reserve))
    (hreserve : s.heat.reserveHeld = false → s.heat.reserve = 0) {t : Target}
    (hnot : ¬(t.state = .starting ∧ t.phase = some .reserve))
    (hon : powerEnableIn t.state t.phase = true → s.heat.reserveHeld = true)
    (cs : List (Cause × Option SlotField)) : (s.transition t cs).ReserveRight := by
  have hp := s.transition_entered t cs
  rw [← hp.state, ← hp.phase] at hnot
  refine ⟨s.transition_outputsRight t cs, ?_, State.transition_reserve hreserve t cs⟩
  rw [s.transition_heat, (Heat.onReport_reserve _ _).2.1, or_iff_left hnot, hp.boardPower]
  unfold PowerSeq.releases
  cases hon' : powerEnableIn t.state t.phase with
  | true => simpa using hon hon'
  | false =>
    split
    next => simp [Heat.reserveRelease_not_held]
    next hno =>
      simp only [Bool.not_false, Bool.true_and, Bool.or_eq_true, Bool.and_eq_true, decide_eq_true_eq] at hno
      simpa using fun hh => hno (hheld hh)

theorem State.transition_reserveRight {s : State} (h : s.ReserveRight) {t : Target} (ht : s.power.MayEnter t)
    (cs : List (Cause × Option SlotField)) : (s.transition t cs).ReserveRight := by
  obtain ⟨houtputs, hheld, hreserve⟩ := h
  exact State.transition_reserveRight_of_held hheld.mp hreserve ht.notReserve
    (fun hon => hheld.mpr ((PowerSeq.reserved_iff houtputs).mp (ht.reserved hon))) cs

/-- A shutdown without grace from a start-up turns the board off again, whatever it did in between (R67, R68). -/
theorem State.shutdownAtOnce_reserveRight {s : State} (h : s.ReserveRight) (cs : List (Cause × Option SlotField)) :
    ((s.transition (toShutdown .hotOff 0) cs).transition toHotOff []).ReserveRight :=
  State.transition_reserveRight_of_held (fun _ => .inl (s.transition_entered _ cs).boardPower)
    (State.transition_reserve h.2.2 _ cs) (by simp [toHotOff]) (by simp [toHotOff, powerEnableIn]) []

/-- Phase RESERVE is entered with its request (R33, R59). -/
theorem State.enterReserve_reserveRight (s : State) (cs : List (Cause × Option SlotField)) :
    (s.enterReserve cs).ReserveRight := by
  have hp := s.transition_entered toReserve cs
  exact ⟨s.transition_outputsRight toReserve cs, iff_of_true rfl (.inr ⟨hp.state, hp.phase⟩), fun hno => by cases hno⟩

theorem State.Moves.reserveRight {by_ : List Change} {s t : State} (h : Moves by_ s t) :
    s.ReserveRight → t.ReserveRight := by
  refine fun hs => h.keeps hs fun c a b _ m ha => ?_
  cases m with
  | heat keeps =>
    obtain ⟨houtputs, hheld, hreserve⟩ := ha
    exact ⟨houtputs, keeps.reserveHeld ▸ hheld, keeps.reserve hreserve⟩
  | carryOut action slot acts =>
    obtain ⟨l, t, cs, -, heq, ht⟩ := a.carryOut_eq action slot
    obtain ⟨hnot, hon⟩ := ht acts
    rw [heq]
    exact State.transition_reserveRight (s := { a with power := { a.power with restartList := l } }) ha ⟨hnot, hon⟩ cs
  | transition cs enters _ => exact State.transition_reserveRight ha enters cs
  | shutdownAtOnce cs _ => exact State.shutdownAtOnce_reserveRight ha cs
  | enterReserve cs _ => exact a.enterReserve_reserveRight cs
  | resume leaves =>
    exact a.thermalResume_eq leaves ▸ State.transition_reserveRight ha (a.power.mayEnter_resumed a.params) _
  | _ => exact ha

/-! ## The kept power states and the liveness stage (R55, R77) -/

/-- Every block's kept power state is the sequencer's, or will be when the reports that wait for a scan's end are taken
(R55, R96, R116). -/
structure State.KeptSoon (s : State) : Prop where
  heat : s.heat.kept = s.power.state
  thermal : s.thermal.kept = s.power.state
  mgmt : s.mgmt.kept = s.power.state
  keypad : s.keypad.deferred.getLastD s.keypad.kept = s.power.state
  matcher : s.matcher.deferred.getLastD s.matcher.kept = s.power.state
  waits : s.keypad.scanning = false → s.keypad.deferred = [] ∧ s.matcher.deferred = []

theorem State.KeptRight.soon {s : State} (h : s.KeptRight) (hrest : s.AtRest) : s.KeptSoon := by
  obtain ⟨hheat, hthermal, hkeypad, hmatcher, hmgmt⟩ := h
  obtain ⟨-, -, -, hdeferred, hwaiting⟩ := hrest
  exact ⟨hheat, hthermal, hmgmt, by rw [hdeferred]; exact hkeypad, by rw [hwaiting]; exact hmatcher,
    fun _ => ⟨hdeferred, hwaiting⟩⟩

theorem State.KeptSoon.right {s : State} (h : s.KeptSoon) (hscan : s.keypad.scanning = false) : s.KeptRight := by
  obtain ⟨hdeferred, hwaiting⟩ := h.waits hscan
  exact ⟨h.heat, h.thermal, by simpa [hdeferred] using h.keypad, by simpa [hwaiting] using h.matcher, h.mgmt⟩

theorem Matcher.takeReports_deferred (slots : Vector SeqSlot 4) (m : Matcher) :
    (m.takeReports slots).deferred = [] ∧ (m.takeReports slots).kept = m.deferred.getLastD m.kept := by
  unfold Matcher.takeReports
  generalize hm : ({ m with deferred := [] } : Matcher) = n
  have hd : n.deferred = [] := hm ▸ rfl
  have hk : n.kept = m.kept := hm ▸ rfl
  rw [← hk]
  clear hm hk
  induction m.deferred generalizing n with
  | nil => exact ⟨hd, rfl⟩
  | cons st sts ih =>
    obtain ⟨h1, h2⟩ := ih (n.onReport slots st) hd
    exact ⟨h1, h2.trans (by cases sts <;> rfl)⟩

@[simp] theorem Keypad.takeReport_kept (k : Keypad) (st : PowerState) :
    (k.takeReport st).kept = st ∧ (k.takeReport st).scanning = k.scanning ∧
      (k.takeReport st).deferred = k.deferred := by
  unfold Keypad.takeReport
  split <;> exact ⟨rfl, rfl, rfl⟩

theorem Keypad.endScan_kept (k : Keypad) : k.endScan.kept = k.deferred.getLastD k.kept ∧
    k.endScan.scanning = false ∧ k.endScan.deferred = [] := by
  unfold Keypad.endScan
  generalize hk : ({ k with scanning := false, deferred := [], scans := k.scans + 1 } : Keypad) = l
  have hs : l.scanning = false := hk ▸ rfl
  have hd : l.deferred = [] := hk ▸ rfl
  have hkept : l.kept = k.kept := hk ▸ rfl
  rw [← hkept]
  clear hk hkept
  induction k.deferred generalizing l with
  | nil => exact ⟨rfl, hs, hd⟩
  | cons st sts ih =>
    obtain ⟨h1, h2⟩ := ih (l.takeReport st) (by simpa using hs) (by simpa using hd)
    refine ⟨h1.trans ?_, h2⟩
    cases sts with
    | nil => exact (l.takeReport_kept st).1
    | cons st' sts => rfl

theorem State.transition_keptSoon {s : State} (h : s.KeptSoon) (t : Target) (cs : List (Cause × Option SlotField)) :
    (s.transition t cs).KeptSoon := by
  have hp := s.transition_entered t cs
  have hkeypad := s.transition_keypad t cs
  have hmatcher := s.transition_matcher t cs
  have hmgmt : (s.transition t cs).mgmt.kept = t.state := Mgmt.kept_of_notices (s.transition_notices t cs)
  have hheat : (s.transition t cs).heat.kept = t.state := by
    rw [s.transition_heat, (Heat.onReport_reserve _ _).1]
  have hthermal : (s.transition t cs).thermal.kept = t.state := by
    rw [s.transition_thermal]
    rfl
  have hreports : ((s.transition t cs).keypad.deferred.getLastD (s.transition t cs).keypad.kept = t.state ∧
      (s.transition t cs).matcher.deferred.getLastD (s.transition t cs).matcher.kept = t.state) ∧
      ((s.transition t cs).keypad.scanning = false →
        (s.transition t cs).keypad.deferred = [] ∧ (s.transition t cs).matcher.deferred = []) := by
    rw [hkeypad, hmatcher]
    unfold Keypad.onReport Matcher.reportArrives
    cases hscan : s.keypad.scanning with
    | true => simp
    | false =>
      obtain ⟨hdeferred, hwaiting⟩ := h.waits hscan
      simp [hdeferred, hwaiting, Matcher.onReport]
  obtain ⟨⟨hk, hm⟩, hwaits⟩ := hreports
  rw [← hp.state] at hheat hthermal hmgmt hk hm
  exact ⟨hheat, hthermal, hmgmt, hk, hm, hwaits⟩

theorem State.steady_keptSoon : State.Steady State.KeptSoon where
  own {s t} m h := by
    obtain ⟨hheat, hthermal, hmgmt, hkeypad, hmatcher, hwaits⟩ := h
    cases m with
    | heat keeps => exact ⟨keeps.kept.trans hheat, hthermal, hmgmt, hkeypad, hmatcher, hwaits⟩
    | thermal kept _ => exact ⟨hheat, kept.trans hthermal, hmgmt, hkeypad, hmatcher, hwaits⟩
    | mgmt keeps => exact ⟨hheat, hthermal, keeps.kept.trans hmgmt, hkeypad, hmatcher, hwaits⟩
    | keypad keeps =>
      exact ⟨hheat, hthermal, hmgmt, by rw [keeps.deferred, keeps.kept]; exact hkeypad, hmatcher,
        by rw [keeps.scanning, keeps.deferred]; exact hwaits⟩
    | matcher kept deferred =>
      exact ⟨hheat, hthermal, hmgmt, hkeypad, by rw [deferred, kept]; exact hmatcher, by rw [deferred]; exact hwaits⟩
    | takeReports =>
      obtain ⟨hnone, hkept⟩ := s.matcher.takeReports_deferred s.tables.sequences
      exact ⟨hheat, hthermal, hmgmt, hkeypad, by rw [State.takeReports, State.onMatcher_matcher, hnone, hkept]; exact hmatcher,
        fun hs => ⟨(hwaits hs).1, hnone⟩⟩
    | _ => exact ⟨hheat, hthermal, hmgmt, hkeypad, hmatcher, hwaits⟩
  restartList _ h := ⟨h.heat, h.thermal, h.mgmt, h.keypad, h.matcher, h.waits⟩
  limit _ h := ⟨h.heat, h.thermal, h.mgmt, h.keypad, h.matcher, h.waits⟩
  transition t cs _ h := State.transition_keptSoon h t cs
  request _ h := ⟨h.heat, h.thermal, h.mgmt, h.keypad, h.matcher, h.waits⟩
  queue _ _ h := ⟨h.heat, h.thermal, h.mgmt, h.keypad, h.matcher, h.waits⟩
  dim m h := by
    obtain ⟨hheat, hthermal, hmgmt, hkeypad, hmatcher, hwaits⟩ := h
    cases m with
    | judged kept => exact ⟨hheat, kept.trans hthermal, hmgmt, hkeypad, hmatcher, hwaits⟩
    | heatDim => exact ⟨hheat, hthermal, hmgmt, hkeypad, hmatcher, hwaits⟩
  scan {s t} m h := by
    obtain ⟨hheat, hthermal, hmgmt, hkeypad, hmatcher, hwaits⟩ := h
    cases m with
    | scanBegins scanning kept deferred _ => 
      refine ⟨hheat, hthermal, hmgmt, by rw [deferred, kept]; exact hkeypad, hmatcher, fun hno => ?_⟩
      cases scanning.symm.trans hno
    | scanEnds =>
      obtain ⟨hkept, -, hdone⟩ := s.keypad.endScan_kept
      obtain ⟨hnone, hlast⟩ := s.matcher.takeReports_deferred s.tables.sequences
      refine ⟨hheat, hthermal, hmgmt, ?_, ?_, fun _ => ⟨hdone, hnone⟩⟩
      · rw [State.takeReports, State.onMatcher_keypad, State.onKeypad_keypad, hdone]
        exact hkept.trans hkeypad
      · rw [State.takeReports, State.onMatcher_matcher, State.onKeypad_matcher, State.onKeypad_tables, hnone]
        exact hlast.trans hmatcher

/-- WATCHING and WARNED are stages of RUNNING (R77, R85). -/
theorem State.running_of_watched (s : State) (h : s.StageRight)
    (hw : s.live.stage = .watching ∨ s.live.stage = .warned) : s.power.state = .running := by
  obtain h | ⟨-, h⟩ := h
  · rw [h, ← stageFor_eq_stageIn] at hw
    unfold stageFor at hw
    split at hw <;> simp_all
  · exact h

/-- The liveness stage (R77, R85). -/
theorem State.steady_stageRight : State.Steady State.StageRight where
  own {s t} m h := by
    cases m with
    | live keeps =>
      obtain hsame | ⟨hold, hnew⟩ := keeps
      · unfold State.StageRight
        rwa [hsame]
      · have hrunning : s.power.state = .running := s.running_of_watched h hold
        refine hnew.imp (fun hw => ?_) (fun hw => ⟨hw, hrunning⟩)
        rw [hw, hrunning]
        rfl
    | _ => exact h
  restartList _ h := h
  limit _ h := h
  transition t cs s _ := by
    have hp := s.transition_entered t cs
    refine .inl ?_
    rw [s.transition_live, hp.state, hp.phase, ← stageFor_eq_stageIn]
    unfold Liveness.onReport
    split <;> rfl
  request _ h := h
  queue _ _ h := h
  dim m h := by cases m <;> exact h
  scan m h := by cases m <;> exact h

/-! ## What some of the changes never touch -/

namespace State.Moves

variable {by_ : List Change} {s t : State}

/-- Outside the monitor's judgement neither copy of heat-dim changes (R47, R164). -/
theorem heatDim_eq (h : Moves by_ s t) (hdim : Change.dim ∉ by_) :
    t.path.heatDim = s.path.heatDim ∧ t.thermal.heatDim = s.thermal.heatDim := by
  have transition (a : State) (g : Target) (cs : List (Cause × Option SlotField)) :
      (a.transition g cs).path.heatDim = a.path.heatDim ∧ (a.transition g cs).thermal.heatDim = a.thermal.heatDim := by
    refine ⟨?_, by rw [a.transition_thermal]; rfl⟩
    rw [a.transition_path]
    unfold DisplayPath.onBoard
    (repeat' split) <;> rfl
  refine h.keeps (P := fun t => t.path.heatDim = s.path.heatDim ∧ t.thermal.heatDim = s.thermal.heatDim) ⟨rfl, rfl⟩
    fun c a b hc m ⟨hpath, hthermal⟩ => ?_
  cases m with
  | thermal _ heatDim => exact ⟨hpath, heatDim.trans hthermal⟩
  | path keeps => exact ⟨keeps.heatDim.trans hpath, hthermal⟩
  | carryOut action slot _ =>
    obtain ⟨l, g, cs, -, heq, -⟩ := a.carryOut_eq action slot
    rw [heq]
    exact ⟨(transition _ g cs).1.trans hpath, (transition _ g cs).2.trans hthermal⟩
  | transition cs _ _ => exact ⟨(transition _ _ cs).1.trans hpath, (transition _ _ cs).2.trans hthermal⟩
  | enterReserve cs _ => exact ⟨(transition _ _ cs).1.trans hpath, (transition _ _ cs).2.trans hthermal⟩
  | shutdownAtOnce cs _ =>
    exact ⟨((transition _ _ _).1.trans (transition _ _ _).1).trans hpath,
      ((transition _ _ _).2.trans (transition _ _ _).2).trans hthermal⟩
  | resume leaves =>
    rw [a.thermalResume_eq leaves]
    exact ⟨(transition _ _ _).1.trans hpath, (transition _ _ _).2.trans hthermal⟩
  | judged _ | heatDim => exact absurd (hc.resolve_left (by decide)) hdim
  | _ => exact ⟨hpath, hthermal⟩

/-- Outside a scan's beginning and end the scanner's own mark stays (R96). -/
theorem scanning_eq (h : Moves by_ s t) (hscan : Change.scan ∉ by_) : t.keypad.scanning = s.keypad.scanning := by
  have transition (a : State) (g : Target) (cs : List (Cause × Option SlotField)) :
      (a.transition g cs).keypad.scanning = a.keypad.scanning := by
    rw [a.transition_keypad]
    unfold Keypad.onReport
    split <;> simp
  refine h.keeps (P := fun t => t.keypad.scanning = s.keypad.scanning) rfl fun c a b hc m ha => ?_
  cases m with
  | keypad keeps => exact keeps.scanning.trans ha
  | carryOut action slot _ =>
    obtain ⟨l, g, cs, -, heq, -⟩ := a.carryOut_eq action slot
    exact heq ▸ (transition _ g cs).trans ha
  | transition cs _ _ | enterReserve cs _ => exact (transition _ _ cs).trans ha
  | shutdownAtOnce cs _ => exact ((transition _ _ _).trans (transition _ _ _)).trans ha
  | resume leaves => exact a.thermalResume_eq leaves ▸ (transition _ _ _).trans ha
  | scanBegins | scanEnds => exact absurd (hc.resolve_left (by decide)) hscan
  | _ => exact ha

/-- Only the step itself takes a command from the queue. -/
theorem pending_eq (h : Moves by_ s t) (hqueue : Change.queue ∉ by_) : t.pending = s.pending := by
  refine h.keeps (P := fun t => t.pending = s.pending) rfl fun c a b hc m ha => ?_
  cases m with
  | takeReports | scanEnds | carryOut | transition | shutdownAtOnce | enterReserve | resume => simpa using ha
  | queue => exact absurd (hc.resolve_left (by decide)) hqueue
  | _ => exact ha

/-- HOT_OFF is left by a resume alone (R72). -/
theorem hotOff_stays (h : Moves by_ s t) (hresume : Change.resume ∉ by_) (hs : s.power.state = .hotOff) :
    t.power.state = .hotOff := by
  refine h.keeps (P := fun t => t.power.state = .hotOff) hs fun c a b hc m ha => ?_
  cases m with
  | carryOut action _ acts => cases action <;> cases acts.symm.trans ha
  | transition _ _ leaves => exact absurd ha leaves.1
  | enterReserve _ leaves | shutdownAtOnce _ leaves => cases leaves.symm.trans ha
  | resume => exact absurd (hc.resolve_left (by decide)) hresume
  | _ => exact ha

/-- SERVICE_HOLD is left by a panel action alone (R73). -/
theorem serviceHold_stays (h : Moves by_ s t) (hpanel : Change.panel ∉ by_) (hs : s.power.state = .serviceHold) :
    t.power.state = .serviceHold := by
  refine h.keeps (P := fun t => t.power.state = .serviceHold) hs fun c a b hc m ha => ?_
  cases m with
  | carryOut => exact absurd (hc.resolve_left (by decide)) hpanel
  | transition _ _ leaves => exact absurd ha leaves.2
  | enterReserve _ leaves | shutdownAtOnce _ leaves | resume leaves => cases leaves.symm.trans ha
  | _ => exact ha

end State.Moves

/-- In PREHEAT after SERVICE_RELEASE, with its record the newest (R70, R73). -/
structure PowerSeq.ServiceReleased (p : PowerSeq) : Prop where
  state : p.state = .preheat
  restartList : p.restartList = []
  record : p.log.head?.map LogRecord.cause = some .serviceReleased

theorem State.carryOut_serviceRelease (slot : SlotField) (s : State) :
    (s.carryOut .serviceRelease slot).power.ServiceReleased := by
  have heq : (s.carryOut .serviceRelease slot).power = _ := State.transition_power_eq ..
  rw [heq]
  exact ⟨rfl, rfl, rfl⟩

/-- From SERVICE_HOLD the panel's changes release, or leave the hold (R70, R73). -/
theorem State.Moves.serviceHold_released {by_ : List Change} {s t : State} (h : Moves by_ s t)
    (hby : Change.sequencer ∉ by_ ∧ Change.resume ∉ by_) (hs : s.power.state = .serviceHold) :
    t.power.state = .serviceHold ∨ t.power.ServiceReleased := by
  refine h.keeps (P := fun t => t.power.state = .serviceHold ∨ t.power.ServiceReleased) (.inl hs)
    fun c a b hc m ha => ?_
  cases m with
  | power timer pgSeen pgLevel => exact ha.imp_right fun ⟨hstate, hlist, hrecord⟩ => ⟨hstate, hlist, hrecord⟩
  | carryOut action slot acts =>
    cases action with
    | serviceRelease => exact .inr (a.carryOut_serviceRelease slot)
    | powerOn | restart => obtain ha | ⟨ha, -, -⟩ := ha <;> cases acts.symm.trans ha
  | restartList | limit | transition | shutdownAtOnce | enterReserve =>
    exact absurd (hc.resolve_left (by decide)) hby.1
  | resume => exact absurd (hc.resolve_left (by decide)) hby.2
  | _ => exact ha

end Sys2Proof.Machine
end


section
/-! PROOF. What the blocks' own operations do to the rules of their changes (R108, R133, R154, R160, R175). -/

namespace Sys2Proof.Machine

/-! ## The display queue (R160) -/

theorem replaceClass_length (f : QueuedFrame) (q : List QueuedFrame) : (replaceClass f q).length = q.length := by
  induction q with
  | nil => rfl
  | cons g q ih =>
    unfold replaceClass
    split <;> simp [ih]

/-- A replaced frame is of its class still, so that no class gains or loses a frame. -/
theorem replaceClass_filter_length (f : QueuedFrame) (c : Fin 64) (q : List QueuedFrame) :
    ((replaceClass f q).filter (fun g => g.cls = c)).length = (q.filter (fun g => g.cls = c)).length := by
  induction q with
  | nil => rfl
  | cons g q ih =>
    unfold replaceClass
    split
    next h => simp only [List.filter_cons, h]; split <;> rfl
    next => simp only [List.filter_cons]; split <;> simp [ih]

theorem FramesRight.mono {g g' : Fin 64 → Bool} {q : List QueuedFrame} (h : FramesRight g q)
    (hg : ∀ c, g' c = true → g c = true) : FramesRight g' q := ⟨h.1, fun c hc => h.2 c (hg c hc)⟩

theorem FramesRight.sublist {g : Fin 64 → Bool} {q r : List QueuedFrame} (h : FramesRight g q) (hr : r.Sublist q) :
    FramesRight g r :=
  ⟨hr.length_le.trans h.1, fun c hc => ((hr.filter _).length_le).trans (h.2 c hc)⟩

theorem FramesRight.nil (g : Fin 64 → Bool) : FramesRight g [] := ⟨Nat.zero_le _, fun _ _ => Nat.zero_le _⟩

/-- A frame appended where none of its class that coalesces waits (R160). -/
theorem FramesRight.append {g : Fin 64 → Bool} {q : List QueuedFrame} (h : FramesRight g q) {f : QueuedFrame}
    (hroom : q.length < 16) (hnone : g f.cls = true → q.any (fun e => e.cls = f.cls) = false) :
    FramesRight g (q ++ [f]) := by
  refine ⟨by simpa using hroom, fun c hc => ?_⟩
  rw [List.filter_append, List.length_append]
  by_cases hf : f.cls = c
  · subst hf
    have hempty : q.filter (fun e => e.cls = f.cls) = [] := by simpa using hnone hc
    rw [hempty]
    simp
  · simpa [hf] using h.2 c hc

/-- Placing a frame with its class's flag keeps the queue right (R160). -/
theorem DisplayPath.place_queue {g : Fin 64 → Bool} {p : DisplayPath} {f : QueuedFrame} (hf : f.coalesce = g f.cls)
    (h : FramesRight g p.queue) : FramesRight g (p.place f).queue := by
  unfold DisplayPath.place
  have none_waits (hno : ¬coalesces f p.queue = true) (hc : g f.cls = true) :
      p.queue.any (fun e => e.cls = f.cls) = false := by
    simpa [coalesces, hf, hc] using hno
  split
  next => exact ⟨by simpa [replaceClass_length] using h.1, fun c hc => by
    simpa only [replaceClass_filter_length] using h.2 c hc⟩
  next hno =>
    split
    next hfull =>
      have htail := h.sublist (List.tail_sublist p.queue)
      refine htail.append ?_ (fun hc => ?_)
      · have := h.1
        simp only [List.length_tail]
        omega
      · have hnone := none_waits hno hc
        simp only [List.any_eq_false] at hnone ⊢
        exact fun e he => hnone e (List.mem_of_mem_tail he)
    next hroom => exact h.append (not_le.mp hroom) (none_waits hno)

/-- The merge of a class (R160): no frame joins, other classes stay, and of the class at most one is left. -/
theorem mergeFrom_right {c : Fin 64} {new : QueuedFrame} (hnew : new.cls = c) (q : List QueuedFrame) :
    (mergeFrom c new q).length ≤ q.length ∧
      (∀ d ≠ c, (mergeFrom c new q).filter (fun e => e.cls = d) = q.filter (fun e => e.cls = d)) ∧
      ((mergeFrom c new q).filter (fun e => e.cls = c)).length ≤ 1 := by
  induction q with
  | nil => simp [mergeFrom]
  | cons f q ih =>
    obtain ⟨hlen, hother, hown⟩ := ih
    unfold mergeFrom
    split
    next hf =>
      refine ⟨by simpa using List.length_filter_le _ q, fun d hd => ?_, by simp [hnew, List.filter_filter]⟩
      have hfd : f.cls ≠ d := fun h => hd (h.symm.trans hf)
      have hnd : new.cls ≠ d := fun h => hd (h.symm.trans hnew)
      simp only [List.filter_cons, hfd, hnd, decide_false, List.filter_filter]
      simp only [Bool.false_eq_true, if_false]
      refine List.filter_congr fun e _ => ?_
      by_cases he : e.cls = d <;> simp [he, hd]
    next hf =>
      refine ⟨by simpa using hlen, fun d hd => ?_, by simpa [hf] using hown⟩
      simp only [List.filter_cons, hother d hd]

/-- "Coalesce set" keeps the queue right, with its class coalescing (R153, R160). -/
theorem FramesRight.merge {g : Fin 64 → Bool} {q : List QueuedFrame} (h : FramesRight g q) (c : Fin 64) :
    FramesRight (fun d => g d || decide (d = c)) (mergeClass c q) := by
  unfold mergeClass
  split
  next hnone =>
    have hempty : q.filter (fun e => e.cls = c) = [] := by simpa using hnone
    refine ⟨h.1, fun d hd => ?_⟩
    by_cases hdc : d = c
    · subst hdc; rw [hempty]; exact Nat.zero_le _
    · exact h.2 d (by simpa [hdc] using hd)
  next newest hlast =>
    have hcls : newest.cls = c := by simpa using (List.mem_filter.mp (List.mem_of_getLast? hlast)).2
    obtain ⟨hlen, hother, hown⟩ := mergeFrom_right (new := { newest with coalesce := true }) hcls q
    refine ⟨hlen.trans h.1, fun d hd => ?_⟩
    by_cases hdc : d = c
    · subst hdc; exact hown
    · rw [hother d hdc]; exact h.2 d (by simpa [hdc] using hd)

/-- The display path's soft reset merges every newly coalescing class (R153, R167). -/
theorem FramesRight.softReset {g : Fin 64 → Bool} (classes : List (Fin 64)) {p : DisplayPath}
    (h : FramesRight g p.queue) :
    FramesRight (fun d => g d || decide (d ∈ classes)) (p.softReset classes).queue := by
  show FramesRight _ (classes.foldl (fun q c => q.coalesceSet c) p).queue
  induction classes generalizing g p with
  | nil => exact h.mono (by simp)
  | cons c cs ih => exact (ih (p := p.coalesceSet c) (h.merge c)).mono (by simp [or_assoc])

/-! ## The display path (R154) -/

/-- A change that leaves the state, display power, the queue and heat-dim. -/
theorem DisplayPath.Keeps.of_same {g : Fin 64 → Bool} {p q : DisplayPath} (hstate : q.state = p.state)
    (hpower : q.power = p.power) (hqueue : q.queue = p.queue) (hdim : q.heatDim = p.heatDim) : p.Keeps g q :=
  ⟨hdim, by rw [hstate], by unfold DisplayPath.Powered; rw [hstate, hpower]; exact id, by rw [hqueue]; exact id⟩

/-- A change into a state other than OFF, from one. -/
theorem DisplayPath.Keeps.of_on {g : Fin 64 → Bool} {p q : DisplayPath} (hp : p.state ≠ .off) (hq : q.state ≠ .off)
    (hpower : p.Powered → q.Powered) (hqueue : q.queue = p.queue) (hdim : q.heatDim = p.heatDim) : p.Keeps g q :=
  ⟨hdim, iff_of_false hq hp, hpower, by rw [hqueue]; exact id⟩

/-- A change that takes frames out of the queue alone. -/
theorem DisplayPath.Keeps.of_sublist {g : Fin 64 → Bool} {p q : DisplayPath} (hstate : q.state = p.state)
    (hpower : q.power = p.power) (hqueue : q.queue.Sublist p.queue) (hdim : q.heatDim = p.heatDim) : p.Keeps g q :=
  ⟨hdim, by rw [hstate], by unfold DisplayPath.Powered; rw [hstate, hpower]; exact id, fun h => h.sublist hqueue⟩

/-- Placing a frame changes the queue and its counter alone (R160). -/
theorem DisplayPath.place_rest (f : QueuedFrame) (p : DisplayPath) :
    (p.place f).state = p.state ∧ (p.place f).power = p.power ∧ (p.place f).heatDim = p.heatDim := by
  unfold DisplayPath.place
  (repeat' split) <;> exact ⟨rfl, rfl, rfl⟩

theorem DisplayPath.place_keeps {g : Fin 64 → Bool} {p : DisplayPath} {f : QueuedFrame} (hf : f.coalesce = g f.cls) :
    p.Keeps g (p.place f) := by
  obtain ⟨hstate, hpower, hdim⟩ := p.place_rest f
  exact ⟨hdim, by rw [hstate], by unfold DisplayPath.Powered; rw [hstate, hpower]; exact id, place_queue hf⟩

/-! ## The notice queue (R175) -/

theorem Mgmt.post_keeps (c : NoticeContent) (m : Mgmt) : m.Keeps (m.post c) := by
  refine ⟨rfl, fun ⟨hnodup, hout⟩ => ?_⟩
  unfold Mgmt.post
  cases hacc : m.kept.accepts with
  | false => exact ⟨by simpa using hnodup, fun _ => by simpa using hout hacc⟩
  | true =>
    refine ⟨?_, fun hno => by cases hacc.symm.trans hno⟩
    by_cases hany : m.queue.any (fun q => q.content.kind = c.kind) = true
    · simp only [hany, if_true]
      have hsame : ((m.queue.map (fun q =>
          if q.content.kind = c.kind then ({ seq := m.counter, content := c } : Notice) else q)).map
            (fun n => n.content.kind)) = m.queue.map (fun n => n.content.kind) := by
        rw [List.map_map]
        refine List.map_congr_left fun n _ => ?_
        by_cases hn : n.content.kind = c.kind <;> simp [hn]
      rw [hsame]
      exact hnodup
    · simp only [hany, if_true, if_false, Bool.false_eq_true, List.map_append, List.map_cons, List.map_nil]
      refine List.Nodup.append hnodup (List.nodup_singleton _) ?_
      simpa [List.disjoint_singleton] using hany

theorem Mgmt.Keeps.of_same {m n : Mgmt} (hkept : n.kept = m.kept) (hqueue : n.queue = m.queue) : m.Keeps n :=
  ⟨hkept, by unfold Mgmt.QueueRight; rw [hkept, hqueue]; exact id⟩

theorem Mgmt.tail_keeps (m : Mgmt) : m.Keeps { m with queue := m.queue.tail } := by
  refine ⟨rfl, fun ⟨hnodup, hout⟩ => ⟨?_, fun hno => by simp [hout hno]⟩⟩
  rw [List.map_tail]
  exact hnodup.sublist (List.tail_sublist _)

/-! ## The key event queue (R104, R105, R107, R108) -/

/-- A change that takes no event and no reported key in. -/
theorem Keypad.Keeps.of_le {k l : Keypad} (hkept : l.kept = k.kept) (hscanning : l.scanning = k.scanning)
    (hdeferred : l.deferred = k.deferred) (hload : l.load ≤ k.load) : k.Keeps l :=
  ⟨hkept, hscanning, hdeferred, fun h => hload.trans h⟩

theorem joinSet_length_le (i : Fin 64) (l : List (Fin 64)) : (joinSet i l).length ≤ l.length + 1 := by
  unfold joinSet
  split <;> simp

theorem Keypad.queuePress_keeps {k : Keypad} (hfits : k.pressFits = true) (i : Fin 64) (e : KeyEntry) (delay : Nat) :
    k.Keeps (k.queuePress i e delay) := by
  refine ⟨rfl, rfl, rfl, fun _ => ?_⟩
  have hfits : k.queue.length + k.reportedDown.length + 2 ≤ 32 := of_decide_eq_true hfits
  have hjoin := joinSet_length_le i k.reportedDown
  simp only [Keypad.RoomKept, Keypad.queuePress, List.length_append, List.length_singleton]
  omega

theorem Keypad.queueRelease_keeps {k : Keypad} {i : Fin 64} (hi : i ∈ k.reportedDown) (kind : EventKind) :
    k.Keeps (k.queueRelease i kind) := by
  refine .of_le rfl rfl rfl ?_
  have hqueue := List.length_filter_le (fun e => !(decide (e.key = i) && decide (e.kind = .autoRepeat))) k.queue
  have hdown : (k.reportedDown.filter (fun j => decide (j ≠ i))).length < k.reportedDown.length :=
    List.length_filter_lt_length_iff_exists.mpr ⟨i, hi, by simp⟩
  simp only [Keypad.load, Keypad.queueRelease, Keypad.stopRepeat, List.length_append, List.length_singleton]
  omega

theorem Keypad.Keeps.trans {k l m : Keypad} (h : k.Keeps l) (h' : l.Keeps m) : k.Keeps m :=
  ⟨h'.kept.trans h.kept, h'.scanning.trans h.scanning, h'.deferred.trans h.deferred, fun hk => h'.room (h.room hk)⟩

theorem Keypad.onKey_keeps (k : Keypad) (i : Fin 64) (f : KeyRec → KeyRec) : k.Keeps (k.onKey i f) :=
  .of_le rfl rfl rfl le_rfl

theorem Keypad.unsuppress_keeps (k : Keypad) (i : Fin 64) : k.Keeps (k.unsuppress i) := .of_le rfl rfl rfl le_rfl

theorem Keypad.handleRelease_keeps (k : Keypad) (i : Fin 64) (kind : EventKind) : k.Keeps (k.handleRelease i kind) := by
  unfold Keypad.handleRelease
  split
  · exact k.unsuppress_keeps i
  · split
    next hi => exact Keypad.queueRelease_keeps hi kind
    next => exact .of_le rfl rfl rfl le_rfl

theorem Keypad.stick_keeps (k : Keypad) (i : Fin 64) : k.Keeps (k.stick i) := by
  have hkey := k.onKey_keeps i (fun r => { r with state := .stuck })
  have hstop (l : Keypad) : l.Keeps (l.stopRepeat i) := .of_le rfl rfl rfl le_rfl
  unfold Keypad.stick
  refine Keypad.Keeps.trans ?_ (hstop _)
  split
  next hi => exact hkey.trans (Keypad.queueRelease_keeps (k := k.onKey i _) hi .stuckRelease)
  next => exact hkey

theorem Keypad.repeatStep_keeps (k : Keypad) (period : Nat) : k.Keeps (k.repeatStep period) := by
  unfold Keypad.repeatStep
  split
  · exact .of_le rfl rfl rfl le_rfl
  · split
    · refine ⟨rfl, rfl, rfl, fun h => ?_⟩
      by_cases hfits : k.repeatFits = true
      · have hload : k.queue.length + k.reportedDown.length + 1 ≤ 32 := of_decide_eq_true hfits
        simp only [Keypad.RoomKept, hfits, if_true, List.length_append, List.length_singleton]
        omega
      · simpa [Keypad.RoomKept, hfits] using h
    · exact .of_le rfl rfl rfl le_rfl

/-! ## The system port (R133, R137) -/

/-- A change that leaves the reply slot, the forwarded queue and the transmitter. -/
theorem SysPort.Keeps.of_same {p q : SysPort} (hlive : q.isLive = p.isLive) (hslot : q.slot = p.slot)
    (hfwd : q.fwd = p.fwd) (htx : q.tx = p.tx) : p.Keeps q :=
  ⟨hlive, fun ⟨hlen, hdead⟩ => ⟨hfwd ▸ hlen, fun hno => by rw [hslot, hfwd, htx]; exact hdead (hlive ▸ hno)⟩⟩

/-- A change of a live port that keeps the forwarded queue's limit. -/
theorem SysPort.Keeps.of_live {p q : SysPort} (hp : p.isLive = true) (hlive : q.isLive = p.isLive)
    (hfwd : p.fwd.length ≤ 16 → q.fwd.length ≤ 16) : p.Keeps q :=
  ⟨hlive, fun ⟨hlen, _⟩ => ⟨hfwd hlen, fun hno => by rw [hlive, hp] at hno; cases hno⟩⟩

/-- A change that empties the transmitter or the reply slot. -/
theorem SysPort.Keeps.of_emptied {p q : SysPort} (hlive : q.isLive = p.isLive) (hfwd : q.fwd = p.fwd)
    (hslot : q.slot = p.slot ∨ q.slot = .empty) (htx : q.tx = p.tx ∨ q.tx = none) : p.Keeps q :=
  ⟨hlive, fun ⟨hlen, hdead⟩ => ⟨hfwd ▸ hlen, fun hno => by
    obtain ⟨hs, hf, ht⟩ := hdead (hlive ▸ hno)
    exact ⟨hslot.elim (fun h => h.trans hs) id, hfwd.trans hf, htx.elim (fun h => h.trans ht) id⟩⟩⟩

theorem SysPort.appendFwd_keeps {p : SysPort} (hp : p.isLive = true) (f : Frame) : p.Keeps (p.appendFwd f) := by
  unfold SysPort.appendFwd
  split
  · refine .of_live hp rfl fun h => ?_
    simp only [List.length_append, List.length_tail, List.length_singleton]
    omega
  · refine .of_live hp rfl fun _ => ?_
    simp only [List.length_append, List.length_singleton]
    omega

end Sys2Proof.Machine
end


section
/-! PROOF. The work of the blocks as runs of changes: each operation goes on from any run to a longer one. -/

namespace Sys2Proof.Machine

/-- Injecting a frame leaves the path's state and display power (R163). -/
theorem State.inject_path (e : InjectEntry) (s : State) :
    (s.inject e).path.state = s.path.state ∧ (s.inject e).path.power = s.path.power := by
  unfold State.inject State.placeFrame
  split <;> simp [DisplayPath.place_rest]

namespace State.Moves

variable {by_ : List Change} {s₀ s : State}

/-! ## One block's own state -/

section
variable (h : Moves by_ s₀ s)
include h

@[simp] theorem reach (ms : Nat) : Moves by_ s₀ (s.reach ms) := h.own (.frame s _ _ _ _ _ _ _)

@[simp] theorem onMeas (f : Meas → Meas) : Moves by_ s₀ (s.onMeas f) := h.own (.frame s _ _ _ _ _ _ _)

@[simp] theorem onStore (f : StoreImage → StoreImage) : Moves by_ s₀ (s.onStore f) := h.own (.frame s _ _ _ _ _ _ _)

@[simp] theorem onBeeper (f : Beeper → Beeper) : Moves by_ s₀ (s.onBeeper f) := h.own (.frame s _ _ _ _ _ _ _)

@[simp] theorem onDisp (f : DispPort → DispPort) : Moves by_ s₀ (s.onDisp f) := h.own (.frame s _ _ _ _ _ _ _)

@[simp] theorem onSwitch (f : Switch → Switch) : Moves by_ s₀ (s.onSwitch f) := h.own (.frame s _ _ _ _ _ _ _)

@[simp] theorem choose (c : Nat) : Moves by_ s₀ { s with choices := c } := h.own (.frame s _ _ _ _ _ _ _)

theorem onPath {f : DisplayPath → DisplayPath} (hf : s.path.Keeps s.tables.coalesceOf (f s.path)) :
    Moves by_ s₀ (s.onPath f) := h.own (.path hf)

theorem onSys {f : SysPort → SysPort} (hf : s.sys.Keeps (f s.sys)) : Moves by_ s₀ (s.onSys f) := h.own (.sys hf)

theorem onMgmt {f : Mgmt → Mgmt} (hf : s.mgmt.Keeps (f s.mgmt)) : Moves by_ s₀ (s.onMgmt f) := h.own (.mgmt hf)

theorem onKeypad {f : Keypad → Keypad} (hf : s.keypad.Keeps (f s.keypad)) : Moves by_ s₀ (s.onKeypad f) :=
  h.own (.keypad hf)

theorem onLive {f : Liveness → Liveness} (hf : s.live.Keeps (f s.live)) : Moves by_ s₀ (s.onLive f) := h.own (.live hf)

theorem onHeat {f : Heat → Heat} (hf : s.heat.Keeps (f s.heat)) : Moves by_ s₀ (s.onHeat f) := h.own (.heat hf)

theorem onMatcher {f : Matcher → Matcher} (hkept : (f s.matcher).kept = s.matcher.kept)
    (hdeferred : (f s.matcher).deferred = s.matcher.deferred) : Moves by_ s₀ (s.onMatcher f) :=
  h.own (.matcher hkept hdeferred)

/-- A table written that the class table's flags and the restart limit do not depend on. -/
theorem onTables {f : Tables → Tables} (hlimit : (f s.tables).params.restartLimit = s.params.restartLimit)
    (hclasses : (f s.tables).coalesceOf = s.tables.coalesceOf) : Moves by_ s₀ (s.onTables f) :=
  h.own (.tables (q := s.path.queue) hlimit fun hq => hclasses ▸ hq)

@[simp] theorem takeReports : Moves by_ s₀ s.takeReports := h.own (.takeReports s)

/-! ## Notices, flags and the beeper (R174, R175) -/

@[simp] theorem post (c : NoticeContent) : Moves by_ s₀ (s.post c) := h.onMgmt (s.mgmt.post_keeps c)

@[simp] theorem report (f : StickyFlag) : Moves by_ s₀ (s.report f) := h.onMgmt (.of_same rfl rfl)

@[simp] theorem reportIf (c : Bool) (f : StickyFlag) : Moves by_ s₀ (s.reportIf c f) := by
  unfold State.reportIf; split <;> simp [h]

@[simp] theorem replyEnds : Moves by_ s₀ s.replyEnds := h.onMgmt (.of_same rfl rfl)

@[simp] theorem beep (p : OneShot) : Moves by_ s₀ (s.beep p) := h.onBeeper _

@[simp] theorem beeperEvent (e : Option (Nat × Beeper)) : Moves by_ s₀ (s.beeperEvent e) := by
  unfold State.beeperEvent; split <;> simp [h]

/-! ## Measurement and heating -/

@[simp] theorem convert (ch : Fin 8) (code : BitVec 12) : Moves by_ s₀ (s.convert ch code) := by
  simp only [State.convert]; (repeat' split) <;> simp [h]

@[simp] theorem cycleStart : Moves by_ s₀ s.cycleStart := by unfold State.cycleStart; split <;> simp [h]

theorem evaluateZones : Moves by_ s₀ s.evaluateZones := by
  refine (h.onHeat ⟨rfl, rfl, fun _ hno => ?_⟩).reportIf _ _
  exact if_neg (by simpa [Heat.evaluate, Heat.allocate] using hno)

@[simp] theorem heaterSlot : Moves by_ s₀ s.heaterSlot := (h.reach _).onHeat ⟨rfl, rfl, fun hr hno => hr hno⟩

/-! ## The display path (R154 to R165) -/

theorem placeFrame {f : QueuedFrame} (hf : f.coalesce = s.tables.coalesceOf f.cls) : Moves by_ s₀ (s.placeFrame f) :=
  (h.onPath (DisplayPath.place_keeps hf)).reportIf _ _

@[simp] theorem displayRelease : Moves by_ s₀ s.displayRelease := by
  unfold State.displayRelease
  split
  next f q _ _ hq => exact (h.onPath (.of_sublist rfl rfl (by rw [hq]; exact List.sublist_cons_self f q) rfl)).onDisp _
  next => exact h

@[simp] theorem cutDisplayTx : Moves by_ s₀ s.cutDisplayTx := by
  unfold State.cutDisplayTx
  split
  · exact (h.onDisp _).onPath (.of_same rfl rfl rfl rfl)
  · exact h

@[simp] theorem inject (e : InjectEntry) : Moves by_ s₀ (s.inject e) := by
  unfold State.inject
  split
  · exact (h.placeFrame rfl).onSwitch _
  · exact h

end


/-- In OPEN the path dims (R162, R164). -/
theorem dim (h : Moves by_ s₀ s) (hs : s.path.state = .opened) : Moves by_ s₀ s.dim := by
  obtain ⟨hstate, hpower⟩ := s.inject_path s.tables.dim
  refine (h.inject _).onPath (.of_on ?_ nofun (fun hp => ?_) rfl rfl)
  · rw [hstate, hs]; nofun
  · rw [DisplayPath.Powered, hstate, hs] at hp
    exact iff_of_true (hp.mpr (by simp)) (by simp)

/-- In DIMMED the path wakes (R163). -/
theorem wake (h : Moves by_ s₀ s) (hs : s.path.state = .dimmed) : Moves by_ s₀ s.wake := by
  obtain ⟨hstate, hpower⟩ := s.inject_path s.tables.wake
  refine ((h.inject _).onPath (.of_on ?_ (by simp) (fun hp => ?_) rfl rfl)).displayRelease
  · rw [hstate, hs]; nofun
  · rw [DisplayPath.Powered, hstate, hs] at hp
    exact iff_of_true (hp.mpr (by simp)) (by simp)

theorem enterStarting (h : Moves by_ s₀ s) (hs : s.path.state ≠ .off) : Moves by_ s₀ s.enterStarting :=
  h.onPath (.of_on hs nofun (fun _ => iff_of_true rfl (.inl rfl)) rfl rfl)

/-- STARTING ends in OPEN, or in DIMMED while heat-dim holds (R156). -/
theorem enterOpen (h : Moves by_ s₀ s) (hs : s.path.state = .starting) : Moves by_ s₀ s.enterOpen := by
  have hopen := h.onPath (f := fun p =>
      { p with state := .opened, startTimer := none, silenceTimer := s.silenceStart, idleTimer := s.idleStart })
    (.of_on (by rw [hs]; nofun) nofun (fun hp => by
      rw [DisplayPath.Powered, hs] at hp
      exact iff_of_true (hp.mpr (by simp)) (by simp)) rfl rfl)
  simp only [State.enterOpen]
  split
  · exact (hopen.dim rfl).displayRelease
  · exact hopen.displayRelease

/-- RECOVERING is entered, or FAILED at the retry limit (R158). -/
theorem enterRecovering (h : Moves by_ s₀ s) (hs : s.path.state ≠ .off) : Moves by_ s₀ s.enterRecovering := by
  have hcut : s.cutDisplayTx.path.state = s.path.state := by unfold State.cutDisplayTx; split <;> rfl
  have hoff {r : Bool} (hp : r = false) {st : PathState} (hst : st = .recovering ∨ st = .failed) :
      r = true ↔ st = .starting ∨ st = .opened ∨ st = .dimmed := by
    obtain rfl | rfl := hst <;> simp [hp]
  have hrecovering := h.cutDisplayTx.onPath (f := fun p =>
      { p with state := .recovering, power := false, waitTimer := none, startTimer := none, silenceTimer := none
               idleTimer := none })
    (.of_on (hcut ▸ hs) nofun (fun _ => hoff rfl (.inl rfl)) rfl rfl)
  simp only [State.enterRecovering]
  split
  · have hfailed := hrecovering.onPath (f := fun p => { p with state := .failed })
      (.of_on (by simp) nofun (fun _ => hoff rfl (.inr rfl)) rfl rfl)
    exact (hfailed.post _).onPath (.of_sublist rfl rfl (List.nil_sublist _) rfl)
  · exact hrecovering.onPath (.of_same rfl rfl rfl rfl)

section
variable (h : Moves by_ s₀ s)
include h

@[simp] theorem displayFault (c : DisplayFaultCause) (retry : Nat) : Moves by_ s₀ (s.displayFault c retry) := h.post _

@[simp] theorem pathZones (z : PerZone ZoneReport) : Moves by_ s₀ (s.pathZones z) := by
  unfold State.pathZones
  split
  next hz =>
    simp only [Bool.and_eq_true, decide_eq_true_eq] at hz
    exact h.enterStarting (by rw [hz.1]; nofun)
  next => exact h

theorem waitExpired (hs : s.path.state = .waitWarm) : Moves by_ s₀ s.waitExpired := by
  unfold State.waitExpired
  split
  · exact h.enterStarting (by rw [hs]; nofun)
  · exact h.onPath (.of_same rfl rfl rfl rfl)

@[simp] theorem displayReady : Moves by_ s₀ s.displayReady := by
  unfold State.displayReady
  split
  next hs => exact h.enterOpen hs
  next => exact h

@[simp] theorem displayHeard : Moves by_ s₀ s.displayHeard := by
  unfold State.displayHeard
  split
  · exact h.onPath (.of_same rfl rfl rfl rfl)
  · exact h

@[simp] theorem activity : Moves by_ s₀ s.activity := by
  unfold State.activity
  split
  · exact h.onPath (.of_same rfl rfl rfl rfl)
  · exact h

theorem silenceExpired (hs : s.path.state.flows = true) : Moves by_ s₀ s.silenceExpired :=
  ((h.displayFault _ _).report _).enterRecovering fun hoff => by
    rw [show s.path.state = .off from hoff] at hs
    cases hs

@[simp] theorem badFrameRun : Moves by_ s₀ s.badFrameRun := by
  unfold State.badFrameRun
  split
  · exact (h.report _).displayFault _ _
  · exact h

@[simp] theorem wakeOffer : Moves by_ s₀ s.wakeOffer.1 := by
  unfold State.wakeOffer
  split
  next hw =>
    simp only [DisplayPath.wakeable, Bool.and_eq_true, decide_eq_true_eq] at hw
    exact h.wake hw.1
  next => exact h

@[simp] theorem keyOffer : Moves by_ s₀ s.keyOffer.1 := by
  unfold State.keyOffer; split <;> simp [h]

theorem takeFrame {f : QueuedFrame} (hf : f.coalesce = s.tables.coalesceOf f.cls) : Moves by_ s₀ (s.takeFrame f) :=
  (h.placeFrame hf).displayRelease

@[simp] theorem requestDim : Moves by_ s₀ s.requestDim.1 := by
  unfold State.requestDim
  split
  next hs => exact (h.dim hs).displayRelease
  next => exact h

@[simp] theorem requestWake : Moves by_ s₀ s.requestWake.1 := by
  unfold State.requestWake
  split
  next hw =>
    simp only [DisplayPath.wakeable, Bool.and_eq_true, decide_eq_true_eq] at hw
    exact h.wake hw.1
  next => exact h

@[simp] theorem requestRestart : Moves by_ s₀ s.requestRestart.1 := by
  unfold State.requestRestart
  split
  next => exact h
  next hs => exact (h.onPath (f := fun p => { p with retry := 0 }) (.of_same rfl rfl rfl rfl)).enterRecovering hs

@[simp] theorem displaySent : Moves by_ s₀ s.displaySent := by
  unfold State.displaySent; split <;> simp [h]

/-! ## The panel link (R129 to R138) -/

@[simp] theorem displayOutcome (o : RxOutcome) : Moves by_ s₀ (s.displayOutcome o) := by
  have hcounted := h.onDisp (fun d => { d with errors := d.errors.count o })
  simp only [State.displayOutcome]
  (repeat' split)
  exacts [(hcounted.onDisp _).badFrameRun, hcounted.onDisp _, hcounted]

@[simp] theorem systemOutcome (o : RxOutcome) : Moves by_ s₀ (s.systemOutcome o) := h.onSys (.of_same rfl rfl rfl rfl)

@[simp] theorem judgeLow (port : Port) : Moves by_ s₀ (s.judgeLow port) := by
  unfold State.judgeLow
  split <;> split
  · exact (h.onSys (.of_same rfl rfl rfl rfl)).systemOutcome _
  · exact h
  · simp [h]
  · exact h

@[simp] theorem lineHigh (port : Port) : Moves by_ s₀ (s.lineHigh port) := by
  unfold State.lineHigh
  split
  · exact (h.judgeLow _).onSys (.of_same rfl rfl rfl rfl)
  · simp [h]

@[simp] theorem placeReply (r : Reply) : Moves by_ s₀ (s.placeReply r) := by
  unfold State.placeReply
  split
  next hlive => exact h.onSys (.of_live hlive rfl id)
  next => exact h.replyEnds

@[simp] theorem dropReply : Moves by_ s₀ s.dropReply := by
  unfold State.dropReply
  split
  · exact (h.onSys (.of_emptied rfl rfl (.inr rfl) (.inl rfl))).replyEnds
  · exact h

theorem forward (hlive : s.sys.isLive = true) (f : Frame) : Moves by_ s₀ (s.forward f) :=
  (h.onSys (SysPort.appendFwd_keeps hlive f)).reportIf _ _

theorem leaveSource (hlive : s.sys.isLive = true) (c : SysContent) : Moves by_ s₀ (s.leaveSource c) := by
  unfold State.leaveSource
  split
  · exact h.onSys (.of_live hlive rfl id)
  · exact h.onMgmt s.mgmt.tail_keeps
  next es =>
    refine h.onKeypad (.of_le rfl rfl rfl ?_)
    simp only [Keypad.load, List.length_drop]
    omega
  · exact h.onSys (.of_live hlive rfl fun hl => by simp only [List.length_tail]; omega)

@[simp] theorem beginSystemFrame : Moves by_ s₀ s.beginSystemFrame := by
  unfold State.beginSystemFrame
  split
  next hmay =>
    have hlive : s.sys.isLive = true := by simp only [SysPort.mayBegin, Bool.and_eq_true] at hmay; exact hmay.1.1.2
    split
    · exact h
    next c _ =>
      have hleft : (s.leaveSource c).sys.isLive = true := by cases c <;> exact hlive
      exact (h.leaveSource hlive c).onSys (.of_live hleft rfl id)
  next => exact h

@[simp] theorem systemSent : Moves by_ s₀ s.systemSent := by
  unfold State.systemSent
  split
  · exact h
  · exact (h.onSys (.of_emptied rfl rfl (.inr rfl) (.inr rfl))).replyEnds
  · exact h.onSys (.of_emptied rfl rfl (.inl rfl) (.inr rfl))

@[simp] theorem linkReset : Moves by_ s₀ s.linkReset :=
  (((h.systemOutcome _).onSys (.of_emptied rfl rfl (.inl rfl) (.inr rfl))).dropReply).report _

@[simp] theorem displayBreak : Moves by_ s₀ s.displayBreak := by
  unfold State.displayBreak; split <;> simp [h]

@[simp] theorem breakOn (port : Port) : Moves by_ s₀ (s.breakOn port) := by
  unfold State.breakOn; (repeat' split) <;> simp [h]

@[simp] theorem endCommit (ok : Bool) : Moves by_ s₀ (s.endCommit ok) := by
  unfold State.endCommit
  (repeat' split)
  · exact (h.onStore _).onMgmt (.of_same rfl rfl)
  · exact (h.onMgmt (.of_same rfl rfl)).report _
  · exact h

end

end State.Moves

end Sys2Proof.Machine
end


section
/-! PROOF. The Power Sequencer's work as runs of changes, and the Liveness Monitor's that calls it (R57 to R73). -/

namespace Sys2Proof.Machine

/-! ## Which targets may be entered (R55, R59) -/

theorem PowerSeq.MayEnter.of_off {t : Target} (hoff : powerEnableIn t.state t.phase = false)
    (hphase : t.phase ≠ some .reserve) (p : PowerSeq) : p.MayEnter t :=
  ⟨fun h => hphase h.2, fun h => by cases hoff.symm.trans h⟩

theorem PowerSeq.MayEnter.of_reserved {t : Target} {p : PowerSeq} (hp : p.Reserved) (hphase : t.phase ≠ some .reserve) :
    p.MayEnter t := ⟨fun h => hphase h.2, fun _ => hp⟩

theorem PowerSeq.Reserved.of_running {p : PowerSeq} (h : p.state = .running) : p.Reserved := .inl (by rw [h]; rfl)

theorem PowerSeq.Reserved.of_restarting {p : PowerSeq} (h : p.state = .restarting) : p.Reserved :=
  .inl (by rw [h]; rfl)

/-- Every phase of STARTING has the reserve, requested or held (R59). -/
theorem PowerSeq.Reserved.of_starting {p : PowerSeq} (h : p.state = .starting) {ph : Phase} (hph : p.phase = some ph)
    (hne : ph ≠ .pulse) : p.Reserved := by
  cases ph
  case reserve => exact .inr ⟨h, hph⟩
  case pulse => exact absurd rfl hne
  all_goals exact .inl (by rw [h, hph]; rfl)

/-- The state is neither HOT_OFF nor SERVICE_HOLD. -/
theorem PowerSeq.leaves_of_state {p : PowerSeq} {st : PowerState} (h : p.state = st)
    (hst : st ≠ .hotOff ∧ st ≠ .serviceHold) : p.state ≠ .hotOff ∧ p.state ≠ .serviceHold := h ▸ hst

namespace State.Moves

variable {by_ : List Change} {s₀ s : State}

section
variable (h : Moves by_ s₀ s) (hs : Change.sequencer ∈ by_)
include h

/-- The phase timer restarted, or the power-good marks set. -/
theorem onPower (timer : Option Timer) (pgSeen pgLevel : Bool) :
    Moves by_ s₀ (s.onPower (fun p => { p with timer := timer, pgSeen := pgSeen, pgLevel := pgLevel })) :=
  h.own (.power s timer pgSeen pgLevel)

include hs

theorem transition {t : Target} (cs : List (Cause × Option SlotField)) (ht : s.power.MayEnter t)
    (hl : s.power.state ≠ .hotOff ∧ s.power.state ≠ .serviceHold) : Moves by_ s₀ (s.transition t cs) :=
  h.move hs (.transition cs ht hl)

theorem onRestartList {l : List (BitVec 32)}
    (hl : l.length ≤ s.power.restartList.length ∨ l.length ≤ s.params.restartLimit) :
    Moves by_ s₀ (s.onPower (fun p => { p with restartList := l })) := h.move hs (.restartList hl)

theorem enterReserve (cs : List (Cause × Option SlotField)) (hst : s.power.state = .preheat) :
    Moves by_ s₀ (s.enterReserve cs) := h.move hs (.enterReserve cs hst)

@[simp] theorem sequencerZones (z : PerZone ZoneReport) : Moves by_ s₀ (s.sequencerZones z) := by
  unfold State.sequencerZones
  split
  next hz =>
    simp only [Bool.and_eq_true, decide_eq_true_eq] at hz
    exact h.enterReserve hs [] hz.1
  next => exact h

theorem preheatExpired (hst : s.power.state = .preheat) : Moves by_ s₀ s.preheatExpired := by
  simp only [State.preheatExpired]
  split
  · exact h.enterReserve hs _ hst
  · exact h.onPower _ _ _

/-- BOOT_WAIT is entered from SETTLE or PULSE (R61, R63). -/
theorem settled (hst : s.power.state = .starting) (hph : s.power.phase = some .settle) : Moves by_ s₀ s.settled :=
  h.transition hs [] (.of_reserved (.of_starting hst hph nofun) (by nofun)) (PowerSeq.leaves_of_state hst (by decide))

theorem powerGoodSeen (hst : s.power.state = .starting) (hph : s.power.phase = some .powerWait) :
    Moves by_ s₀ s.powerGoodSeen := by
  have hseen := h.onPower s.power.timer true s.power.pgLevel
  have hsettle := hseen.transition (t := toSettle s.params) hs []
    (.of_reserved (.of_starting hst hph nofun) (by nofun)) (PowerSeq.leaves_of_state hst (by decide))
  simp only [State.powerGoodSeen]
  split
  · have he := State.transition_entered (toSettle s.params) [] (s.onPower (fun p => { p with pgSeen := true }))
    exact hsettle.settled hs he.state he.phase
  · exact hsettle

@[simp] theorem reserveGranted : Moves by_ s₀ s.reserveGranted := by
  unfold State.reserveGranted
  split
  next hst =>
    have hwait := h.transition (t := toPowerWait s.params) hs []
      (.of_reserved (.of_starting hst.1 hst.2 (by nofun)) (by nofun)) (PowerSeq.leaves_of_state hst.1 (by decide))
    have he := s.transition_entered (toPowerWait s.params) []
    dsimp only
    split
    · exact hwait.powerGoodSeen hs he.state he.phase
    · exact hwait
  next => exact h

omit hs in
@[simp] theorem postHello : Moves by_ s₀ s.postHello := by
  unfold State.postHello; split <;> simp [h]

@[simp] theorem firstHeartbeat : Moves by_ s₀ s.firstHeartbeat := by
  unfold State.firstHeartbeat
  split
  next hw =>
    simp only [PowerSeq.bootWaiting, Bool.and_eq_true, Bool.or_eq_true, decide_eq_true_eq] at hw
    obtain ⟨hst | hst, hph⟩ := hw
    · exact (h.transition hs [] (.of_reserved (.of_starting hst hph nofun) (by nofun))
        (PowerSeq.leaves_of_state hst (by decide))).postHello
    · exact (h.transition hs [] (.of_reserved (.of_restarting hst) (by nofun))
        (PowerSeq.leaves_of_state hst (by decide))).postHello
  next => exact h

/-- An automatic restart, or SERVICE_HOLD at the restart limit (R65, R66). -/
theorem autoRestart (c : Cause) (hl : s.power.state ≠ .hotOff ∧ s.power.state ≠ .serviceHold)
    (hc : c = .watchdog → s.power.state = .running) : Moves by_ s₀ (s.autoRestart c) := by
  simp only [State.autoRestart]
  have hprune : (pruneList s.uptime (s.params.restartWindow * 60) s.power.restartList).length ≤
      s.power.restartList.length := (List.dropWhile_sublist _).length_le
  split
  next => exact (h.onRestartList hs (.inl hprune)).transition hs _ (.of_off rfl (by nofun) _) hl
  next hroom =>
    have hlist := h.onRestartList hs (l := pruneList s.uptime (s.params.restartWindow * 60) s.power.restartList
      ++ [s.uptime]) (.inr (by simpa using not_le.mp hroom))
    refine hlist.transition hs _ ?_ hl
    by_cases hw : c = .watchdog
    · exact .of_reserved (.of_running (hc hw)) (by rw [hw]; nofun)
    · have htarget : restartTarget s.params c = toCycling s.params := by cases c <;> trivial
      rw [htarget]
      exact .of_off rfl (by nofun) _

@[simp] theorem watchdogRequest : Moves by_ s₀ s.watchdogRequest := by
  unfold State.watchdogRequest
  split
  next hst => exact h.autoRestart hs _ (PowerSeq.leaves_of_state hst (by decide)) (fun _ => hst)
  next => exact h

@[simp] theorem bootTimedOut : Moves by_ s₀ s.bootTimedOut := by
  unfold State.bootTimedOut
  split
  next hw =>
    simp only [PowerSeq.bootWaiting, Bool.and_eq_true, Bool.or_eq_true, decide_eq_true_eq] at hw
    obtain ⟨hst | hst, -⟩ := hw <;>
      exact h.autoRestart hs _ (PowerSeq.leaves_of_state hst (by decide)) nofun
  next => exact h

theorem endShutdown (cs : List (Cause × Option SlotField)) (hst : s.power.state = .shutdown) :
    Moves by_ s₀ (s.endShutdown cs) := by
  unfold State.endShutdown
  split <;> exact h.transition hs cs (.of_off rfl (by nofun) _) (PowerSeq.leaves_of_state hst (by decide))

theorem endIfNoGrace (grace : Nat) (hst : s.power.state = .shutdown) : Moves by_ s₀ (s.endIfNoGrace grace) := by
  unfold State.endIfNoGrace
  split
  · exact h.endShutdown hs [] hst
  · exact h

/-- SHUTDOWN is entered where the board is on, and ends at once with a grace of 0 (R67, R68). -/
theorem shutdown (d : Destination) (grace : Nat) (cs : List (Cause × Option SlotField)) (hp : s.power.Reserved)
    (hl : s.power.state ≠ .hotOff ∧ s.power.state ≠ .serviceHold) :
    Moves by_ s₀ (s.transition (toShutdown d grace) cs) ∧
      (s.transition (toShutdown d grace) cs).power.state = .shutdown :=
  ⟨h.transition hs cs (.of_reserved hp (by nofun)) hl, (s.transition_entered _ cs).state⟩

@[simp] theorem thermalShutdown : Moves by_ s₀ s.thermalShutdown := by
  unfold State.thermalShutdown
  split
  case h_1 _ _ hst =>
    obtain ⟨hm, hsd⟩ := h.shutdown hs .hotOff s.params.shutdownGrace [(.thermal, none)] (.of_running hst)
      (PowerSeq.leaves_of_state hst (by decide))
    exact (hm.post _).endIfNoGrace hs _ hsd
  case h_2 _ _ hst _ => exact h.transition hs _ (.of_off rfl (by nofun) _) (PowerSeq.leaves_of_state hst (by decide))
  case h_3 _ _ hst _ =>
    have hdest := (s.transition_entered (toShutdown .hotOff 0) [(.thermal, none)]).dest
    have heq : (s.transition (toShutdown .hotOff 0) [(.thermal, none)]).endIfNoGrace 0 =
        (s.transition (toShutdown .hotOff 0) [(.thermal, none)]).transition toHotOff [] := by
      rw [State.endIfNoGrace, if_pos rfl, State.endShutdown, hdest]
      rfl
    exact heq ▸ h.move hs (.shutdownAtOnce _ hst)
  case h_4 _ _ hst =>
    obtain ⟨hm, hsd⟩ := h.shutdown hs .hotOff 0 [(.thermal, none)] (.of_restarting hst)
      (PowerSeq.leaves_of_state hst (by decide))
    exact hm.endIfNoGrace hs 0 hsd
  case h_5 _ _ hst | h_6 _ _ hst | h_7 _ _ hst =>
    exact h.transition hs _ (.of_off rfl (by nofun) _) (PowerSeq.leaves_of_state hst (by decide))
  all_goals exact h

@[simp] theorem requestOff : Moves by_ s₀ s.requestOff.1 := by
  unfold State.requestOff
  split
  next hst =>
    obtain ⟨hm, hsd⟩ := h.shutdown hs .off s.params.hostOffDelay [(.hostOff, none)] (.of_running hst)
      (PowerSeq.leaves_of_state hst (by decide))
    exact hm.endIfNoGrace hs _ hsd
  next hst => exact h.endShutdown hs _ hst
  next => exact h

@[simp] theorem requestPowerRestart : Moves by_ s₀ s.requestPowerRestart.1 := by
  unfold State.requestPowerRestart
  split
  next hst =>
    exact h.transition hs _ (.of_reserved (.of_running hst) (by nofun)) (PowerSeq.leaves_of_state hst (by decide))
  next => exact h

@[simp] theorem requestCycle : Moves by_ s₀ s.requestCycle.1 := by
  unfold State.requestCycle
  split
  next hst => exact h.transition hs _ (.of_off rfl (by nofun) _) (PowerSeq.leaves_of_state hst (by decide))
  next => exact h

@[simp] theorem powerLost : Moves by_ s₀ s.powerLost := by
  unfold State.powerLost
  split
  case h_1 _ _ hst => exact h.endShutdown hs [] hst
  case h_2 _ _ hst _ | h_3 _ _ hst _ | h_4 _ _ hst | h_5 _ _ hst =>
    exact h.autoRestart hs _ (PowerSeq.leaves_of_state hst (by decide)) nofun
  next => exact h

@[simp] theorem powerGoodLevel (high : Bool) : Moves by_ s₀ (s.powerGoodLevel high) := by
  have hlevel := h.onPower s.power.timer s.power.pgSeen high
  simp only [State.powerGoodLevel]
  split
  next hw =>
    simp only [Bool.and_eq_true, decide_eq_true_eq] at hw
    obtain ⟨⟨-, hst⟩, hph⟩ := hw
    exact hlevel.powerGoodSeen hs hst hph
  next =>
    split
    · exact hlevel.powerLost hs
    · exact hlevel

/-! ## The Liveness Monitor (R80 to R88) -/

@[simp] theorem heartbeat : Moves by_ s₀ s.heartbeat := by
  unfold State.heartbeat
  split
  case h_1 => exact (h.onLive (.inl rfl)).firstHeartbeat hs
  case h_2 => exact h.onLive (.inl rfl)
  case h_4 _ hw =>
    split
    · exact (h.onLive (.inl rfl)).report _
    · exact h.onLive (.inr ⟨.inl hw, .inl rfl⟩)
  case h_5 _ hw => exact h.onLive (.inr ⟨.inr hw, .inl rfl⟩)
  all_goals exact h

@[simp] theorem bootExpired : Moves by_ s₀ s.bootExpired := (h.onLive (.inl rfl)).bootTimedOut hs

@[simp] theorem graceExpired : Moves by_ s₀ s.graceExpired := (h.onLive (.inl rfl)).watchdogRequest hs

theorem heartbeatExpired (hw : s.live.stage = .watching) (t : Timer) : Moves by_ s₀ (s.heartbeatExpired t) := by
  have hwarned := ((h.onLive (f := fun l => { l with stage := .warned, hbTimer := none })
    (.inr ⟨.inl hw, .inr rfl⟩)).post (.watchdogWarn (t.dur / 100) s.params.warnGrace s.live.early)).onLive
    (f := fun l => { l with graceTimer := some (s.timer (s.params.warnGrace * 1000)) }) (.inl rfl)
  simp only [State.heartbeatExpired]
  split
  · exact hwarned.graceExpired hs
  · exact hwarned

end

/-! ## The cycle (R14, R36, R42) -/

section
variable (h : Moves by_ s₀ s)
include h

omit h in
/-- A free choice is one of its two outcomes. -/
theorem oneOf {s₁ s₂ : State} (h₁ : Moves by_ s₀ s₁) (h₂ : Moves by_ s₀ s₂) : Moves by_ s₀ (s.oneOf s₁ s₂) := by
  obtain hc | hc | hc := s.oneOf_cases s₁ s₂ <;> rw [hc]
  exacts [h₁, h₁.choose _, h₂.choose _]

@[simp] theorem sendWarn (before after : Thermal) (board : ZoneReport) :
    Moves by_ s₀ (s.sendWarn before after board) := by
  unfold State.sendWarn; (repeat' split) <;> simp [h]

@[simp] theorem sendBlind (before : Thermal) (board : ZoneReport) : Moves by_ s₀ (s.sendBlind before board) := by
  unfold State.sendBlind; split <;> simp [h]

@[simp] theorem sendFilter (before after : Thermal) (board : ZoneReport) :
    Moves by_ s₀ (s.sendFilter before after board) := by
  unfold State.sendFilter; (repeat' split) <;> simp [h]

theorem sendHeatDim (hd : Change.dim ∈ by_) (before after : Thermal) :
    Moves by_ s₀ (s.sendHeatDim before after) := by
  have hdim (b : Bool) := h.move hd (.heatDim s b)
  unfold State.sendHeatDim
  split
  · simp only [State.heatDimOn]
    split
    next hopen => exact ((hdim true).dim hopen).displayRelease
    next => exact hdim true
  · split
    · exact hdim false
    · exact h

theorem sendRequests (hs : Change.sequencer ∈ by_) (hr : Change.resume ∈ by_) (before after : Thermal) :
    Moves by_ s₀ (s.sendRequests before after) := by
  have hshutdown : Moves by_ s₀ (s.sendShutdown after) := by unfold State.sendShutdown; split <;> simp [h, hs]
  unfold State.sendRequests State.sendResume
  split
  · unfold State.thermalResume
    split
    next hst => 
      have hm := hshutdown.move hr (.resume hst)
      rwa [State.thermalResume_eq hst] at hm
    next => exact hshutdown
  · exact hshutdown

/-- The monitor's judgement and what it sends (R42). -/
theorem thermalZones (hs : Change.sequencer ∈ by_) (hr : Change.resume ∈ by_) (hd : Change.dim ∈ by_)
    (z : PerZone ZoneReport) : Moves by_ s₀ (s.thermalZones z) := by
  have hjudged := (h.move hd (.judged (t := s.thermal.judge s.params z.board z.display) rfl)).sendWarn s.thermal
    (s.thermal.judge s.params z.board z.display) z.board
  refine Moves.sendFilter (Moves.sendBlind ?_ _ _) _ _ _
  unfold State.sendRequestsAndDim
  split
  · exact oneOf ((hjudged.sendRequests hs hr _ _).sendHeatDim hd _ _)
      ((hjudged.sendHeatDim hd _ _).sendRequests hs hr _ _)
  · exact (hjudged.sendRequests hs hr _ _).sendHeatDim hd _ _

theorem zonesEvaluated (hs : Change.sequencer ∈ by_) (hr : Change.resume ∈ by_) (hd : Change.dim ∈ by_)
    (z : PerZone ZoneReport) : Moves by_ s₀ (s.zonesEvaluated z) := by
  unfold State.zonesEvaluated
  split
  · exact oneOf (((h.pathZones z).sequencerZones hs z).thermalZones hs hr hd z)
      (((h.pathZones z).thermalZones hs hr hd z).sequencerZones hs z)
  · exact ((h.sequencerZones hs z).pathZones z).thermalZones hs hr hd z

theorem cycleComplete (hs : Change.sequencer ∈ by_) (hr : Change.resume ∈ by_) (hd : Change.dim ∈ by_) :
    Moves by_ s₀ s.cycleComplete := by
  have hair := h.own (.thermal (t := { s.thermal with air := s.meas.samples[5].reading }) rfl rfl)
  exact hair.evaluateZones.zonesEvaluated hs hr hd _

theorem conversionDone (hs : Change.sequencer ∈ by_) (hr : Change.resume ∈ by_) (hd : Change.dim ∈ by_)
    (code : BitVec 12) : Moves by_ s₀ (s.conversionDone code) := by
  unfold State.conversionDone
  split
  · exact h
  next ch _ =>
    have hconverted := (h.convert ch code).onMeas (Meas.advance ch)
    dsimp only
    split
    · exact hconverted.cycleComplete hs hr hd
    · exact hconverted

end

end State.Moves

end Sys2Proof.Machine
end


section
/-! PROOF. The keypad, the panel, the requests and the frames as runs of changes. -/

namespace Sys2Proof.Machine

/-- Only parameter 30 writes the restart limit (section 12.6). -/
theorem Params.write_restartLimit (p : Params) {n : Nat} (hn : n ≠ 30) (v : Int) :
    (p.write n v).1.restartLimit = p.restartLimit := by
  unfold Params.write
  split
  case h_30 => exact absurd rfl hn
  case h_12 | h_21 | h_31 | h_32 | h_33 | h_42 | h_52 | h_53 =>
    exact writeFlag_fst (P := fun q => q.restartLimit = p.restartLimit) rfl (fun _ => rfl)
  case h_1 | h_24 | h_44 | h_45 =>
    exact writeListed_fst (P := fun q => q.restartLimit = p.restartLimit) rfl (fun _ => rfl)
  all_goals rfl

/-- The coalesce flags after a class entry is stored (R142). -/
theorem Tables.setClass_coalesceOf (t : Tables) {c : Fin 64} (hc : 8 ≤ c.val) (e : ClassEntry) (d : Fin 64) :
    (t.setClass c.val e).coalesceOf d = if d = c then e.coalesce else t.coalesceOf d := by
  have hset : 8 ≤ c.val ∧ c.val < 64 := ⟨hc, c.isLt⟩
  simp only [Tables.setClass, hset, and_self, dif_pos, Tables.coalesceOf, Tables.classEntry]
  by_cases hd : 8 ≤ d.val
  · by_cases hdc : d = c
    · subst hdc; simp [hd]
    · have hne : c.val - 8 ≠ d.val - 8 := fun h => hdc (Fin.ext (by omega))
      simp [hd, hdc, Vector.getElem_set_ne, hne]
  · have hdc : d ≠ c := fun h => hd (h ▸ hc)
    simp [hd, hdc]

namespace State.Moves

variable {by_ : List Change} {s₀ s : State}

/-! ## Panel actions and the Sequence Matcher (R70, R117 to R120) -/

section
variable (h : Moves by_ s₀ s) (hp : Change.panel ∈ by_)
include h hp

@[simp] theorem panelAction (a : PanelAction) (slot : Fin 4) : Moves by_ s₀ (s.panelAction a slot) := by
  unfold State.panelAction
  split
  next hacts => exact h.move hp (.carryOut a _ hacts)
  next => exact h.beep _

@[simp] theorem anyKeyPowerOn : Moves by_ s₀ s.anyKeyPowerOn := by
  unfold State.anyKeyPowerOn
  split
  next hoff => exact h.move hp (.carryOut .powerOn _ hoff)
  next => exact h

@[simp] theorem fire (n : Fin 4) : Moves by_ s₀ (s.fire n) := by
  have haccepted := (h.onMatcher (f := Matcher.clearAll) rfl rfl).beep .accept
  unfold State.fire State.deliver
  split <;> simp [haccepted, hp]

@[simp] theorem judgePress (k : Fin 64) : Moves by_ s₀ (s.judgePress k) := by
  have hjudged := h.onMatcher (f := Matcher.press s.tables.sequences s.params.stepTimeout s.clockMs k) rfl rfl
  simp only [State.judgePress]
  split
  · exact hjudged
  · exact hjudged.fire hp _

@[simp] theorem matcherPress (k : Fin 64) : Moves by_ s₀ (s.matcherPress k) := by
  unfold State.matcherPress
  split
  · exact h.judgePress hp k
  · exact oneOf (h.takeReports.judgePress hp k) (h.judgePress hp k)

@[simp] theorem holdExpired (due : Nat) : Moves by_ s₀ (s.holdExpired due) := by
  unfold State.holdExpired; split <;> simp [h, hp]

/-! ## The keypad (R97 to R107) -/

omit hp in
@[simp] theorem decidePress (i : Fin 64) (e : KeyEntry) : Moves by_ s₀ (s.decidePress i e) := by
  unfold State.decidePress
  split
  · split
    next hfits => exact h.onKeypad (Keypad.queuePress_keeps hfits i e _)
    next => exact (h.onKeypad (.of_le rfl rfl rfl le_rfl)).report _
  · exact h

omit hp in
@[simp] theorem clickFor (e : KeyEntry) : Moves by_ s₀ (s.clickFor e) := by unfold State.clickFor; split <;> simp [h]

@[simp] theorem anyKeyFirst (i : Fin 64) : Moves by_ s₀ (s.anyKeyFirst i) := by
  have hon := h.anyKeyPowerOn hp
  simp only [State.anyKeyFirst]
  split
  exacts [hon.judgePress hp i, hon.takeReports.judgePress hp i]

@[simp] theorem handOn (i : Fin 64) : Moves by_ s₀ (s.handOn i) := by
  unfold State.handOn
  split
  · exact oneOf ((h.matcherPress hp i).anyKeyPowerOn hp) (h.anyKeyFirst hp i)
  · exact h.matcherPress hp i

@[simp] theorem processPress (i : Fin 64) : Moves by_ s₀ (s.processPress i) := by
  simp only [State.processPress, State.passedPress]
  split
  · split
    · exact h.keyOffer.onKeypad (.of_le rfl rfl rfl le_rfl)
    · exact ((h.keyOffer.decidePress i _).clickFor _).handOn hp i
  · exact (h.clickFor _).matcherPress hp i
  · exact h

@[simp] theorem applyPress (i : Fin 64) : Moves by_ s₀ (s.applyPress i) := by
  unfold State.applyPress
  split
  · exact (h.onKeypad (s.keypad.onKey_keeps i _)).report _
  · exact (h.onKeypad (f := Keypad.enterDown i) (s.keypad.onKey_keeps i _)).processPress hp i

@[simp] theorem reexamine (i : Fin 64) : Moves by_ s₀ (s.reexamine i) := by
  unfold State.reexamine
  split
  · exact (h.onKeypad (f := fun k => (k.enterDown i).unsuppress i) (.of_le rfl rfl rfl le_rfl)).processPress hp i
  · exact h

omit hp in
@[simp] theorem applyRelease (i : Fin 64) : Moves by_ s₀ (s.applyRelease i) := by
  have hup := s.keypad.onKey_keeps i (fun r => { r with state := .up })
  simp only [State.applyRelease]
  split
  · exact (h.onKeypad (hup.trans (Keypad.handleRelease_keeps _ i _))).onMatcher rfl rfl
  · exact h.onKeypad (hup.trans (Keypad.unsuppress_keeps _ i))

omit hp in
@[simp] theorem stuckCheck (i : Fin 64) : Moves by_ s₀ (s.stuckCheck i) := by
  unfold State.stuckCheck State.stuckNotice
  split
  · have hstuck := (h.onKeypad (s.keypad.stick_keeps i)).onMatcher (f := Matcher.leave i) rfl rfl
    split
    · exact hstuck
    · exact (hstuck.post _).report _
  · exact h

omit hp in
/-- What each step of a fold goes on with, the fold goes on with. -/
theorem foldl {α : Type} {f : State → α → State} (hf : ∀ (s : State) a, Moves by_ s₀ s → Moves by_ s₀ (f s a))
    (l : List α) : Moves by_ s₀ (l.foldl f s) := by
  induction l generalizing s with
  | nil => exact h
  | cons a l ih => exact ih (hf s a h)

@[simp] theorem scanReleases (releases : List (Fin 64)) : Moves by_ s₀ (s.scanReleases releases) := by
  have hreleased := h.foldl (fun s i hs => hs.applyRelease i) releases
  simp only [State.scanReleases]
  split
  · exact hreleased
  · exact hreleased.foldl (fun s i hs => hs.reexamine hp i) _

/-- A scan from its beginning to its end (R96). -/
theorem scan (hscan : Change.scan ∈ by_) (reading : BitVec 64) : Moves by_ s₀ (s.scan reading) := by
  have hbegun := (h.reach s.keypad.nowMs).move hscan
    (.scanBegins (k := (s.keypad.debounceAll s.params.debounce reading).beginScan) rfl
      (by unfold Keypad.debounceAll; split <;> rfl) (by unfold Keypad.debounceAll; split <;> rfl)
      (by unfold Keypad.debounceAll; split <;> exact id))
  have hdone := ((hbegun.scanReleases hp (s.keypad.releases s.params.debounce reading)).foldl (fun s i hs => hs.applyPress hp i)
    (s.keypad.presses s.params.debounce reading)).foldl (fun s i hs => hs.stuckCheck i) allKeys
  exact (hdone.onKeypad (Keypad.repeatStep_keeps _ s.params.repeatPeriod)).move hscan (.scanEnds _)

end

/-! ## The requests (R167 to R179) -/

section
variable (h : Moves by_ s₀ s)
include h

/-- The class table written: the frames of a class that coalesces from now on become one (R142, R160). -/
theorem storeClass {c : Fin 64} (hc : 8 ≤ c.val) (e : ClassEntry) :
    Moves by_ s₀ (if e.coalesce && !s.tables.coalesceOf c then
      (s.onTables (Tables.setClass c.val e.corrected)).onPath (DisplayPath.coalesceSet c)
    else s.onTables (Tables.setClass c.val e.corrected)) := by
  have hlimit : (s.tables.setClass c.val e.corrected).params.restartLimit = s.params.restartLimit := by
    unfold Tables.setClass; split <;> rfl
  split
  next =>
    refine h.own (.tables (q := mergeClass c s.path.queue) hlimit fun hq => (hq.merge c).mono fun d hd => ?_)
    have hd := (Tables.setClass_coalesceOf s.tables hc e.corrected d).symm.trans hd
    by_cases hdc : d = c
    · simp [hdc]
    · simpa [hdc] using hd
  next hsame =>
    refine h.own (.tables (q := s.path.queue) hlimit fun hq => hq.mono fun d hd => ?_)
    have hd := (Tables.setClass_coalesceOf s.tables hc e.corrected d).symm.trans hd
    by_cases hdc : d = c
    · subst hdc
      rw [if_pos rfl] at hd
      simpa [show e.coalesce = true from hd] using hsame
    · simpa [hdc] using hd

@[simp] theorem setClass (args : List Byte) : Moves by_ s₀ (s.setClass args).state := by
  unfold State.setClass
  split
  case h_2 => exact h
  split
  case isFalse => exact h
  next i _ _ f mn mx hi =>
  split
  case h_1 => exact h
  next old hold =>
  have hc : 8 ≤ (⟨i.toNat, hi⟩ : Fin 64).val := by
    by_contra hno
    simp [Tables.classEntry, hno] at hold
  have hflag : s.tables.coalesceOf ⟨i.toNat, hi⟩ = old.coalesce := by simp [Tables.coalesceOf, hold]
  split
  next dir act _ _ =>
    dsimp only
    rw [← hflag]
    exact h.storeClass hc
      { direction := dir, action := act, heartbeat := f.getLsbD 0, activity := f.getLsbD 1, coalesce := f.getLsbD 2
        wake := f.getLsbD 3, minLength := mn.toNat, maxLength := mx.toNat }
  next => exact h

@[simp] theorem setKeymap (args : List Byte) : Moves by_ s₀ (s.setKeymap args).state := by
  unfold State.setKeymap
  split
  case h_2 => exact h
  split
  case isFalse => exact h
  split
  · exact h
  · dsimp only
    exact h.onTables rfl rfl

@[simp] theorem setSequence (args : List Byte) : Moves by_ s₀ (s.setSequence args).state := by
  unfold State.setSequence
  split
  case h_2 => exact h
  split
  case isTrue => exact h
  split
  case isFalse => exact h
  split
  · dsimp only
    exact (h.onTables rfl rfl).onMatcher rfl rfl
  · exact h

@[simp] theorem setZone (args : List Byte) : Moves by_ s₀ (s.setZone args).state := by
  unfold State.setZone
  split
  case h_2 => exact h
  split
  case h_1 => exact h
  split
  · dsimp only [State.storeZone]
    exact (h.onTables rfl rfl).onHeat ⟨rfl, rfl, fun hr hno => hr hno⟩
  · exact h

@[simp] theorem setChannel (args : List Byte) : Moves by_ s₀ (s.setChannel args).state := by
  unfold State.setChannel
  split
  case h_2 => exact h
  split
  · dsimp only
    exact h.onTables rfl rfl
  · split <;> exact h

@[simp] theorem setInject (args : List Byte) : Moves by_ s₀ (s.setInject args).state := by
  unfold State.setInject
  split
  case h_2 => exact h
  split
  case isTrue => exact h
  dsimp only
  split
  · exact h.onTables (f := fun t => { t with dim := _ }) rfl rfl
  · exact h.onTables (f := fun t => { t with wake := _ }) rfl rfl
  · exact h

/-- A parameter written: the restart limit trims the list, a port's rate waits (R66, R127). -/
theorem parameterStored (hs : Change.sequencer ∈ by_) (n : Nat) (v : Int) :
    Moves by_ s₀ ((s.onTables (fun t => { t with params := (s.params.write n v).1 })).parameterStored n) := by
  by_cases hn : n = 30
  · subst hn
    exact h.move hs (.limit (t := { s.tables with params := (s.params.write 30 v).1 }) (q := s.path.queue) id)
  · have hstored := h.onTables (f := fun t => { t with params := (s.params.write n v).1 })
      (s.params.write_restartLimit hn v) rfl
    unfold State.parameterStored
    split
    · exact absurd rfl hn
    · exact hstored.onSys (.of_same rfl rfl rfl rfl)
    · exact hstored.onSys (.of_same rfl rfl rfl rfl)
    · exact hstored

@[simp] theorem setParameter (hs : Change.sequencer ∈ by_) (args : List Byte) :
    Moves by_ s₀ (s.setParameter args).state := by
  unfold State.setParameter
  split
  case h_2 => exact h
  split
  case isFalse => exact h
  dsimp only
  split
  · exact h
  · exact h.parameterStored hs _ _

@[simp] theorem setEntry (hs : Change.sequencer ∈ by_) (args : List Byte) : Moves by_ s₀ (s.setEntry args).state := by
  unfold State.setEntry; (repeat' split) <;> simp [h, hs]

theorem noArgs {a : Answer} (ha : Moves by_ s₀ a.state) (args : List Byte) : Moves by_ s₀ (s.noArgs args a).state := by
  cases args
  exacts [ha, h]

@[simp] theorem getStatus (args : List Byte) : Moves by_ s₀ (s.getStatus args).state := by
  unfold State.getStatus
  split
  · dsimp only
    split
    · exact h.onMgmt (.of_same rfl rfl)
    · exact h
  · exact h

@[simp] theorem getZones (args : List Byte) : Moves by_ s₀ (s.getZones args).state := h.noArgs h args

@[simp] theorem getSamples (args : List Byte) : Moves by_ s₀ (s.getSamples args).state := h.noArgs h args

@[simp] theorem getEntry (args : List Byte) : Moves by_ s₀ (s.getEntry args).state := by
  unfold State.getEntry; (repeat' split) <;> exact h

@[simp] theorem getCounters (args : List Byte) : Moves by_ s₀ (s.getCounters args).state := by
  unfold State.getCounters; (repeat' split) <;> exact h

@[simp] theorem getLog (args : List Byte) : Moves by_ s₀ (s.getLog args).state := by
  unfold State.getLog; (repeat' split) <;> exact h

@[simp] theorem clearCounters (args : List Byte) : Moves by_ s₀ (s.clearCounters args).state := by
  refine h.noArgs ?_ args
  dsimp only [State.done, State.zeroCounters]
  exact ((((((h.onSwitch _).onSys (.of_same rfl rfl rfl rfl)).onDisp _).onPath (.of_same rfl rfl rfl rfl)).onKeypad
    (.of_le rfl rfl rfl le_rfl)).onMgmt (.of_same rfl rfl)).onLive (.inl rfl)

/-! ### The power, the display and the profile -/

theorem powerOff (hs : Change.sequencer ∈ by_) (args : List Byte) : Moves by_ s₀ (s.powerOff args).state :=
  h.noArgs (h.requestOff hs) args

theorem powerRestart (hs : Change.sequencer ∈ by_) (args : List Byte) : Moves by_ s₀ (s.powerRestart args).state :=
  h.noArgs (h.requestPowerRestart hs) args

theorem powerCycle (hs : Change.sequencer ∈ by_) (args : List Byte) : Moves by_ s₀ (s.powerCycle args).state :=
  h.noArgs (h.requestCycle hs) args

@[simp] theorem displayDim (args : List Byte) : Moves by_ s₀ (s.displayDim args).state := h.noArgs h.requestDim args

@[simp] theorem displayWake (args : List Byte) : Moves by_ s₀ (s.displayWake args).state := h.noArgs h.requestWake args

@[simp] theorem displayRestart (args : List Byte) : Moves by_ s₀ (s.displayRestart args).state :=
  h.noArgs h.requestRestart args

theorem requestPower (hs : Change.sequencer ∈ by_) (args : List Byte) : Moves by_ s₀ (s.requestPower args).state := by
  unfold State.requestPower
  split
  · exact h
  · split
    exacts [h.powerOff hs _, h.powerRestart hs _, h.powerCycle hs _, h.noArgs h _]

@[simp] theorem requestDisplay (args : List Byte) : Moves by_ s₀ (s.requestDisplay args).state := by
  unfold State.requestDisplay
  split
  · exact h
  · split
    exacts [h.displayDim _, h.displayWake _, h.displayRestart _, h.noArgs h _]

@[simp] theorem forceSet (ch : Byte) (args : List Byte) : Moves by_ s₀ (s.forceSet ch args).state := by
  unfold State.forceSet
  split
  · split
    · exact h.onMeas _
    · exact h
  · exact h

@[simp] theorem forceRelease (ch : Byte) (args : List Byte) : Moves by_ s₀ (s.forceRelease ch args).state := by
  unfold State.forceRelease
  split
  · split
    · exact h.onMeas _
    · exact h
  · exact h

@[simp] theorem forceSample (args : List Byte) : Moves by_ s₀ (s.forceSample args).state := by
  unfold State.forceSample State.forceUnknown
  split
  · split
    · exact h.forceSet _ _
    · exact h.forceRelease _ _
    · split
      · split <;> exact h
      · exact h
  · exact h

@[simp] theorem commitProfile (args : List Byte) : Moves by_ s₀ (s.commitProfile args).state :=
  h.noArgs (a := s.beginCommit.done) ((h.onStore _).onMgmt (f := fun m => { m with commit := .inProgress })
    (.of_same rfl rfl)) args

@[simp] theorem resetSupervisor (args : List Byte) : Moves by_ s₀ (s.resetSupervisor args).state :=
  h.noArgs (a := (s.onMgmt (fun m => { m with pendingSoft := true })).done)
    (h.onMgmt (f := fun m => { m with pendingSoft := true }) (.of_same rfl rfl)) args

/-! ### The order of judgement (R168, R169) -/

theorem unlessCommitting {request : State → Answer} (hr : Moves by_ s₀ (request s).state) :
    Moves by_ s₀ (s.unlessCommitting request).state := by
  unfold State.unlessCommitting
  split
  exacts [h, hr]

theorem command (hs : Change.sequencer ∈ by_) (code : Nat) (args : List Byte) :
    Moves by_ s₀ (s.command code args).state := by
  unfold State.command
  split
  case h_5 => exact h.unlessCommitting (h.setEntry hs args)
  case h_9 => exact h.requestPower hs args
  case h_12 => exact h.unlessCommitting (h.commitProfile args)
  case h_13 => exact h.unlessCommitting (h.resetSupervisor args)
  all_goals simp [h]

theorem serve {request : State → Answer} (hr : Moves by_ s₀ (request s).state) (command tag : Byte) :
    Moves by_ s₀ (s.serve command tag request) := by
  unfold State.serve
  split
  · exact (h.onMgmt (.of_same rfl rfl)).report _
  · exact hr.placeReply _

theorem manage (hs : Change.sequencer ∈ by_) (payload : List Byte) : Moves by_ s₀ (s.manage payload) := by
  unfold State.manage
  split
  · exact h.serve h _ _
  · exact h.serve h _ _
  · exact h.serve (h.command hs _ _) _ _

/-! ## Frames and characters (R129, R140 to R148) -/

@[simp] theorem passed (c : Fin 64) : Moves by_ s₀ (s.passed c) := h.onSwitch _

@[simp] theorem dropped (c : Fin 64) : Moves by_ s₀ (s.dropped c) := h.onSwitch _

theorem reservedFromBoard (hs : Change.sequencer ∈ by_) (f : Frame) : Moves by_ s₀ (s.reservedFromBoard f) := by
  unfold State.reservedFromBoard
  split
  exacts [(h.passed _).manage hs _, (h.passed _).heartbeat hs, h.dropped _]

theorem loadableFromBoard (hs : Change.sequencer ∈ by_) (f : Frame) : Moves by_ s₀ (s.loadableFromBoard f) := by
  unfold State.loadableFromBoard
  split
  · exact h.dropped _
  next e he =>
    split
    · have hheard : Moves by_ s₀ (if e.heartbeat then s.heartbeat else s) := by split <;> simp [h, hs]
      have hevents : Moves by_ s₀ (s.boardSideEvents e) := by
        simp only [State.boardSideEvents]
        split
        exacts [hheard.activity, hheard]
      unfold State.boardAction
      split
      · refine (hevents.takeFrame ?_).passed _
        simp [Tables.coalesceOf, he]
      · exact hevents.dropped _
    · exact h.dropped _

theorem frameFromBoard (hs : Change.sequencer ∈ by_) (f : Frame) : Moves by_ s₀ (s.frameFromBoard f) := by
  unfold State.frameFromBoard
  split
  exacts [h.reservedFromBoard hs f, h.loadableFromBoard hs f]

@[simp] theorem reservedFromDisplay (f : Frame) : Moves by_ s₀ (s.reservedFromDisplay f) := by
  unfold State.reservedFromDisplay; split <;> simp [h]

@[simp] theorem displayForward (e : ClassEntry) (f : Frame) : Moves by_ s₀ (s.displayForward e f) := by
  have hevent : Moves by_ s₀ (if e.activity then s.activity else s) := by split <;> simp [h]
  unfold State.displayForward
  dsimp only
  generalize (if e.activity then s.activity else s) = u at hevent ⊢
  split
  next hlive => exact (hevent.forward hlive f).passed _
  next => exact hevent.dropped _

@[simp] theorem loadableFromDisplay (f : Frame) : Moves by_ s₀ (s.loadableFromDisplay f) := by
  unfold State.loadableFromDisplay
  split
  · exact h.dropped _
  · split
    · split
      · split
        exacts [h.wakeOffer.dropped _, h.wakeOffer.displayForward _ f]
      · exact h.displayForward _ f
    · exact h.dropped _

@[simp] theorem frameFromDisplay (f : Frame) : Moves by_ s₀ (s.frameFromDisplay f) := by
  unfold State.frameFromDisplay; split <;> simp [h]

theorem boardFrame {route : State → State} (hr : ∀ s : State, Moves by_ s₀ s → Moves by_ s₀ (route s)) :
    Moves by_ s₀ (s.boardFrame route) := by
  unfold State.boardFrame
  split
  · exact hr _ ((h.judgeLow _).onSys (.of_same rfl rfl rfl rfl))
  · exact h

theorem displayFrame {route : State → State} (hr : ∀ s : State, Moves by_ s₀ s → Moves by_ s₀ (route s)) :
    Moves by_ s₀ (s.displayFrame route) := hr _ ((h.lineHigh _).onDisp _).displayHeard

theorem requestFrame {request : State → Answer} (hr : ∀ s : State, Moves by_ s₀ s → Moves by_ s₀ (request s).state)
    (code : Nat) (tag : Byte) : Moves by_ s₀ (s.requestFrame code tag request) :=
  h.boardFrame fun _ hu => (hu.passed 0).serve (hr _ (hu.passed 0)) _ _

theorem boardCharacter (hs : Change.sequencer ∈ by_) (data : Byte) (mark stop : Bool) :
    Moves by_ s₀ (s.boardCharacter data mark stop) := by
  have hlow := h.judgeLow .system
  have hjudged (rx : RxState) := hlow.onSys (f := fun p => { p with rx := rx }) (.of_same rfl rfl rfl rfl)
  have hcounted (j : Judgement) := (hjudged j.rx).foldl (fun s o hu => hu.systemOutcome o) j.outcomes
  simp only [State.boardCharacter]
  split
  · split
    · exact hlow.onSys (.of_same rfl rfl rfl rfl)
    · simp only [State.boardJudgement]
      split
      exacts [(hcounted _).frameFromBoard hs _, hcounted _]
  · exact h

@[simp] theorem displayCharacter (data : Byte) (mark stop : Bool) :
    Moves by_ s₀ (s.displayCharacter data mark stop) := by
  have hhigh := h.lineHigh .display
  have hcounted (j : Judgement) := (hhigh.onDisp (fun d => { d with rx := j.rx })).foldl
    (fun s o hu => hu.displayOutcome o) j.outcomes
  simp only [State.displayCharacter]
  split
  · exact hhigh.onDisp _
  · simp only [State.displayJudgement]
    split
    exacts [((hcounted _).onDisp _).frameFromDisplay _, hcounted _]

theorem character (hs : Change.sequencer ∈ by_) (port : Port) (data : Byte) (mark : Bool) (stop : StopBit) :
    Moves by_ s₀ (s.character port data mark stop) := by
  cases stop with
  | returned => exact h.lineHigh port
  | one | zero =>
    cases port
    exacts [h.boardCharacter hs _ _ _, h.displayCharacter _ _ _]

/-! ## Timers -/

theorem onExpiry {work : Timer → State → State} (timer : Option Timer)
    (hw : ∀ t (s' : State), s'.power = s.power → s'.live = s.live → s'.path = s.path → Moves by_ s₀ s' →
      Moves by_ s₀ (work t s')) : Moves by_ s₀ (s.onExpiry timer work) := by
  unfold State.onExpiry
  split
  · exact h
  · exact hw _ _ rfl rfl rfl (h.reach _)

theorem onExpiryIn {work : State → State} (timer : Option Timer) {here : Bool}
    (hw : here = true → ∀ s' : State, s'.power = s.power → s'.live = s.live → s'.path = s.path → Moves by_ s₀ s' →
      Moves by_ s₀ (work s')) : Moves by_ s₀ (s.onExpiryIn here timer work) := by
  unfold State.onExpiryIn
  split
  next hhere => exact h.onExpiry timer fun _ => hw hhere
  next => exact h

end

end State.Moves

end Sys2Proof.Machine
end


section
/-! PROOF. The end of a step and every command as runs of changes. -/

namespace Sys2Proof.Machine

namespace State.Moves

variable {by_ : List Change} {s₀ s : State}

section
variable (h : Moves by_ s₀ s)
include h

/-! ## The end of a step (R127, R179) -/

@[simp] theorem applyRate (port : Port) (rate : Nat) : Moves by_ s₀ (s.applyRate port rate) := by
  unfold State.applyRate
  split <;> split
  exacts [h, h.onSys (.of_same rfl rfl rfl rfl), h, h.onDisp _]

@[simp] theorem applyRateChange : Moves by_ s₀ s.applyRateChange := by
  unfold State.applyRateChange
  split
  · exact h
  · exact (h.applyRate _ _).onSys (.of_same rfl rfl rfl rfl)

@[simp] theorem livenessSoftReset : Moves by_ s₀ s.livenessSoftReset := by
  have hearly := h.onLive (f := fun l => { l with early := 0 }) (.inl rfl)
  unfold State.livenessSoftReset
  dsimp only
  split
  next hw => exact hearly.onLive (.inr ⟨.inl hw, .inl rfl⟩)
  next hw => exact hearly.onLive (.inr ⟨.inr hw, .inl rfl⟩)
  next => exact hearly

end

end State.Moves

/-- The part of a soft reset that the tables rule: they are reloaded, the restart window list is trimmed and the newly
coalescing classes are merged (R153, R177, R179). -/
def State.retabled (s : State) : State :=
  { s with
    tables := s.store.load
    power := { s.power with restartList := trimList s.store.load.params.restartLimit s.power.restartList }
    path := { s.path with queue := (s.path.softReset (newlyCoalescing s.tables s.store.load)).queue } }

theorem newlyCoalescing_covers (old new : Tables) (d : Fin 64) (h : new.coalesceOf d = true) :
    (old.coalesceOf d || decide (d ∈ newlyCoalescing old new)) = true := by
  cases ho : old.coalesceOf d <;> simp [newlyCoalescing, allKeys, h, ho]

/-- The display path's soft reset changes its queue and its counter alone (R153, R167). -/
theorem DisplayPath.softReset_eq (classes : List (Fin 64)) (p : DisplayPath) :
    p.softReset classes = { p with queue := (p.softReset classes).queue, dqDiscard := 0 } := by
  show ({ classes.foldl (fun q c => q.coalesceSet c) p with dqDiscard := 0 } : DisplayPath) = _
  unfold DisplayPath.softReset
  induction classes generalizing p with
  | nil => rfl
  | cons c cs ih => exact ih (p.coalesceSet c)

/-- A soft reset is the part that the tables rule, and each block's own (R179). -/
theorem State.softReset_eq (s : State) : ∃ (c : Nat) (m : Mgmt), s.mgmt.Keeps m ∧ s.softReset =
    (((((((((((({ s.retabled with choices := c, mgmt := m } : State).onMeas Meas.softReset).onHeat
      (Heat.softReset s.tables.zones s.store.load.zones)).livenessSoftReset).onKeypad
      (fun k => { k with lossCount := 0 })).onMatcher Matcher.clearAll).onSys
      (fun p => { p with errors := PortErrors.zero, fwdDiscard := 0 })).onDisp
      (fun d => { d with errors := PortErrors.zero })).applyRate .system s.store.load.params.systemRate).applyRate
      .display s.store.load.params.displayRate).onSwitch (fun _ => Switch.cold)).onPath
      (fun p => { p with dqDiscard := 0 })) := by
  refine ⟨s.clearFlags.reload.choices, s.clearFlags.reload.mgmt, ?_, ?_⟩
  · rw [State.clearFlags_reload_eq]
    exact .of_same rfl rfl
  · simp only [State.softReset, State.blocksSoftReset, State.livenessSoftReset_eq, State.applyRate_system,
      State.applyRate_display, State.clearFlags_reload_eq, State.onMeas, State.onHeat, State.onPower, State.onKeypad,
      State.onMatcher, State.onSys, State.onDisp, State.onSwitch, State.onPath, State.params, State.retabled]
    rw [DisplayPath.softReset_eq]

namespace State.Moves

variable {by_ : List Change} {s₀ s : State}

section
variable (h : Moves by_ s₀ s)
include h

theorem softReset (hs : Change.sequencer ∈ by_) : Moves by_ s₀ s.softReset := by
  obtain ⟨c, m, hm, heq⟩ := s.softReset_eq
  have hretabled : Moves by_ s₀ s.retabled :=
    h.move hs (.limit fun hq => (hq.softReset _).mono (newlyCoalescing_covers _ _))
  have hmgmt : Moves by_ s₀ { s.retabled with choices := c, mgmt := m } := (hretabled.choose c).own (.mgmt hm)
  rw [heq]
  exact (((((((((((hmgmt.onMeas _).onHeat ⟨rfl, rfl, fun hr hno => hr hno⟩).livenessSoftReset).onKeypad
    (.of_le rfl rfl rfl le_rfl)).onMatcher rfl rfl).onSys (.of_same rfl rfl rfl rfl)).onDisp _).applyRate _ _).applyRate
    _ _).onSwitch _).onPath (.of_same rfl rfl rfl rfl))

/-- The end of a step (R127, R179). -/
theorem finish (hs : Change.sequencer ∈ by_) : Moves by_ s₀ s.finish := by
  have hended : Moves by_ s₀ s.replyEndTaken := by
    unfold State.replyEndTaken
    split
    · exact (h.applyRateChange.onMgmt (f := fun m => { m with pendingSoft := false }) (.of_same rfl rfl)).softReset hs
    · exact h.applyRateChange
  unfold State.finish
  dsimp only
  split
  · exact hended.onMgmt (.of_same rfl rfl)
  · exact h.onMgmt (.of_same rfl rfl)

theorem perform (hs : Change.sequencer ∈ by_) {work : State → State}
    (hw : ∀ s : State, Moves by_ s₀ s → Moves by_ s₀ (work s)) : Moves by_ s₀ (s.perform work) := by
  unfold State.perform
  split
  exacts [h, (hw s h).finish hs]

end

end State.Moves

/-! ## Every command -/

/-- What makes the changes of a command's work (R55, R70, R72, R96). -/
def changesOf : Instr → List Change
  | .conversionComplete _ => [.sequencer, .resume, .dim]
  | .scan _ => [.panel, .scan]
  | .holdTimerExpiry _ => [.panel]
  | _ => [.sequencer]

/-- The commands that do a block's work outside cold reset: all but the resets and the host-ready level. -/
def DoesWork (c : Instr) : Prop :=
  (∀ cause, c ≠ .coldReset cause) ∧ c ≠ .coldResetRelease ∧ ∀ l, c ≠ .hostReadyChange l

theorem PowerSeq.inPhase_iff {st : PowerState} {ph : Phase} {p : PowerSeq} :
    p.inPhase st ph = true ↔ p.state = st ∧ p.phase = some ph := by simp [PowerSeq.inPhase]

/-- A command's work, done outside cold reset, is a run of the changes its kind makes. -/
theorem exec_work {c : Instr} (hc : DoesWork c) {s : State} (hheld : s.held = false) :
    ∃ u, exec c s = .next u.finish ∧ State.Moves (changesOf c) s u := by
  suffices hwork : ∃ work : State → State, exec c s = .next (s.perform work) ∧
      State.Moves (changesOf c) s (work s) by
    obtain ⟨work, hexec, hmoves⟩ := hwork
    exact ⟨_, hexec.trans (by rw [State.perform_of_running _ hheld]), hmoves⟩
  have h := State.Moves.refl (by_ := changesOf c) s
  obtain ⟨hreset, hrelease, hready⟩ := hc
  have hseq : Change.sequencer ∈ [Change.sequencer] := List.mem_singleton_self _
  cases c with
  | coldReset cause => exact absurd rfl (hreset cause)
  | coldResetRelease => exact absurd rfl hrelease
  | powerGoodChange l => exact ⟨State.powerGoodLevel l, by simp [exec, execPowerGoodChange, hheld], h.powerGoodLevel hseq l⟩
  | hostReadyChange l => exact absurd rfl (hready l)
  | conversionComplete code =>
    exact ⟨_, rfl, h.conversionDone (by simp [changesOf]) (by simp [changesOf]) (by simp [changesOf]) code⟩
  | scan reading => exact ⟨_, rfl, h.scan (by simp [changesOf]) (by simp [changesOf]) reading⟩
  | holdTimerExpiry n =>
    exact ⟨_, rfl, h.onExpiry _ fun t _ _ _ _ hu => hu.holdExpired (by simp [changesOf]) _⟩
  | cycleStart | heaterSlotStart | lineBreak _ | systemTxBegin | systemFrameSent | displayFrameSent
  | beeperSegmentEnd | oneShotEnd | backgroundPeriodStart | commitEnd _ | breakEnd =>
    exact ⟨_, rfl, by simp [h]⟩
  | reserveGranted => exact ⟨_, rfl, h.reserveGranted hseq⟩
  | preheatLimitExpiry =>
    refine ⟨_, rfl, h.onExpiryIn _ fun hhere u hp _ _ hu => hu.preheatExpired hseq ?_⟩
    rw [hp]
    exact of_decide_eq_true hhere
  | powerGoodTimeout =>
    refine ⟨_, rfl, h.onExpiryIn _ fun hhere u hp _ _ hu => hu.autoRestart hseq _ ?_ nofun⟩
    rw [hp]
    exact PowerSeq.leaves_of_state (PowerSeq.inPhase_iff.mp hhere).1 (by decide)
  | settleExpiry =>
    refine ⟨_, rfl, h.onExpiryIn _ fun hhere u hp _ _ hu => hu.settled hseq ?_ ?_⟩ <;> rw [hp]
    exacts [(PowerSeq.inPhase_iff.mp hhere).1, (PowerSeq.inPhase_iff.mp hhere).2]
  | resetPulseExpiry =>
    refine ⟨_, rfl, h.onExpiryIn _ fun hhere u hp _ _ hu => ?_⟩
    have hst : u.power.state = .restarting := hp ▸ (PowerSeq.inPhase_iff.mp hhere).1
    exact hu.transition hseq [] (.of_reserved (.of_restarting hst) (by nofun))
      (PowerSeq.leaves_of_state hst (by decide))
  | shutdownGraceExpiry =>
    refine ⟨_, rfl, h.onExpiryIn _ fun hhere u hp _ _ hu => hu.endShutdown hseq [] ?_⟩
    rw [hp]
    exact of_decide_eq_true hhere
  | offTimeExpiry =>
    refine ⟨_, rfl, h.onExpiryIn _ fun hhere u hp _ _ hu => ?_⟩
    have hst : u.power.state = .cycling := hp ▸ of_decide_eq_true hhere
    exact hu.transition hseq [] (.of_off rfl (by nofun) _) (PowerSeq.leaves_of_state hst (by decide))
  | bootTimeout => exact ⟨_, rfl, h.onExpiryIn _ fun _ _ _ _ _ hu => hu.bootExpired hseq⟩
  | graceTimerExpiry => exact ⟨_, rfl, h.onExpiryIn _ fun _ _ _ _ _ hu => hu.graceExpired hseq⟩
  | heartbeatTimerExpiry =>
    refine ⟨_, rfl, ?_⟩
    split
    next hw => exact h.onExpiry _ fun t u _ hl _ hu => hu.heartbeatExpired hseq (hl ▸ hw) t
    next => exact h
  | waitLimitExpiry =>
    refine ⟨_, rfl, h.onExpiryIn _ fun hhere u _ _ hp hu => hu.waitExpired ?_⟩
    rw [hp]
    exact of_decide_eq_true hhere
  | startTimerExpiry =>
    refine ⟨_, rfl, h.onExpiryIn _ fun hhere u _ _ hp hu => hu.enterRecovering ?_⟩
    rw [hp, of_decide_eq_true hhere]
    nofun
  | silenceTimerExpiry =>
    refine ⟨_, rfl, h.onExpiryIn _ fun hhere u _ _ hp hu => hu.silenceExpired ?_⟩
    rw [hp]
    exact hhere
  | recoveryOffTimeExpiry =>
    refine ⟨_, rfl, h.onExpiryIn _ fun hhere u _ _ hp hu => hu.enterStarting ?_⟩
    rw [hp, of_decide_eq_true hhere]
    nofun
  | idleTimerExpiry =>
    refine ⟨_, rfl, h.onExpiryIn _ fun hhere u _ _ hp hu => (hu.dim ?_).displayRelease⟩
    rw [hp]
    exact of_decide_eq_true hhere
  | stepTimerExpiry n => exact ⟨_, rfl, h.onExpiry _ fun t _ _ _ _ hu => hu.onMatcher rfl rfl⟩
  | receiveCharacter port data mark stop => exact ⟨_, rfl, h.character hseq port data mark stop⟩
  | reservedFrame port cls payload =>
    refine ⟨_, rfl, ?_⟩
    cases port
    exacts [h.boardFrame fun _ hu => hu.reservedFromBoard hseq _, h.displayFrame fun _ hu => hu.reservedFromDisplay _]
  | loadableSystemFrame _ _ => exact ⟨_, rfl, h.boardFrame fun _ hu => hu.loadableFromBoard hseq _⟩
  | loadableDisplayFrame _ _ => exact ⟨_, rfl, h.displayFrame fun _ hu => hu.loadableFromDisplay _⟩
  | displayManagementFrame _ => exact ⟨_, rfl, h.displayFrame fun _ hu => hu.reservedFromDisplay _⟩
  | unknownCommand payload => exact ⟨_, rfl, h.boardFrame fun _ hu => (hu.passed 0).manage hseq payload⟩
  | setEntryParameter _ _ =>
    exact ⟨_, rfl, h.requestFrame (fun _ hu => hu.unlessCommitting (hu.setParameter hseq _)) _ _⟩
  | setEntryZone _ _ | setEntryClass _ _ | setEntryKeymap _ _ | setEntrySequence _ _ | setEntryChannel _ _
  | setEntryInject _ _ | commitProfile _ _ | resetSupervisor _ _ =>
    exact ⟨_, rfl, h.requestFrame (fun _ hu => hu.unlessCommitting (by simp [hu])) _ _⟩
  | requestPowerOff _ _ => exact ⟨_, rfl, h.requestFrame (fun _ hu => hu.powerOff hseq _) _ _⟩
  | requestPowerRestart _ _ => exact ⟨_, rfl, h.requestFrame (fun _ hu => hu.powerRestart hseq _) _ _⟩
  | requestPowerCycle _ _ => exact ⟨_, rfl, h.requestFrame (fun _ hu => hu.powerCycle hseq _) _ _⟩
  | getStatus _ _ | getZones _ _ | getSamples _ _ | getEntry _ _ | getCounters _ _ | clearCounters _ _ | getLog _ _
  | requestDisplayDim _ _ | requestDisplayWake _ _ | requestDisplayRestart _ _ | forceSampleSet _ _ _
  | forceSampleRelease _ _ _ =>
    exact ⟨_, rfl, h.requestFrame (fun _ hu => by simp [hu]) _ _⟩

end Sys2Proof.Machine
end


section
/-! PROOF. A step as the work of a command, an input's new level, or a cold reset. -/

namespace Sys2Proof.Machine

/-! ## Cold reset -/

/-- Every block that the sequencer reports to, and the sequencer, is at its values of cold reset (R53, R56). -/
structure State.Cold (u : State) : Prop where
  heat : ∃ t, u.heat = Heat.cold t
  thermal : u.thermal = Thermal.cold
  power : ∃ reset pg level, u.power = PowerSeq.cold reset pg level
  live : u.live = Liveness.cold
  keypad : u.keypad = Keypad.cold
  matcher : u.matcher = Matcher.cold
  sys : ∃ rate ready, u.sys = SysPort.cold rate ready
  path : u.path = DisplayPath.cold
  mgmt : u.mgmt.kept = .off ∧ u.mgmt.queue = []

theorem State.holdInReset_cold (cause : ColdCause) (s : State) : (s.holdInReset cause).Cold :=
  ⟨⟨_, rfl⟩, rfl, ⟨_, _, _, rfl⟩, rfl, rfl, rfl, ⟨_, _, rfl⟩, rfl, rfl, rfl⟩

theorem State.reset_cold : State.reset.Cold :=
  ⟨⟨_, rfl⟩, rfl, ⟨_, _, _, rfl⟩, rfl, rfl, rfl, ⟨_, _, rfl⟩, rfl, rfl, rfl⟩

theorem State.loadProfile_cold (s : State) : s.loadProfile.Cold := by
  unfold State.loadProfile State.reportIf
  dsimp only
  split <;> exact ⟨⟨_, rfl⟩, rfl, ⟨_, _, _, rfl⟩, rfl, rfl, rfl, ⟨_, _, rfl⟩, rfl, rfl, rfl⟩

theorem State.Cold.outputsRight {u : State} (h : u.Cold) : u.power.OutputsRight := by
  obtain ⟨_, _, _, hp⟩ := h.power
  rw [hp, PowerSeq.outputsRight_iff]
  exact ⟨rfl, rfl⟩

theorem State.Cold.reserveRight {u : State} (h : u.Cold) : u.ReserveRight := by
  refine ⟨h.outputsRight, ?_⟩
  obtain ⟨_, hheat⟩ := h.heat
  obtain ⟨_, _, _, hp⟩ := h.power
  rw [hheat, hp]
  exact ⟨by simp [Heat.cold, PowerSeq.cold], fun _ => rfl⟩

theorem State.Cold.linkRight {u : State} (h : u.Cold) : u.LinkRight := by
  obtain ⟨_, _, hsys⟩ := h.sys
  obtain ⟨_, _, _, hp⟩ := h.power
  unfold State.LinkRight
  rw [hsys, hp]
  simp [SysPort.cold, PowerSeq.cold]

theorem State.Cold.pathRight {u : State} (h : u.Cold) : u.PathRight := by
  obtain ⟨_, _, _, hp⟩ := h.power
  unfold State.PathRight
  rw [h.path, hp]
  simp [DisplayPath.cold, PowerSeq.cold]

theorem State.Cold.keptRight {u : State} (h : u.Cold) : u.KeptRight := by
  obtain ⟨_, hheat⟩ := h.heat
  obtain ⟨_, _, _, hp⟩ := h.power
  unfold State.KeptRight
  rw [hheat, h.thermal, h.keypad, h.matcher, h.mgmt.1, hp]
  exact ⟨rfl, rfl, rfl, rfl, rfl⟩

theorem State.Cold.stageRight {u : State} (h : u.Cold) : u.StageRight := by
  obtain ⟨_, _, _, hp⟩ := h.power
  unfold State.StageRight
  rw [h.live, hp]
  exact .inl rfl

theorem State.Cold.listsBounded {u : State} (h : u.Cold) : u.ListsBounded := by
  obtain ⟨_, _, _, hp⟩ := h.power
  unfold State.ListsBounded
  rw [hp]
  exact ⟨Nat.zero_le _, Nat.zero_le _⟩

theorem State.Cold.roomKept {u : State} (h : u.Cold) : u.keypad.RoomKept := by
  unfold Keypad.RoomKept
  rw [h.keypad]
  exact Nat.zero_le _

theorem State.Cold.queueRight {u : State} (h : u.Cold) : u.mgmt.QueueRight := by
  obtain ⟨-, hq⟩ := h.mgmt
  unfold Mgmt.QueueRight
  rw [hq]
  exact ⟨List.nodup_nil, fun _ => rfl⟩

theorem State.Cold.displayQueueRight {u : State} (h : u.Cold) : u.DisplayQueueRight := by
  have hnil : u.path.queue = [] := by rw [h.path]; rfl
  unfold State.DisplayQueueRight
  rw [hnil]
  exact FramesRight.nil _

/-- Cold reset ends in OFF or in PREHEAT, by the mains-return policy (R56). -/
theorem State.leaveReset_moves (s : State) : State.Moves [.sequencer] s.loadProfile s.leaveReset := by
  have h := State.Moves.refl (by_ := [.sequencer]) s.loadProfile
  obtain ⟨_, _, _, hp⟩ := s.loadProfile_cold.power
  have hst : s.loadProfile.power.state = .off := by rw [hp]; rfl
  have hreturned : State.Moves [.sequencer] s.loadProfile s.loadProfile.mainsReturn := by
    unfold State.mainsReturn
    split <;> exact h.transition (List.mem_singleton_self _) _ (.of_off rfl (by nofun) _)
      (PowerSeq.leaves_of_state hst (by decide))
  exact hreturned.onMeas _

/-! ## A step -/

/-- How a step goes: a command's work and the end of the step; a change that no block takes part in, which the rest of
the step does not follow (time passing, an input's level, a held part); a cold reset; its release. -/
inductive Stepped (s : State) : State → Prop where
  | work {c : Instr} {rest : List Instr} {u : State} (held : s.held = false) (pending : s.pending = c :: rest)
      (works : DoesWork c) (exec_eq : exec c { s with pending := rest } = .next u.finish)
      (moves : State.Moves (.queue :: changesOf c) s u) : Stepped s u.finish
  | level {t : State} (moves : State.Moves [.queue] s t) (mgmt : t.mgmt = s.mgmt) : Stepped s t
  | reset {cause : ColdCause} {rest : List Instr} {t : State} (pending : s.pending = .coldReset cause :: rest)
      (cold : t.Cold) (atRest : t.AtRest) : Stepped s t
  | release {u v : State} (held : s.held = true) (cold : u.Cold) (moves : State.Moves [.sequencer] u v) :
      Stepped s v.finish

theorem stepped {s t : State} (h : step s = .next t) : Stepped s t := by
  have htaken (rest : List Instr) {by_ : List Change} : State.Moves (.queue :: by_) s { s with pending := rest } :=
    (State.Moves.refl s).move (List.mem_cons_self ..) (.queue s rest)
  unfold step at h
  split at h
  next hnone =>
    cases h
    refine .level ?_ (by unfold State.tick; split <;> rfl)
    unfold State.tick
    split
    · exact .refl s
    · exact (State.Moves.refl s).own (.frame s (s.clockMs + 1) _ _ _ _ _ _)
  next c rest hpending =>
    have level (l : Bool) : State.Moves [.queue] s
        (State.onPower (fun p => { p with pgLevel := l }) { s with pending := rest }) :=
      (htaken rest).own (.power _ s.power.timer s.power.pgSeen l)
    have ready (l : Bool) : State.Moves [.queue] s
        (State.onSys (fun p => { p with hostReady := l }) { s with pending := rest }) :=
      (htaken rest).onSys (.of_same rfl rfl rfl rfl)
    cases hheld : s.held with
    | true =>
      cases c with
      | coldReset cause =>
        cases h
        exact .reset hpending (State.holdInReset_cold _ _) ⟨rfl, rfl, rfl, rfl, rfl⟩
      | coldResetRelease =>
        have ht : t = ({ s with pending := rest } : State).leaveReset.finish := by
          cases h
          exact if_pos hheld
        rw [ht]
        exact .release hheld (State.loadProfile_cold _) (State.leaveReset_moves _)
      | powerGoodChange l =>
        have ht : t = State.onPower (fun p => { p with pgLevel := l }) { s with pending := rest } := by
          cases h
          exact if_pos hheld
        rw [ht]
        exact .level (level l) rfl
      | hostReadyChange l =>
        cases h
        exact .level (ready l) rfl
      | _ =>
        have ht : t = { s with pending := rest } := by
          cases h
          exact State.perform_of_held _ hheld
        rw [ht]
        exact .level (htaken rest) rfl
    | false =>
      have work (hworks : DoesWork c) : Stepped s t := by
        obtain ⟨u, hexec, hmoves⟩ := exec_work hworks (s := { s with pending := rest }) hheld
        cases h.symm.trans hexec
        exact .work hheld hpending hworks hexec ((htaken rest).trans (hmoves.mono fun _ => List.mem_cons_of_mem _))
      cases c with
      | coldReset cause =>
        cases h
        exact .reset hpending (State.holdInReset_cold _ _) ⟨rfl, rfl, rfl, rfl, rfl⟩
      | coldResetRelease =>
        have ht : t = { s with pending := rest } := by
          cases h
          exact if_neg (by simp [hheld])
        rw [ht]
        exact .level (htaken rest) rfl
      | hostReadyChange l =>
        cases h
        exact .level (ready l) rfl
      | _ => exact work ⟨nofun, nofun, nofun⟩

end Sys2Proof.Machine
end


section
/-! PROOF. The invariants of the Power Sequencer and its neighbours over a step. -/

namespace Sys2Proof.Machine

/-- The end of a step is a run of changes of the sequencer's kind (R66, R127, R179). -/
theorem State.finish_moves (u : State) : State.Moves [.sequencer] u u.finish :=
  (State.Moves.refl u).finish (List.mem_singleton_self _)

/-- What every run of changes keeps and cold reset establishes, a step keeps. -/
theorem Stepped.keeps {P : State → Prop} {s t : State} (h : Stepped s t)
    (hmoves : ∀ {by_ : List Change} {a b : State}, State.Moves by_ a b → P a → P b)
    (hcold : ∀ {u : State}, u.Cold → P u) (hs : P s) : P t := by
  cases h with
  | work _ _ _ _ moves => exact hmoves (State.finish_moves _) (hmoves moves hs)
  | level moves _ => exact hmoves moves hs
  | reset _ cold _ => exact hcold cold
  | release _ cold moves => exact hmoves (State.finish_moves _) (hmoves moves (hcold cold))

/-- What a command that performs some work ends in is the end of that work's step. -/
theorem finish_of_exec {c : Instr} {s u : State} {work : State → State} (h : exec c s = .next u.finish)
    (hc : exec c s = .next (s.perform work)) (hheld : s.held = false) : u.finish = (work s).finish := by
  rw [State.perform_of_running _ hheld] at hc
  exact Host.Outcome.next.inj (h.symm.trans hc)

/-! ## Heat-dim (R47, R164) -/

/-- The display path's copy of heat-dim is the monitor's. -/
def State.DimAgrees (s : State) : Prop := s.path.heatDim = s.thermal.heatDim

theorem State.Moves.dimAgrees {by_ : List Change} {s t : State} (h : State.Moves by_ s t) (hdim : Change.dim ∉ by_)
    (hs : s.DimAgrees) : t.DimAgrees := by
  obtain ⟨hpath, hthermal⟩ := h.heatDim_eq hdim
  exact hpath.trans (hs.trans hthermal.symm)

/-- "Zones evaluated" leaves the path's copy as the monitor judged it (R47). -/
theorem State.zonesEvaluated_dimAgrees {s : State} (hs : s.DimAgrees) (z : PerZone ZoneReport) :
    (s.zonesEvaluated z).DimAgrees := by
  have hmarks := s.zonesEvaluated_cycleMarks z
  have hpath : (s.zonesEvaluated z).path.heatDim = _ := congrArg CycleMarks.pathDim hmarks
  have hthermal : (s.zonesEvaluated z).thermal.heatDim = _ := congrArg (fun m => m.dim.1) hmarks
  rw [State.DimAgrees, hpath, hthermal]
  simp only [CycleMarks.afterZones]
  split
  next hsame => rw [hsame]; exact hs
  next => rfl

theorem State.conversionDone_dimAgrees {s : State} (hs : s.DimAgrees) (code : BitVec 12) :
    (s.conversionDone code).DimAgrees := by
  cases hn : s.meas.next with
  | none => rwa [State.conversionDone, hn]
  | some ch =>
    rw [State.conversionDone_of_next hn]
    split
    · simpa [State.DimAgrees] using hs
    · refine State.zonesEvaluated_dimAgrees ?_ _
      simpa [State.DimAgrees] using hs

/-- The commands other than a conversion's completion do not judge heat-dim. -/
theorem dim_notMem_changesOf {c : Instr} (h : ∀ code, c ≠ .conversionComplete code) : Change.dim ∉ .queue :: changesOf c := by
  cases c
  case conversionComplete code => exact absurd rfl (h code)
  all_goals simp [changesOf]

theorem Stepped.dimAgrees {s t : State} (h : Stepped s t) (hs : s.DimAgrees) : t.DimAgrees := by
  cases h with
  | @work c rest u held pending works exec_eq moves =>
    have hfinish (v : State) : v.DimAgrees → v.finish.DimAgrees := v.finish_moves.dimAgrees (by simp)
    by_cases hc : ∃ code, c = .conversionComplete code
    · obtain ⟨code, rfl⟩ := hc
      rw [finish_of_exec exec_eq rfl held]
      exact hfinish _ (State.conversionDone_dimAgrees (s := { s with pending := rest }) hs code)
    · exact hfinish _ (moves.dimAgrees (dim_notMem_changesOf (not_exists.mp hc)) hs)
  | level moves _ => exact moves.dimAgrees (by simp) hs
  | reset _ cold _ => rw [State.DimAgrees, cold.path, cold.thermal]; rfl
  | release _ cold moves =>
    refine (State.finish_moves _).dimAgrees (by simp) (moves.dimAgrees (by simp) ?_)
    rw [State.DimAgrees, cold.path, cold.thermal]; rfl

/-! ## The kept power states and the marks of a step (R55, R77; log 8) -/

/-- The step's marks are clear after its end. -/
theorem State.finish_marks (u : State) : u.finish.mgmt.replyEnded = false ∧ u.finish.mgmt.justReported = 0 :=
  ⟨rfl, rfl⟩

theorem State.Cold.keptSoon {u : State} (h : u.Cold) : u.KeptSoon := by
  obtain ⟨hheat, hthermal, hkeypad, hmatcher, hmgmt⟩ := h.keptRight
  have hk : u.keypad.deferred = [] := by rw [h.keypad]; rfl
  have hm : u.matcher.deferred = [] := by rw [h.matcher]; rfl
  exact ⟨hheat, hthermal, hmgmt, by rw [hk]; exact hkeypad, by rw [hm]; exact hmatcher, fun _ => ⟨hk, hm⟩⟩

/-- Only a scan leaves the scanner's mark to its own end (R96). -/
theorem scan_notMem_changesOf {c : Instr} (h : ∀ reading, c ≠ .scan reading) : Change.scan ∉ .queue :: changesOf c := by
  cases c
  case scan reading => exact absurd rfl (h reading)
  all_goals simp [changesOf]

theorem Stepped.scanning {s t : State} (h : Stepped s t) (hs : s.keypad.scanning = false) :
    t.keypad.scanning = false := by
  have hfinish (u : State) : u.finish.keypad.scanning = u.keypad.scanning := u.finish_moves.scanning_eq (by simp)
  cases h with
  | @work c rest u held pending works exec_eq moves =>
    by_cases hc : ∃ reading, c = .scan reading
    · obtain ⟨reading, rfl⟩ := hc
      rw [finish_of_exec exec_eq rfl held, hfinish]
      exact (Keypad.endScan_kept _).2.1
    · rw [hfinish, moves.scanning_eq (scan_notMem_changesOf (not_exists.mp hc)), hs]
  | level moves _ => rw [moves.scanning_eq (by simp), hs]
  | reset _ _ atRest => exact atRest.2.2.1
  | release _ cold moves =>
    rw [hfinish, moves.scanning_eq (by simp), cold.keypad]
    rfl

theorem Stepped.marks {s t : State} (h : Stepped s t) (hs : s.mgmt.replyEnded = false ∧ s.mgmt.justReported = 0) :
    t.mgmt.replyEnded = false ∧ t.mgmt.justReported = 0 := by
  cases h with
  | work | release => exact State.finish_marks _
  | level _ mgmt => rwa [mgmt]
  | reset _ _ atRest => exact ⟨atRest.1, atRest.2.1⟩

end Sys2Proof.Machine

namespace Sys2Proof.Proofs

open Sys2Proof.Machine

/-- Settles O53: reports are taken within the step, or wait for the scan's end at the scanner and the matcher. -/
theorem stepsKeepTheBlocksTogether : Obligations.StepsKeepTheBlocksTogether := by
  intro s t hrest hkept hstage hstep
  have h := stepped hstep
  have hsoon : t.KeptSoon := h.keeps State.steady_keptSoon.keeps State.Cold.keptSoon (hkept.soon hrest)
  obtain ⟨hended, hjust, hscan, -⟩ := hrest
  have hscan : t.keypad.scanning = false := h.scanning hscan
  obtain ⟨hended, hjust⟩ := h.marks ⟨hended, hjust⟩
  obtain ⟨hkeypad, hmatcher⟩ := hsoon.waits hscan
  exact ⟨⟨hended, hjust, hscan, hkeypad, hmatcher⟩, hsoon.right hscan,
    h.keeps State.steady_stageRight.keeps State.Cold.stageRight hstage⟩

/-- Settles O54: the invariants of each block, and heat-dim as "zones evaluated" leaves its two copies. -/
theorem stepsKeepTheOutputsAndLinksRight : Obligations.StepsKeepTheOutputsAndLinksRight := by
  intro s t hstep
  have h := stepped hstep
  exact ⟨h.keeps State.steady_outputsRight.keeps State.Cold.outputsRight,
    h.keeps State.Moves.reserveRight State.Cold.reserveRight,
    h.keeps State.steady_linkRight.keeps State.Cold.linkRight,
    h.keeps State.steady_pathRight.keeps State.Cold.pathRight, h.dimAgrees⟩

/-- Settles O55: the bounds of each queue, kept by every change. -/
theorem stepsKeepTheQueuesBounded : Obligations.StepsKeepTheQueuesBounded := by
  intro s t hstep
  have h := stepped hstep
  exact ⟨h.keeps State.steady_listsBounded.keeps State.Cold.listsBounded,
    h.keeps State.steady_roomKept.keeps State.Cold.roomKept,
    h.keeps State.steady_queueRight.keeps State.Cold.queueRight,
    h.keeps State.steady_displayQueueRight.keeps State.Cold.displayQueueRight⟩

end Sys2Proof.Proofs
end


section
/-! PROOF. How HOT_OFF and SERVICE_HOLD are left (R70, R72, R73). -/

namespace Sys2Proof.Machine

/-- The end of a step leaves the sequencer, but for a trimmed restart window list (R66, R76). -/
theorem State.finish_power (u : State) : ∃ l, u.finish.power = { u.power with restartList := l } ∧
    (u.power.restartList = [] → l = []) := by
  have hsame : ∃ l, u.power = { u.power with restartList := l } ∧ (u.power.restartList = [] → l = []) :=
    ⟨_, rfl, id⟩
  have hended : ∃ l, u.replyEndTaken.power = { u.power with restartList := l } ∧
      (u.power.restartList = [] → l = []) := by
    unfold State.replyEndTaken
    split
    · obtain ⟨c, m, -, heq⟩ := (u.applyRateChange.onMgmt (fun m => { m with pendingSoft := false })).softReset_eq
      rw [heq]
      simp only [State.onPath_power, State.onSwitch_power, State.applyRate_keeps, State.onDisp_power,
        State.onSys_power, State.onMatcher_power, State.onKeypad_power, State.livenessSoftReset_keeps,
        State.onHeat_power, State.onMeas_power]
      refine ⟨_, by simp [State.retabled]; rfl, fun hnil => ?_⟩
      simp [trimList, hnil]
    · simpa using hsame
  unfold State.finish
  dsimp only
  split
  exacts [hended, hsame]

/-- In the state after a resume, with its record the newest (R72). -/
structure PowerSeq.Resumed (auto : Bool) (p : PowerSeq) : Prop where
  state : p.state = if auto then .preheat else .off
  record : p.log.head?.map LogRecord.cause = some .thermalResume

theorem State.thermalResume_resumed {u : State} (h : u.power.state = .hotOff) :
    u.thermalResume.power.Resumed u.params.autoResume := by
  rw [State.thermalResume_eq h, State.transition_power_eq]
  refine ⟨?_, rfl⟩
  cases hauto : u.params.autoResume <;> rfl

/-- What the monitor sends in HOT_OFF: a resume, or nothing to the sequencer (R45, R46, R72). -/
theorem State.sendRequests_hotOff {before after : Thermal} {u : State} (h : u.power.state = .hotOff) :
    (u.sendRequests before after).power = u.power ∨
      (u.sendRequests before after).power.Resumed u.params.autoResume := by
  have hnone : u.sendShutdown after = u := by
    rw [State.sendShutdown, State.thermalShutdown_ignored (.inr (.inl h)), ite_self]
  rw [State.sendRequests, hnone, State.sendResume]
  split
  · exact .inr (State.thermalResume_resumed h)
  · exact .inl rfl

theorem State.sendRequestsAndDim_hotOff {before after : Thermal} {u : State} (h : u.power.state = .hotOff) :
    (u.sendRequestsAndDim before after).power = u.power ∨
      (u.sendRequestsAndDim before after).power.Resumed u.params.autoResume := by
  obtain ⟨c, hc | hc⟩ := u.sendRequestsAndDim_cases before after <;> rw [hc]
  · simpa using State.sendRequests_hotOff (before := before) (after := after) h
  · simpa [State.params] using State.sendRequests_hotOff (u := u.sendHeatDim before after) (before := before)
      (after := after) (by simpa using h)

theorem State.thermalZones_hotOff {u : State} (h : u.power.state = .hotOff) (z : PerZone ZoneReport) :
    (u.thermalZones z).power = u.power ∨ (u.thermalZones z).power.Resumed u.params.autoResume := by
  have hsent := State.sendRequestsAndDim_hotOff (before := u.thermal)
    (after := u.thermal.judge u.params z.board z.display)
    (u := (u.onThermal (fun _ => u.thermal.judge u.params z.board z.display)).sendWarn u.thermal
      (u.thermal.judge u.params z.board z.display) z.board) (by simpa using h)
  simpa [State.thermalZones, State.params] using hsent

/-- A conversion's completion in HOT_OFF resumes at a complete cycle, or leaves the sequencer (R14, R72). -/
theorem State.conversionDone_hotOff {s : State} (h : s.power.state = .hotOff) (code : BitVec 12) :
    (s.conversionDone code).power = s.power ∨ (s.conversionDone code).power.Resumed s.params.autoResume := by
  cases hn : s.meas.next with
  | none => simp [State.conversionDone, hn]
  | some ch =>
    rw [State.conversionDone_of_next hn]
    split
    · simp
    · have hcycle : ((s.convert ch code).onMeas (Meas.advance ch)).cycleComplete =
          (s.evaluated ch code).zonesEvaluated (s.evaluated ch code).zoneReports := rfl
      obtain ⟨-, -, htables, hpower, -⟩ := s.evaluated_keeps ch code
      rw [hcycle]
      generalize s.evaluated ch code = v at htables hpower
      have hst : v.power.state = .hotOff := by rw [hpower, h]
      have hstays : v.leavesPreheat v.zoneReports = false := by simp [State.leavesPreheat, hst]
      rw [State.zonesEvaluated_of_stays hstays, ← hpower, State.params, ← htables]
      simpa [State.params] using State.thermalZones_hotOff (u := v.pathZones v.zoneReports) (by simpa using hst)
        v.zoneReports

theorem resume_notMem_changesOf {c : Instr} (h : ∀ code, c ≠ .conversionComplete code) :
    Change.resume ∉ .queue :: changesOf c := by
  cases c
  case conversionComplete code => exact absurd rfl (h code)
  all_goals simp [changesOf]

theorem Stepped.leavesHotOff {s t : State} (h : Stepped s t) (hheld : s.held = false)
    (hno : ∀ cause rest, s.pending ≠ .coldReset cause :: rest) (hs : s.power.state = .hotOff) :
    t.power.state = .hotOff ∨
      ((∃ code rest, s.pending = .conversionComplete code :: rest) ∧ t.power.Resumed s.params.autoResume) := by
  cases h with
  | @work c rest u held pending works exec_eq moves =>
    by_cases hc : ∃ code, c = .conversionComplete code
    · obtain ⟨code, rfl⟩ := hc
      rw [finish_of_exec exec_eq rfl held]
      obtain ⟨l, hl, -⟩ := (State.conversionDone code { s with pending := rest }).finish_power
      rw [hl]
      obtain hsame | ⟨hstate, hrecord⟩ := State.conversionDone_hotOff (s := { s with pending := rest }) hs code
      · exact .inl ((congrArg PowerSeq.state hsame).trans hs)
      · exact .inr ⟨⟨_, _, pending⟩, hstate, hrecord⟩
    · exact .inl (u.finish_moves.hotOff_stays (by simp)
        (moves.hotOff_stays (resume_notMem_changesOf (not_exists.mp hc)) hs))
  | level moves _ => exact .inl (moves.hotOff_stays (by simp) hs)
  | reset pending _ _ => exact absurd pending (hno _ _)
  | release held _ _ => cases held.symm.trans hheld

/-- The commands that bring a press or the end of a hold: a scan and a hold timer's expiry. -/
def BringsPanelAction (c : Instr) : Prop := (∃ reading, c = .scan reading) ∨ ∃ n, c = .holdTimerExpiry n

theorem panel_notMem_changesOf {c : Instr} (h : ¬BringsPanelAction c) : Change.panel ∉ .queue :: changesOf c := by
  cases c
  case scan reading => exact absurd (.inl ⟨_, rfl⟩) h
  case holdTimerExpiry n => exact absurd (.inr ⟨_, rfl⟩) h
  all_goals simp [changesOf]

theorem Stepped.leavesServiceHold {s t : State} (h : Stepped s t) (hheld : s.held = false)
    (hno : ∀ cause rest, s.pending ≠ .coldReset cause :: rest) (hs : s.power.state = .serviceHold) :
    t.power.state = .serviceHold ∨
      ((∃ c rest, s.pending = c :: rest ∧ BringsPanelAction c) ∧ t.power.ServiceReleased) := by
  cases h with
  | @work c rest u held pending works exec_eq moves =>
    by_cases hc : BringsPanelAction c
    · have hby : Change.sequencer ∉ .queue :: changesOf c ∧ Change.resume ∉ .queue :: changesOf c := by
        obtain ⟨_, rfl⟩ | ⟨_, rfl⟩ := hc <;> simp [changesOf]
      obtain ⟨l, hl, hnil⟩ := u.finish_power
      rw [hl]
      obtain hstays | ⟨hstate, hlist, hrecord⟩ := moves.serviceHold_released hby hs
      · exact .inl hstays
      · exact .inr ⟨⟨c, rest, pending, hc⟩, hstate, hnil hlist, hrecord⟩
    · exact .inl (u.finish_moves.serviceHold_stays (by simp)
        (moves.serviceHold_stays (panel_notMem_changesOf hc) hs))
  | level moves _ => exact .inl (moves.serviceHold_stays (by simp) hs)
  | reset pending _ _ => exact absurd pending (hno _ _)
  | release held _ _ => cases held.symm.trans hheld

end Sys2Proof.Machine

namespace Sys2Proof.Proofs

open Sys2Proof.Machine

/-- Settles O59: of the changes only a resume leaves HOT_OFF and only a panel action leaves SERVICE_HOLD. -/
theorem hotOffAndServiceHoldAreLeftOnlyAsStated : Obligations.HotOffAndServiceHoldAreLeftOnlyAsStated := by
  intro s t hheld hstep hno
  have h := stepped hstep
  refine ⟨fun hs => ?_, fun hs => ?_⟩
  · exact (h.leavesHotOff hheld hno hs).imp_right fun ⟨hcode, hstate, hrecord⟩ => ⟨hcode, hstate, hrecord⟩
  · obtain hstays | ⟨⟨c, rest, hpending, hc⟩, hstate, hlist, hrecord⟩ := h.leavesServiceHold hheld hno hs
    · exact .inl hstays
    · refine .inr ⟨?_, hstate, hlist, hrecord⟩
      obtain ⟨reading, rfl⟩ | ⟨n, rfl⟩ := hc
      exacts [.inl ⟨_, _, hpending⟩, .inr ⟨_, _, hpending⟩]

end Sys2Proof.Proofs
end


section
/-! PROOF. The state after reset, and the part held in cold reset (R53, R56). -/

namespace Sys2Proof.Machine

theorem State.reset_setsRight : State.reset.keypad.SetsRight := ⟨nofun, nofun, nofun⟩

theorem State.reset_slotsRight : State.reset.SlotsRight := fun n _ => by
  simp [State.reset, Matcher.cold]

theorem State.reset_params_ordered : State.reset.params.Ordered := Params.default_ordered

theorem State.reset_priorities : PrioritiesPermuted State.reset.tables.zones := Tables.default_inOrder.priorities

theorem State.reset_heat_right : State.reset.heat.Right :=
  (Heat.right_iff_sound _).mpr (Heat.cold_sound Tables.default)

/-- Every zone at cold reset is blind, without values, soak or grant (R38). -/
theorem Heat.cold_zone_eq (t : Tables) (z : ZoneId) : (Heat.cold t).zones.get z =
    { (Heat.cold t).zones.get z with
      blind := true, cold := none, hot := none, soak := 0, request := 0, grant := 0, active := 0, output := false } := by
  cases z <;> rfl

/-- A held part is its state after reset, but for what a cold reset leaves: the store, the queue, the input levels and
the polarities (R53, R54; logs 2 and 4). -/
theorem State.holdInReset_eq (cause : ColdCause) (s : State) : s.holdInReset cause =
    { State.reset with
      choices := s.choices, store := (s.holdInReset cause).store, pending := s.pending
      power := { State.reset.power with
        pgLevel := s.power.pgLevel, resetPolarity := (s.holdInReset cause).power.resetPolarity
        pgPolarity := (s.holdInReset cause).power.pgPolarity }
      sys := { State.reset.sys with hostReady := s.sys.hostReady } } := rfl

/-- A stopped commit leaves an image that no load accepts (R178). -/
theorem State.holdInReset_store (cause : ColdCause) (s : State) : (s.holdInReset cause).store =
    if s.mgmt.commit = .inProgress then { s.store with crcOk := false } else s.store := rfl

theorem StoreImage.not_accepted_of_crc {i : StoreImage} (h : i.crcOk = false) : i.accepted = false := by
  simp [StoreImage.accepted, h]

/-- While the part is held a command's work is not done (log 2). -/
theorem exec_of_doesWork_held {c : Instr} (hc : DoesWork c) (hgood : ∀ l, c ≠ .powerGoodChange l) {s : State}
    (h : s.held = true) : exec c s = .next s := by
  obtain ⟨hreset, hrelease, hready⟩ := hc
  cases c with
  | coldReset cause => exact absurd rfl (hreset cause)
  | coldResetRelease => exact absurd rfl hrelease
  | powerGoodChange l => exact absurd rfl (hgood l)
  | hostReadyChange l => exact absurd rfl (hready l)
  | _ => exact congrArg Host.Outcome.next (State.perform_of_held _ h)

end Sys2Proof.Machine

namespace Sys2Proof.Proofs

open Sys2Proof.Machine

/-- Settles O60: the invariants are those of cold reset, and the values are read off the definitions. -/
theorem resetMeetsEveryInvariant : Obligations.ResetMeetsEveryInvariant := by
  have hcold := State.reset_cold
  refine ⟨⟨rfl, ⟨rfl, rfl, rfl, rfl, rfl⟩, hcold.keptRight, hcold.stageRight, hcold.reserveRight,
    State.reset_setsRight, State.reset_slotsRight, hcold.listsBounded, hcold.roomKept, hcold.queueRight,
    hcold.displayQueueRight, hcold.linkRight, hcold.pathRight, State.reset_params_ordered, State.reset_priorities,
    State.reset_heat_right, rfl, rfl⟩, rfl, fun ch => ?_, fun ch => ?_, rfl, Heat.cold_zone_eq _, rfl, rfl, rfl, rfl,
    fun k => ?_, rfl, fun n => ?_, rfl, ⟨rfl, rfl⟩, fun c => ?_, rfl, rfl⟩
  · simp [State.reset, Meas.cold, Sample.blank]
  · simp [State.reset, Meas.cold]
  · simp [State.reset, Keypad.cold]
  · simp [State.reset, Matcher.cold, SlotProgress.clear]
  · simp [State.reset, Switch.cold]

/-- Settles O3: what a cold reset leaves stands in `holdInReset_eq`; a held part does no command's work. -/
theorem coldResetHoldsThePart : Obligations.ColdResetHoldsThePart := by
  refine ⟨fun cause s => ⟨s.holdInReset cause, rfl, ?_⟩, fun c s hheld hreset hrelease hgood hready => ?_⟩
  · have hzone (z : ZoneId) : ((s.holdInReset cause).heat.zones.get z).output = false ∧
        ((s.holdInReset cause).heat.zones.get z).grant = 0 ∧
        ((s.holdInReset cause).heat.zones.get z).blind = true := by
      cases z <;> exact ⟨rfl, rfl, rfl⟩
    refine ⟨rfl, rfl, rfl, rfl, rfl, hzone, ?_, ?_, rfl, rfl, rfl, rfl, rfl, rfl, rfl, fun hc => ?_, fun hc => ?_,
      s.holdInReset_eq cause, rfl, rfl, rfl⟩
    · rintro rfl; rfl
    · rintro rfl; rfl
    · rw [State.holdInReset_store, if_pos hc]
      exact StoreImage.not_accepted_of_crc rfl
    · rw [State.holdInReset_store, if_neg hc]
  · exact exec_of_doesWork_held ⟨hreset, hrelease, hready⟩ hgood hheld

end Sys2Proof.Proofs
end


section
/-! PROOF. Every command answers and keeps the queue; a command whose event cannot arise does nothing (logs 2 and 8). -/

namespace Sys2Proof.Machine

/-- Every command answers a next state, with the queue as it was. -/
theorem exec_answers (c : Instr) (s : State) : ∃ t, exec c s = .next t ∧ t.pending = s.pending := by
  have work (hc : DoesWork c) (hgood : ∀ l, c ≠ .powerGoodChange l) :
      ∃ t, exec c s = .next t ∧ t.pending = s.pending := by
    cases hheld : s.held with
    | true => exact ⟨s, exec_of_doesWork_held hc hgood hheld, rfl⟩
    | false =>
      obtain ⟨u, hexec, hmoves⟩ := exec_work hc hheld
      have hqueue : Change.queue ∉ changesOf c := by cases c <;> simp [changesOf]
      exact ⟨_, hexec, by rw [u.finish_keeps.2.2.2.2.2]; exact hmoves.pending_eq hqueue⟩
  cases c with
  | coldReset cause => exact ⟨_, rfl, rfl⟩
  | coldResetRelease =>
    refine ⟨_, rfl, ?_⟩
    split
    · simp [State.leaveReset, State.loadProfile]
    · rfl
  | hostReadyChange l => exact ⟨_, rfl, rfl⟩
  | powerGoodChange l =>
    refine ⟨_, rfl, ?_⟩
    split
    · rfl
    · unfold State.perform
      split <;> simp
  | _ => exact work ⟨nofun, nofun, nofun⟩ nofun

/-- Work that leaves the state leaves the step without effect. -/
theorem State.Ready.idle {s : State} (hs : s.Ready) {work : State → State} (hw : work s = s) :
    (.next (s.perform work) : Answered) = .next s := by
  obtain ⟨hheld, hended, hjust, -⟩ := hs
  rw [State.perform_of_running _ hheld, hw, State.finish_at_rest hended hjust]

theorem State.onExpiry_none {timer : Option Timer} (h : timer = none) (work : Timer → State → State) (s : State) :
    s.onExpiry timer work = s := by subst h; rfl

theorem State.onExpiryIn_not {here : Bool} {timer : Option Timer} (h : here = false ∨ timer = none)
    (work : State → State) (s : State) : s.onExpiryIn here timer work = s := by
  unfold State.onExpiryIn
  obtain rfl | h := h
  · rfl
  · rw [State.onExpiry_none h, ite_self]

end Sys2Proof.Machine

namespace Sys2Proof.Proofs

open Sys2Proof.Machine

/-- Settles O2: no work answers anything else, and an expiry that cannot come is a test that fails. -/
theorem everyCommandAnswersAndKeepsTheQueue : Obligations.EveryCommandAnswersAndKeepsTheQueue := by
  refine ⟨exec_answers, fun s hs => ?_⟩
  have expiry {here : Bool} {timer : Option Timer} (work : State → State) (h : here = false ∨ timer = none) :
      (.next (s.perform (State.onExpiryIn here timer work)) : Answered) = .next s :=
    hs.idle (State.onExpiryIn_not h work s)
  have inState {P : Prop} [Decidable P] {timer : Option Timer} (work : State → State) (h : ¬P ∨ timer = none) :
      (.next (s.perform (State.onExpiryIn (decide P) timer work)) : Answered) = .next s :=
    expiry work (h.imp_left decide_eq_false)
  have inPhase {st : PowerState} {ph : Phase} (work : State → State)
      (h : ¬(s.power.state = st ∧ s.power.phase = some ph) ∨ s.power.timer = none) :
      (.next (s.perform (State.onExpiryIn (s.power.inPhase st ph) s.power.timer work)) : Answered) = .next s :=
    expiry work (h.imp_left fun hno => Bool.eq_false_iff.mpr fun hin => hno (PowerSeq.inPhase_iff.mp hin))
  refine ⟨?_, fun hn => ?_, fun hn code => ?_, inState _, inPhase _, inPhase _, inPhase _, inState _, inState _,
    fun h => ?_, fun h => ?_, inState _, inState _, inState _, inState _, fun h => ?_, inState _, fun n => ⟨fun h => ?_,
    fun h => ?_⟩, fun h => ?_, fun h => ?_, fun h h' => ?_, fun h => ?_, fun h => ?_⟩
  · exact congrArg Host.Outcome.next (if_neg (by simp [hs.1]))
  · obtain ⟨ch, hch⟩ := Option.ne_none_iff_exists'.mp hn
    exact hs.idle (by simp [State.cycleStart, hch])
  · exact hs.idle (by simp [State.conversionDone, hn])
  · refine expiry _ ?_
    simpa [← or_assoc, imp_iff_not_or] using h
  · refine hs.idle ?_
    split
    next hw => exact State.onExpiry_none (h.resolve_left (not_not_intro hw)) _ s
    next => rfl
  · refine expiry _ (h.imp_left fun ⟨hopen, hdim⟩ => ?_)
    cases hst : s.path.state <;> simp_all [PathState.flows]
  · exact hs.idle (State.onExpiry_none h _ s)
  · exact hs.idle (State.onExpiry_none h _ s)
  · exact hs.idle (by simp [Beeper.oneShotEnd, State.beeperEvent, h])
  · exact hs.idle (by simp [Beeper.periodStart, State.beeperEvent, h])
  · exact hs.idle (by simp [Beeper.segmentEnd, State.beeperEvent, h, h'])
  · exact hs.idle (by simp [State.systemSent, h])
  · exact hs.idle (by simp [State.displaySent, h])

end Sys2Proof.Proofs
end


section
/-! PROOF. What a power transition leaves outside the sequencer, its records and its reports (R55). -/

namespace Sys2Proof.Machine

/-- The state with the marks of the step cleared (log 8). -/
def State.unmarked (s : State) : State := { s with mgmt := { s.mgmt with replyEnded := false, justReported := 0 } }

theorem State.unmarked_of_atRest {s : State} (h : s.AtRest) : s.unmarked = s := by
  obtain ⟨hended, hjust, -⟩ := h
  simp only [State.unmarked, Mgmt.clear_marks hended hjust]

/-! ## The system port (R133) -/

/-- A report that changes no liveness leaves the port and the Management Unit. -/
theorem State.portReport_same {s : State} (h : (s.power.boardPower && !s.power.resetAsserted) = s.sys.isLive) :
    s.portReport = s := by
  simp [State.portReport, h]

theorem State.portReport_rest (s : State) : s.portReport.sys.errors = s.sys.errors ∧
    s.portReport.sys.hostReady = s.sys.hostReady ∧ ∃ r, s.portReport.mgmt = { s.mgmt with replyEnded := r } := by
  have hdrop (u : State) : u.dropReply.sys.errors = u.sys.errors ∧ u.dropReply.sys.hostReady = u.sys.hostReady ∧
      ∃ r, u.dropReply.mgmt = { u.mgmt with replyEnded := r } := by
    unfold State.dropReply
    split <;> exact ⟨rfl, rfl, _, rfl⟩
  simp only [State.portReport]
  split
  · exact ⟨rfl, rfl, _, rfl⟩
  · split
    · exact ⟨rfl, rfl, _, rfl⟩
    · exact hdrop (s.onSys fun p =>
        { p.cutTx with rx := .discard, lineLow := false, isLive := false, breakOn := false })

section
variable (t : Target) (cs : List (Cause × Option SlotField)) (s : State)

theorem State.transition_sys_same (h : (s.transition t cs).sys.isLive = s.sys.isLive) :
    (s.transition t cs).sys = s.sys := by
  rw [State.transition_isLive] at h
  rw [State.transition_power_eq] at h
  rw [State.transition_eq, State.reportPower, State.portReport_same]
  · simp
  · simpa using h

theorem State.transition_sys_rest :
    (s.transition t cs).sys.errors = s.sys.errors ∧ (s.transition t cs).sys.hostReady = s.sys.hostReady := by
  rw [State.transition_eq, State.reportPower]
  exact ⟨(State.portReport_rest _).1.trans (by simp), (State.portReport_rest _).2.1.trans (by simp)⟩

theorem State.transition_mgmt :
    ∃ r, (s.transition t cs).mgmt = { s.mgmt.onReport t.state with replyEnded := r } := by
  rw [State.transition_eq, State.reportPower]
  obtain ⟨-, -, r, hr⟩ := State.portReport_rest (s := (((((((State.onHeat (Heat.onReport t.state)
    { s with
      heat := if s.power.releases t then s.heat.reserveRelease else s.heat, power := s.entered t cs }).onThermal
      (Thermal.onReport t.state)).onLive (Liveness.onReport s.params s.clockMs t.state t.phase)).pathReport
      (!s.power.boardPower && powerEnableIn t.state t.phase)
      (s.power.boardPower && !powerEnableIn t.state t.phase)).onKeypad (Keypad.onReport t.state)).onMatcher
      (Matcher.reportArrives s.keypad.scanning s.tables.sequences t.state)).onBeeper
      (Beeper.onReport t.state s.clockMs)).onMgmt (Mgmt.onReport t.state))
  exact ⟨r, hr.trans (by simp)⟩

/-! ## The Heating Controller (R30, R34) -/

theorem State.transition_heat_rest : (s.transition t cs).heat =
    { s.heat with
      kept := (s.transition t cs).power.state, zones := (s.transition t cs).heat.zones
      budget := (s.transition t cs).heat.budget, reserve := (s.transition t cs).heat.reserve
      a8 := (s.transition t cs).heat.a8, reserveHeld := (s.transition t cs).heat.reserveHeld } := by
  have hreport (st : PowerState) (h : Heat) : h.onReport st = { h with kept := st, zones := (h.onReport st).zones } := by
    unfold Heat.onReport
    dsimp only
    split <;> rfl
  obtain ⟨hbudget, ha8⟩ := s.transition_amounts t cs
  rw [(s.transition_entered t cs).state, hbudget, ha8, State.transition_heat, hreport]
  split
  · obtain h | h := s.heat.reserveRelease_cases <;> rw [h]
  · rfl

/-- The grants are 0 in HOT_OFF and in an OFF without heat, and stay elsewhere (R30). -/
theorem State.transition_grants :
    (t.state = .hotOff ∨ (t.state = .off ∧ s.heat.heatWhileOff = false) → (s.transition t cs).heat.NoGrants) ∧
      (t.state ≠ .hotOff → t.state ≠ .off ∨ s.heat.heatWhileOff = true →
        (s.transition t cs).heat.zones = s.heat.zones) := by
  have hreleased : (if s.power.releases t then s.heat.reserveRelease else s.heat).zones = s.heat.zones ∧
      (if s.power.releases t then s.heat.reserveRelease else s.heat).heatWhileOff = s.heat.heatWhileOff := by
    split
    · obtain h | h := s.heat.reserveRelease_cases <;> rw [h] <;> exact ⟨rfl, rfl⟩
    · exact ⟨rfl, rfl⟩
  rw [State.transition_heat]
  generalize (if s.power.releases t then s.heat.reserveRelease else s.heat) = h at hreleased
  obtain ⟨hzones, hwhile⟩ := hreleased
  rw [← hzones, ← hwhile]
  unfold Heat.onReport
  dsimp only
  split
  next hz =>
    simp only [Bool.or_eq_true, Bool.and_eq_true, decide_eq_true_eq, Bool.not_eq_true'] at hz
    refine ⟨fun _ => Heat.zeroGrants_noGrants _, fun hhot hoff => ?_⟩
    obtain hz | ⟨hz, hw⟩ := hz
    · exact absurd hz hhot
    · obtain hoff | hoff := hoff
      · exact absurd hz hoff
      · cases hw.symm.trans hoff
  next hz =>
    refine ⟨fun hz' => absurd ?_ hz, fun _ _ => rfl⟩
    simpa using hz'

/-! ## Everything outside the sequencer -/

/-- The beeper's one-shot, the early count, heat-dim and the display port's counters stay. -/
theorem State.transition_rest :
    (s.transition t cs).beeper.oneShot = s.beeper.oneShot ∧ (s.transition t cs).live.early = s.live.early ∧
      (s.transition t cs).path.heatDim = s.path.heatDim ∧ (s.transition t cs).disp.errors = s.disp.errors := by
  refine ⟨?_, ?_, ?_, ?_⟩
  · rw [State.transition_beeper]
    unfold Beeper.onReport
    (repeat' split) <;> rfl
  · rw [State.transition_live]
    unfold Liveness.onReport
    dsimp only
    split <;> rfl
  · rw [State.transition_path]
    unfold DisplayPath.onBoard
    (repeat' split) <;> rfl
  · rw [State.transition_disp]
    split <;> rfl

/-- Outside a scan the keypad takes the report at once, which touches its queue and sets at most (R110). -/
theorem State.transition_keypad_rest (hk : s.keypad.scanning = false) : (s.transition t cs).keypad =
    { s.keypad with
      kept := (s.transition t cs).power.state, queue := (s.transition t cs).keypad.queue
      reportedDown := (s.transition t cs).keypad.reportedDown, typematic := (s.transition t cs).keypad.typematic
      suppressed := (s.transition t cs).keypad.suppressed } := by
  rw [(s.transition_entered t cs).state, State.transition_keypad, Keypad.onReport, hk, if_neg (by decide)]
  unfold Keypad.takeReport
  split <;> rfl

/-- A transition differs from the state before at most in what its records, outputs and reports touch (R55). -/
theorem State.transition_same (hk : s.keypad.scanning = false) :
    s.unmarked.SameOutsidePower (s.transition t cs).unmarked := by
  have hp := s.transition_entered t cs
  obtain ⟨hheld, -, hchoices, htables, hstore, hmeas, hswitch, hpending⟩ := s.transition_keeps t cs
  obtain ⟨hbudget, ha8⟩ := s.transition_amounts t cs
  obtain ⟨hnone, hstay⟩ := s.transition_grants t cs
  obtain ⟨hbeeper, hlive, hdim, hdisp⟩ := s.transition_rest t cs
  obtain ⟨herrors, hready⟩ := s.transition_sys_rest t cs
  obtain ⟨r, hmgmt⟩ := s.transition_mgmt t cs
  have hmatcher : (s.transition t cs).matcher.kept = t.state := by
    rw [State.transition_matcher, hk]
    rfl
  rw [← hp.state] at hnone hstay hmatcher
  refine ⟨hheld, hchoices, htables, hstore, hmeas, hswitch, hpending,
    s.transition_heat_rest t cs, fun _ => ⟨hbudget, ha8, hnone, hstay⟩,
    s.transition_reported t cs hk, s.transition_keypad_rest t cs hk, hmatcher, ?_, hbeeper, hlive, hdim, herrors,
    hready, hdisp⟩
  rw [State.unmarked, hmgmt, hp.state]
  rfl

end

end Sys2Proof.Machine
end


section
/-! PROOF. Transitions one after another in one action, and the end of their step (R55, R61, R67, R127). -/

namespace Sys2Proof.Machine

/-! ## Parts of what a transition's reports do (R55) -/

section
variable {s t : State}

theorem State.SameOutsidePower.reported (h : s.SameOutsidePower t) : s.Reported t := by
  obtain ⟨-, -, -, -, -, -, -, -, -, hreported, -⟩ := h
  exact hreported

/-- The display path of a board turned off (R154). -/
theorem State.Reported.path_off (h : s.Reported t) (hs : s.power.boardPower = true) (ht : t.power.boardPower = false) :
    t.path.state = .off ∧ t.path.power = false ∧ t.path.queue = [] := by
  obtain ⟨-, -, -, -, -, -, -, -, -, -, hoff, -⟩ := h
  obtain ⟨-, hpath⟩ := hoff ⟨hs, ht⟩
  rw [hpath]
  exact ⟨rfl, rfl, rfl⟩

/-- The port is live as the sequencer's outputs say, and one that dies holds no reply (R133, R135). -/
theorem State.Reported.port (h : s.Reported t) : t.sys.isLive = (t.power.boardPower && !t.power.resetAsserted) ∧
    (s.sys.isLive = true → t.sys.isLive = false → t.sys.slot = .empty) := by
  obtain ⟨-, -, -, -, -, -, -, -, -, -, -, hlive, hdies⟩ := h
  refine ⟨hlive, fun hs ht => ?_⟩
  obtain ⟨-, -, -, hslot, -⟩ := hdies hs ht
  exact hslot

end

/-! ## A state passed through at once (R61, R67) -/

/-- A middle state that leaves no trace of its own between a state and the one that follows it at once: STARTING on the
way to STARTING (R60, R61), or SHUTDOWN with no grace on the way from RUNNING to its destination (R67, R68). -/
def State.PassedThrough (s m t : State) : Prop :=
  (m.power.state = .starting ∧ t.power.state = .starting ∧ t.power.boardPower = true) ∨
    (m.power.state = .shutdown ∧ s.power.state = .running ∧ (t.power.state = .off ∨ t.power.state = .hotOff) ∧
      t.power.boardPower = false)

/-- What the middle state may be. -/
theorem State.PassedThrough.middle {s m t : State} (h : s.PassedThrough m t) :
    (m.power.state = .starting ∨ m.power.state = .shutdown) ∧ t.power.state ≠ .running := by
  obtain ⟨hm, ht, -⟩ | ⟨hm, -, ht | ht, -⟩ := h <;> simp [hm, ht]

theorem Beeper.onReport_silent {b : Beeper} (hb : b.background = none) {st : PowerState}
    (hst : st = .starting ∨ st = .shutdown) (now : Nat) : b.onReport st now = b := by
  obtain rfl | rfl := hst <;> simp [Beeper.onReport, backgroundFor, hb]

/-- The reports of two transitions in one action, as those of one. -/
theorem State.Reported.trans {s m t : State} (h1 : s.Reported m) (h2 : m.Reported t) (htables : m.tables = s.tables)
    (hkept : m.keypad.kept = m.power.state) (hpass : s.PassedThrough m t) (hon : m.power.boardPower = true)
    (hlive : s.sys.isLive = true → m.sys.isLive = true → m.sys = s.sys)
    (hdead : m.sys.isLive = false → t.sys.isLive = false → t.sys = m.sys) : s.Reported t := by
  obtain ⟨hmid, hrun⟩ := hpass.middle
  obtain ⟨thermal1, -, -, -, slots1, beeper1, quiet1, -, keypad1, path1, -, -, dies1⟩ := h1
  obtain ⟨thermal2, stage2, grace2, timers2, slots2, beeper2, quiet2, queue2, keypad2, path2, off2, live2, dies2⟩ := h2
  rw [htables] at slots2
  refine ⟨?_, stage2, grace2, timers2, fun n => ⟨(slots2 n).1, fun hmask => ?_⟩, fun hb => ?_, quiet2, queue2,
    fun hk hst => ?_, fun hb hst => ?_, fun hoff => ?_, live2, fun hs ht => ?_⟩
  · rw [thermal2, thermal1]
    obtain hm | hm := hmid <;> simp [hm, hrun, ite_or]
  · obtain ⟨hclear1, hkeep1⟩ := slots1 n
    obtain ⟨-, hkeep2⟩ := slots2 n
    obtain ⟨hm, ht, -⟩ | ⟨hm, -⟩ := hpass
    · rw [hm, ← ht] at hkeep1
      obtain h2 | h2 := hkeep2 hmask
      · obtain h1 | ⟨hdown, h1⟩ := hkeep1 hmask
        · exact .inl (h2.trans h1)
        · exact .inr ⟨hdown, h2.trans h1⟩
      · exact .inr h2
    · rw [hm] at hclear1 hkeep1
      cases hdown : s.tables.sequences[n].mask.getLsbD PowerState.shutdown.code with
      | false =>
        obtain h2 | ⟨-, h2⟩ := hkeep2 hmask
        · exact .inr ⟨rfl, h2.trans (hclear1 hdown)⟩
        · exact .inr ⟨rfl, h2⟩
      | true =>
        obtain h2 | ⟨hno, -⟩ := hkeep2 hmask
        · obtain h1 | ⟨hno, -⟩ := hkeep1 hdown
          · exact .inl (h2.trans h1)
          · cases hno.symm.trans hdown
        · cases hno.symm.trans hdown
  · have hsame : m.beeper = s.beeper := (beeper1 hb).trans (Beeper.onReport_silent hb hmid _)
    rw [← hsame]
    exact beeper2 (hsame ▸ hb)
  · obtain ⟨hm, ht, -⟩ | ⟨-, hs, ht, -⟩ := hpass
    · have hidle : s.power.state ≠ .running ∧ s.power.state ≠ .shutdown := by simpa [ht] using hst
      rw [keypad2 hkept (.inr (.inr (by simp [hm]))), keypad1 hk (.inr (.inr hidle))]
    · obtain ht | ht := ht <;> simp [hs, ht] at hst
  · obtain ⟨hm, ht, hton⟩ | ⟨-, hs, -, htoff⟩ := hpass
    · obtain ⟨hpath1, htx1⟩ := path1 (by rw [hb, hton, hon]) (.inl hon)
      obtain ⟨hpath2, htx2⟩ := path2 (by rw [hton, hon]) (.inl hton)
      exact ⟨hpath2.trans hpath1, htx2.trans htx1⟩
    · simp [hs, htoff] at hst
  · obtain ⟨hson, htoff⟩ := hoff
    obtain ⟨hpath1, htx1⟩ := path1 (by rw [hson, hon]) (.inl hon)
    rw [← hpath1, ← htx1]
    exact off2 ⟨hon, htoff⟩
  · cases hm : m.sys.isLive with
    | true =>
      rw [← hlive hs hm]
      exact dies2 hm ht
    | false =>
      rw [hdead hm ht]
      exact dies1 hs hm

/-- Two transitions in one action touch what one touches. -/
theorem State.SameOutsidePower.trans {s m t : State} (h1 : s.SameOutsidePower m) (h2 : m.SameOutsidePower t)
    (hpass : s.PassedThrough m t) (hon : m.power.boardPower = true) (hphase : m.power.phase ≠ some .reserve)
    (hlive : s.sys.isLive = true → m.sys.isLive = true → m.sys = s.sys)
    (hdead : m.sys.isLive = false → t.sys.isLive = false → t.sys = m.sys) : s.SameOutsidePower t := by
  obtain ⟨held1, choices1, tables1, store1, meas1, switch1, pending1, heat1, amounts1, reported1, keypad1, -, mgmt1,
    oneShot1, early1, dim1, errors1, ready1, disp1⟩ := h1
  obtain ⟨held2, choices2, tables2, store2, meas2, switch2, pending2, heat2, amounts2, reported2, keypad2, matcher2,
    mgmt2, oneShot2, early2, dim2, errors2, ready2, disp2⟩ := h2
  obtain ⟨hmid, -⟩ := hpass.middle
  have hkept : m.keypad.kept = m.power.state := by rw [keypad1]
  have hwhile : m.heat.heatWhileOff = s.heat.heatWhileOff := by rw [heat1]
  obtain ⟨budget1, a81, -, zones1⟩ := amounts1 hphase
  have hzones : m.heat.zones = s.heat.zones := by
    obtain hm | hm := hmid <;> exact zones1 (by simp [hm]) (.inl (by simp [hm]))
  refine ⟨held2.trans held1, choices2.trans choices1, tables2.trans tables1, store2.trans store1, meas2.trans meas1,
    switch2.trans switch1, pending2.trans pending1, ?_, fun hp => ?_,
    reported1.trans reported2 tables1 hkept hpass hon hlive hdead, ?_, matcher2, ?_, oneShot2.trans oneShot1,
    early2.trans early1, dim2.trans dim1, errors2.trans errors1, ready2.trans ready1, disp2.trans disp1⟩
  · rw [heat2, heat1]
  · obtain ⟨budget2, a82, none2, zones2⟩ := amounts2 hp
    rw [← hwhile, ← hzones, ← budget1, ← a81]
    exact ⟨budget2, a82, none2, zones2⟩
  · rw [keypad2, keypad1]
  · rw [mgmt2, mgmt1]

/-! ## The end of the step (R127) -/

/-- With no soft reset pending the end of a step puts a rate into use at most, abandoning a frame in reception (R127). -/
theorem State.finish_rates {u : State} (hp : u.mgmt.pendingSoft = false) :
    ∃ rate change rx drate drx, (rx = u.sys.rx ∨ rx = .discard) ∧ u.finish =
      { u.unmarked with
        sys := { u.sys with rate := rate, rateChange := change, rx := rx }
        disp := { u.disp with rate := drate, rx := drx } } := by
  have hrates : ∃ rate change rx drate drx, (rx = u.sys.rx ∨ rx = .discard) ∧ u.applyRateChange =
      { u with
        sys := { u.sys with rate := rate, rateChange := change, rx := rx }
        disp := { u.disp with rate := drate, rx := drx } } := by
    unfold State.applyRateChange
    split
    · exact ⟨_, _, _, _, _, .inl rfl, rfl⟩
    next port rate _ =>
      cases port with
      | display =>
        rw [State.applyRate_display]
        exact ⟨_, _, _, _, _, .inl rfl, rfl⟩
      | system =>
        rw [State.applyRate_system]
        exact ⟨_, _, _, _, _, ite_eq_or_eq .., rfl⟩
  unfold State.finish State.replyEndTaken
  simp only [hp]
  split
  · obtain ⟨rate, change, rx, drate, drx, hrx, heq⟩ := hrates
    exact ⟨rate, change, rx, drate, drx, hrx, by rw [if_neg (by decide), heq]; rfl⟩
  · exact ⟨_, _, _, _, _, .inl rfl, rfl⟩

theorem State.SameOutsidePower.finish {s u : State} (h : s.SameOutsidePower u.unmarked)
    (hp : u.mgmt.pendingSoft = false) : s.SameOutsidePower u.finish := by
  obtain ⟨rate, change, rx, drate, drx, hrx, heq⟩ := State.finish_rates hp
  obtain ⟨held, choices, tables, store, meas, switch, pending, heat, amounts, reported, rest⟩ := h
  obtain ⟨thermal, stage, grace, timers, slots, beeper, quiet, queue, keypad, path, off, live, dies⟩ := reported
  rw [heq]
  refine ⟨held, choices, tables, store, meas, switch, pending, heat, amounts, ⟨thermal, stage, grace, timers, slots,
    beeper, quiet, queue, keypad, path, off, live, fun hs ht => ?_⟩, rest⟩
  obtain ⟨hdiscard, hrest⟩ := dies hs ht
  refine ⟨?_, hrest⟩
  obtain rfl | rfl := hrx
  exacts [hdiscard, rfl]

end Sys2Proof.Machine
end


section
/-! PROOF. Where the Power Sequencer's actions lead (R53 to R55, R60, R61, R65, R68). -/

namespace Sys2Proof.Machine

/-! ## Between commands, with no soft reset pending -/

theorem State.Quiet.running {s : State} (hs : s.Quiet) : s.held = false := hs.1.1

theorem State.Quiet.atRest {s : State} (hs : s.Quiet) : s.AtRest := hs.1.2

theorem State.AtRest.scanning {s : State} (hs : s.AtRest) : s.keypad.scanning = false := by
  obtain ⟨-, -, hscan, -⟩ := hs
  exact hscan

theorem State.AtRest.finish {s : State} (hs : s.AtRest) : s.finish = s := by
  obtain ⟨hended, hjust, -⟩ := hs
  exact State.finish_at_rest hended hjust

/-! ## One or two transitions, and the sequencer they leave -/

/-- An action leads from a state to one that differs outside the sequencer at most in what its reports touch, with this
sequencer, at this moment. -/
structure State.LeadsTo (s u : State) (p : PowerSeq) (now : Nat) : Prop where
  same : s.SameOutsidePower u.unmarked
  power : u.power = p
  clock : u.clockMs = now
  soft : u.mgmt.pendingSoft = false

/-- What an action leads to stands at the end of the step. -/
theorem State.LeadsTo.finish {s u : State} {p : PowerSeq} {now : Nat} (h : s.LeadsTo u p now) :
    s.SameOutsidePower u.finish ∧ u.finish.clockMs = now ∧ u.finish.power = p := by
  obtain ⟨same, power, clock, soft⟩ := h
  obtain ⟨-, hclock, -⟩ := u.finish_keeps
  obtain ⟨-, hpower, -⟩ := State.finish_keeps_of_no_soft soft
  exact ⟨same.finish soft, hclock.trans clock, hpower.trans power⟩

theorem State.transition_soft (t : Target) (cs : List (Cause × Option SlotField)) (s : State) :
    (s.transition t cs).mgmt.pendingSoft = s.mgmt.pendingSoft := by
  obtain ⟨r, hr⟩ := s.transition_mgmt t cs
  rw [hr]
  rfl

theorem State.transition_scanning (t : Target) (cs : List (Cause × Option SlotField)) {s : State}
    (h : s.keypad.scanning = false) : (s.transition t cs).keypad.scanning = false := by
  rw [s.transition_keypad_rest t cs h]
  exact h

theorem State.transition_leads {s : State} (hs : s.Quiet) (t : Target) (cs : List (Cause × Option SlotField)) :
    s.LeadsTo (s.transition t cs) (s.entered t cs) s.clockMs := by
  obtain ⟨⟨-, hrest⟩, hp⟩ := hs
  have hsame := s.transition_same t cs hrest.scanning
  rw [State.unmarked_of_atRest hrest] at hsame
  exact ⟨hsame, s.transition_power_eq t cs, by simp, (s.transition_soft t cs).trans hp⟩

/-- A transition from a state that is passed through at once. -/
theorem State.LeadsTo.transition {s m : State} {p : PowerSeq} {now : Nat} (h : s.LeadsTo m p now)
    (hscan : m.keypad.scanning = false) {t : Target} (cs : List (Cause × Option SlotField))
    (hpass : s.PassedThrough m (m.transition t cs)) (hon : m.power.boardPower = true)
    (hphase : m.power.phase ≠ some .reserve)
    (hlive : s.sys.isLive = true → m.sys.isLive = true → m.sys = s.sys) :
    s.LeadsTo (m.transition t cs) (m.entered t cs) now := by
  refine ⟨h.same.trans (m.transition_same t cs hscan) hpass hon hphase hlive fun hm ht => ?_,
    m.transition_power_eq t cs, by simpa using h.clock, (m.transition_soft t cs).trans h.soft⟩
  exact m.transition_sys_same t cs (ht.trans hm.symm)

/-! ## Automatic restarts (R65, R66) -/

theorem PowerSeq.enter_serviceHold (now : Nat) (p : PowerSeq) :
    PowerSeq.enter now toServiceHold (PowerSeq.setOutputs toServiceHold p) = p.boardOff .serviceHold none := by
  simp [PowerSeq.enter, PowerSeq.setOutputs, PowerSeq.boardOff, toServiceHold, powerEnableIn, resetAssertedIn]

theorem PowerSeq.enter_cycling (now : Nat) (q : Params) (p : PowerSeq) :
    PowerSeq.enter now (toCycling q) (PowerSeq.setOutputs (toCycling q) p) =
      p.boardOff .cycling (some { start := now, dur := q.offTime * 1000 }) := by
  simp [PowerSeq.enter, PowerSeq.setOutputs, PowerSeq.boardOff, toCycling, powerEnableIn, resetAssertedIn]

theorem PowerSeq.enter_pulse (now : Nat) (q : Params) (p : PowerSeq) :
    PowerSeq.enter now (toPulse q) (PowerSeq.setOutputs (toPulse q) p) =
      p.pulsing { start := now, dur := q.resetPulse * 10 } := by
  simp [PowerSeq.enter, PowerSeq.setOutputs, PowerSeq.pulsing, toPulse, powerEnableIn, resetAssertedIn]

/-- The sequencer after a transition with one record (R74). -/
theorem State.entered_one (t : Target) (c : Cause) (s : State) :
    s.entered t [(c, none)] = PowerSeq.enter s.clockMs t (PowerSeq.setOutputs t (s.recorded c)) := rfl

/-- The records of a restart that finds the list at its limit (R65). -/
def PowerSeq.logHold (now : Nat) (hot : Option Int) (c : Cause) (p : PowerSeq) : PowerSeq :=
  { p with
    log := ({ p.newRecord now hot .serviceHoldEntered none p.restartList.length with seq := p.nextSeq + 1 } ::
      p.newRecord now hot c none p.restartList.length :: p.log).take 16
    nextSeq := p.nextSeq + 2 }

/-- The sequencer in SERVICE_HOLD, both records made (R65, R74). -/
theorem State.entered_hold (c : Cause) (s : State) :
    s.entered toServiceHold [(c, none), (.serviceHoldEntered, none)] =
      (s.power.logHold s.clockMs s.boardHot c).boardOff .serviceHold none := by
  have hrecords : [(c, none), (.serviceHoldEntered, none)].foldl
      (PowerSeq.record s.uptime s.boardHot s.power.state) (s.power.setOutputs toServiceHold) =
        PowerSeq.setOutputs toServiceHold (s.power.logHold s.clockMs s.boardHot c) := by
    simp [PowerSeq.record, PowerSeq.setOutputs, PowerSeq.logHold, PowerSeq.newRecord, State.uptime, List.take_take,
      BitVec.add_assoc]
  rw [State.entered, hrecords, PowerSeq.enter_serviceHold]

/-- The record of a restart counted in the list (R65, R74). -/
theorem State.recorded_counted (l : List (BitVec 32)) (up : BitVec 32) (c : Cause) (s : State) :
    (s.onPower fun p => { p with restartList := l ++ [up] }).recorded c =
      { s.power.logged (s.power.newRecord s.clockMs s.boardHot c none (l.length + 1)) with
        restartList := l ++ [up] } := by
  simp [State.recorded, State.onPower, State.boardHot, PowerSeq.logged, PowerSeq.newRecord]

/-- An automatic restart, or SERVICE_HOLD at the restart limit (R65, R66). -/
theorem State.autoRestart_leads {s : State} (hs : s.Quiet) (c : Cause) :
    s.LeadsTo (s.autoRestart c) (s.power.afterRestart s.params s.clockMs s.boardHot c) s.clockMs := by
  unfold State.autoRestart
  dsimp only
  split
  next hlimit =>
    obtain ⟨same, power, clock, soft⟩ := State.transition_leads (s := s.onPower fun p =>
      { p with restartList := pruneList s.uptime (s.params.restartWindow * 60) s.power.restartList }) hs toServiceHold
      [(c, none), (.serviceHoldEntered, none)]
    refine ⟨same, power.trans (Eq.trans ?_ (if_pos hlimit).symm), clock, soft⟩
    rw [State.entered_hold]
    rfl
  next hlimit =>
    obtain ⟨same, power, clock, soft⟩ := State.transition_leads (s := s.onPower fun p =>
      { p with restartList := pruneList s.uptime (s.params.restartWindow * 60) s.power.restartList ++ [s.uptime] }) hs
      (restartTarget s.params c) [(c, none)]
    refine ⟨same, power.trans (Eq.trans ?_ (if_neg hlimit).symm), clock, soft⟩
    rw [State.entered_one, State.recorded_counted]
    by_cases hc : c = .watchdog
    · subst hc
      exact PowerSeq.enter_pulse ..
    · have htarget : restartTarget s.params c = toCycling s.params := by
        unfold restartTarget
        split
        · exact absurd rfl hc
        · rfl
      rw [htarget, PowerSeq.enter_cycling, if_neg hc]
      rfl

/-! ## The destination of SHUTDOWN (R68) -/

theorem PowerSeq.records_setOutputs (up : BitVec 32) (hot : Option Int) (left : PowerState) (t : Target)
    (cs : List (Cause × Option SlotField)) (p : PowerSeq) :
    cs.foldl (PowerSeq.record up hot left) (p.setOutputs t) =
      (cs.foldl (PowerSeq.record up hot left) p).setOutputs t := by
  induction cs generalizing p with
  | nil => rfl
  | cons c cs ih => exact ih (p.record up hot left c)

/-- The sequencer with a transition's records made (R74). -/
def State.withRecords (cs : List (Cause × Option SlotField)) (s : State) : PowerSeq :=
  cs.foldl (PowerSeq.record s.uptime s.boardHot s.power.state) s.power

theorem State.entered_eq (t : Target) (cs : List (Cause × Option SlotField)) (s : State) :
    s.entered t cs = PowerSeq.enter s.clockMs t ((s.withRecords cs).setOutputs t) := by
  rw [State.entered, PowerSeq.records_setOutputs]
  rfl

/-- The state that a SHUTDOWN bound for a destination ends in (R68). -/
def shutdownEnd (d : Option Destination) : PowerState := if d = some .off then .off else .hotOff

theorem State.endShutdown_eq (cs : List (Cause × Option SlotField)) (s : State) :
    ∃ t : Target, s.endShutdown cs = s.transition t cs ∧ t.state = shutdownEnd s.power.dest ∧
      t.phase = none ∧ t.dest = none ∧ t.timer = none := by
  unfold State.endShutdown
  split
  next h => exact ⟨toOff, rfl, (if_pos h).symm, rfl, rfl, rfl⟩
  next h => exact ⟨toHotOff, rfl, (if_neg h).symm, rfl, rfl, rfl⟩

theorem shutdownEnd_cases (d : Option Destination) :
    shutdownEnd d = .off ∨ shutdownEnd d = .hotOff := ite_eq_or_eq ..

theorem State.entered_boardOff {t : Target} (d : Option Destination) (hstate : t.state = shutdownEnd d)
    (hphase : t.phase = none) (hdest : t.dest = none) (htimer : t.timer = none)
    (cs : List (Cause × Option SlotField)) (s : State) :
    s.entered t cs = (s.withRecords cs).boardOff (shutdownEnd d) none := by
  have hdown : t.state = .hotOff ∨ t.state = .preheat ∨ t.state = .off := by
    rw [hstate]
    obtain h | h := shutdownEnd_cases d <;> simp [h]
  rw [State.entered_eq, PowerSeq.enter_boardOff hdown hphase hdest, htimer, hstate]
  rfl

/-- SHUTDOWN ends with the board off, in the state it is bound for (R68). -/
theorem State.endShutdown_leads {s : State} (hs : s.Quiet) (cs : List (Cause × Option SlotField)) :
    s.LeadsTo (s.endShutdown cs) ((s.withRecords cs).boardOff (shutdownEnd s.power.dest) none) s.clockMs := by
  obtain ⟨t, heq, hstate, hphase, hdest, htimer⟩ := s.endShutdown_eq cs
  rw [heq, ← State.entered_boardOff s.power.dest hstate hphase hdest htimer]
  exact State.transition_leads hs t cs

/-! ## Power-good in POWER_WAIT (R60, R61) -/

/-- The sequencer when power-good was seen in POWER_WAIT: SETTLE, or BOOT_WAIT with a settle delay of 0 (R61). -/
def PowerSeq.afterGood (q : Params) (now : Nat) (p : PowerSeq) : PowerSeq :=
  { p with
    state := .starting, phase := some (if q.settleDelay = 0 then .bootWait else .settle), dest := none
    timer := if q.settleDelay = 0 then none else some { start := now, dur := q.settleDelay }
    pgSeen := true, boardPower := true, resetAsserted := decide (q.settleDelay ≠ 0) }

/-- The state in SETTLE, power-good seen (R60, R61). -/
def State.settling (s : State) : State :=
  (s.onPower fun p => { p with pgSeen := true }).transition (toSettle s.params) []

theorem State.powerGoodSeen_eq (s : State) :
    s.powerGoodSeen = if s.params.settleDelay = 0 then s.settling.settled else s.settling := rfl

theorem State.settling_power (s : State) : s.settling.power =
    { s.power with
      state := .starting, phase := some .settle, dest := none
      timer := some { start := s.clockMs, dur := s.params.settleDelay }, pgSeen := true, boardPower := true
      resetAsserted := true } := by
  rw [State.settling, State.transition_power]
  rfl

theorem State.settling_dead (s : State) : s.settling.sys.isLive = false := by
  rw [State.settling, State.transition_isLive, ← State.settling, State.settling_power]
  rfl

/-- A settle delay of 0 passes through SETTLE at once (R61). -/
theorem State.LeadsTo.powerGoodSeen {s m : State} {p : PowerSeq} {now : Nat} (h : s.LeadsTo m.settling p now)
    (hscan : m.keypad.scanning = false) :
    s.LeadsTo m.powerGoodSeen (m.power.afterGood m.params m.clockMs) now := by
  rw [State.powerGoodSeen_eq]
  have hpower := m.settling_power
  split
  next hdelay =>
    have hentered : (m.settling.transition (toBootWait .starting) []).power =
        m.power.afterGood m.params m.clockMs := by
      rw [State.transition_power, hpower]
      simp [PowerSeq.enter, PowerSeq.setOutputs, toBootWait, powerEnableIn, resetAssertedIn, PowerSeq.afterGood, hdelay]
    have hboot := h.transition (t := toBootWait .starting) (State.transition_scanning _ _ hscan) []
      (.inl (by rw [hentered, hpower]; exact ⟨rfl, rfl, rfl⟩)) (by rw [hpower]) (by rw [hpower]; nofun)
      (fun _ hlive => by cases m.settling_dead.symm.trans hlive)
    exact ⟨hboot.same, hentered, hboot.clock, hboot.soft⟩
  next hdelay =>
    refine ⟨h.same, hpower.trans ?_, h.clock, h.soft⟩
    simp [PowerSeq.afterGood, hdelay]

end Sys2Proof.Machine
end


section
/-! PROOF. Power-good, and the reserve's grant (R54, R59 to R61, R64, R65, R68, R154). -/

namespace Sys2Proof.Machine

/-! ## The grant (R59) -/

/-- The state in POWER_WAIT (R59, R60). -/
def State.granted (s : State) : State := s.transition (toPowerWait s.params) []

theorem State.granted_power (s : State) : s.granted.power =
    { s.power with
      state := .starting, phase := some .powerWait, dest := none
      timer := some { start := s.clockMs, dur := s.params.powerGoodLimit }, boardPower := true
      resetAsserted := true } := by
  rw [State.granted, State.transition_power]
  simp [PowerSeq.enter, PowerSeq.setOutputs, toPowerWait, powerEnableIn, resetAssertedIn]

theorem State.reserveGranted_eq {s : State} (hst : s.power.state = .starting) (hph : s.power.phase = some .reserve) :
    s.reserveGranted = if s.power.good then s.granted.powerGoodSeen else s.granted := by
  have hgood : s.granted.power.good = s.power.good := by rw [State.granted_power]; rfl
  rw [← hgood]
  exact if_pos ⟨hst, hph⟩

/-- The sequencer after the grant (R59 to R61). -/
def PowerSeq.afterGrant (q : Params) (now : Nat) (p : PowerSeq) : PowerSeq :=
  { p with
    phase := some (if p.good then (if q.settleDelay = 0 then .bootWait else .settle) else .powerWait)
    dest := none
    timer :=
      if p.good then (if q.settleDelay = 0 then none else some { start := now, dur := q.settleDelay })
      else some { start := now, dur := q.powerGoodLimit }
    pgSeen := p.pgSeen || p.good
    boardPower := true
    resetAsserted := !(p.good && decide (q.settleDelay = 0)) }

theorem State.reserveGranted_leads {s : State} (hs : s.Quiet) (hst : s.power.state = .starting)
    (hph : s.power.phase = some .reserve) :
    s.LeadsTo s.reserveGranted (s.power.afterGrant s.params s.clockMs) s.clockMs := by
  have hgranted := State.transition_leads hs (toPowerWait s.params) []
  have hpower := s.granted_power
  rw [State.reserveGranted_eq hst hph]
  cases hgood : s.power.good with
  | false =>
    refine ⟨hgranted.same, hpower.trans ?_, hgranted.clock, hgranted.soft⟩
    simp [PowerSeq.afterGrant, hgood, hst]
  | true =>
    have hscan : s.granted.keypad.scanning = false := State.transition_scanning _ _ hs.atRest.scanning
    have hdead : s.granted.sys.isLive = false := by
      rw [State.granted, State.transition_isLive, ← State.granted, hpower]
      rfl
    have hsettling := State.LeadsTo.transition (m := s.granted.onPower fun p => { p with pgSeen := true })
      (t := toSettle s.granted.params) (s := s) (now := s.clockMs) (p := { s.granted.power with pgSeen := true })
      ⟨hgranted.same, rfl, hgranted.clock, hgranted.soft⟩ hscan []
      (.inl ⟨congrArg PowerSeq.state hpower, congrArg PowerSeq.state s.granted.settling_power,
        congrArg PowerSeq.boardPower s.granted.settling_power⟩)
      (congrArg PowerSeq.boardPower hpower)
      (fun h => by cases (congrArg PowerSeq.phase hpower).symm.trans h)
      (fun _ hlive => by cases hdead.symm.trans hlive)
    have hseen := hsettling.powerGoodSeen (m := s.granted) hscan
    refine ⟨hseen.same, hseen.power.trans ?_, hseen.clock, hseen.soft⟩
    have hkeeps : s.granted.params = s.params ∧ s.granted.clockMs = s.clockMs := by simp [State.granted, State.params]
    rw [hpower, hkeeps.1, hkeeps.2]
    simp [PowerSeq.afterGrant, PowerSeq.afterGood, hgood, hst]

/-! ## The display path (R154) -/

/-- While board power stays on, the display path stays (R154). -/
theorem State.transition_path_on {s : State} {t : Target} (hb : s.power.boardPower = true)
    (ht : powerEnableIn t.state t.phase = true) (cs : List (Cause × Option SlotField)) :
    (s.transition t cs).path = s.path := by
  rw [State.transition_path]
  simp [DisplayPath.onBoard, PowerSeq.turnsOn, PowerSeq.turnsOff, hb, ht]

theorem State.powerGoodSeen_path {s : State} (hb : s.power.boardPower = true) : s.powerGoodSeen.path = s.path := by
  have hsettling : s.settling.path = s.path :=
    State.transition_path_on (s := s.onPower fun p => { p with pgSeen := true }) hb rfl []
  rw [State.powerGoodSeen_eq]
  split
  · exact (State.transition_path_on (congrArg PowerSeq.boardPower s.settling_power) rfl []).trans hsettling
  · exact hsettling

/-- With the grant the display path starts waiting (R154). -/
theorem State.reserveGranted_path {s : State} (hst : s.power.state = .starting) (hph : s.power.phase = some .reserve)
    (hb : s.power.boardPower = false) : s.reserveGranted.path =
      { s.path with
        state := .waitWarm, retry := 0
        waitTimer := some { start := s.clockMs, dur := s.params.waitLimit * 60000 } } := by
  have hgranted : s.granted.path =
      { s.path with
        state := .waitWarm, retry := 0
        waitTimer := some { start := s.clockMs, dur := s.params.waitLimit * 60000 } } := by
    rw [State.granted, State.transition_path]
    simp [DisplayPath.onBoard, PowerSeq.turnsOn, hb, toPowerWait, powerEnableIn]
  rw [State.reserveGranted_eq hst hph, ← hgranted]
  split
  · exact State.powerGoodSeen_path (congrArg PowerSeq.boardPower s.granted_power)
  · rfl

end Sys2Proof.Machine

namespace Sys2Proof.Proofs

open Sys2Proof.Machine

/-- Settles O16: the grant enters POWER_WAIT, and with power-good true passes through it and a settle delay of 0. -/
theorem reserveGrantedTurnsBoardPowerOn : Obligations.ReserveGrantedTurnsBoardPowerOn := by
  refine ⟨fun s hs hno => ?_, fun s hs hst hph => ?_⟩
  · refine hs.idle (if_neg fun hin => ?_)
    obtain ⟨hst, hph⟩ := hin
    obtain hno | hno := hno
    exacts [hno hst, hno hph]
  · have hleads := State.reserveGranted_leads hs hst hph
    obtain ⟨hsame, hclock, hpower⟩ := hleads.finish
    have hexec : exec .reserveGranted s = .next s.reserveGranted.finish :=
      congrArg _ (State.perform_of_running _ hs.running)
    refine ⟨_, hexec, hsame, hclock, hpower, fun hb => ?_⟩
    obtain ⟨-, -, hpath, -⟩ := State.finish_keeps_of_no_soft hleads.soft
    rw [hpath, State.reserveGranted_path hst hph hb]
    exact ⟨rfl, rfl, rfl⟩

end Sys2Proof.Proofs
end


section
/-! PROOF. Power-good's changes, and the expiries of the sequencer's and the monitor's timers (R54, R60 to R65, R68, R71,
R81, R87). -/

namespace Sys2Proof.Machine

/-! ## The inputs' polarities (R53, R54) -/

theorem PowerSeq.good_iff (p : PowerSeq) : p.good = true ↔
    (p.pgPolarity = .activeHigh ∧ p.pgLevel = true) ∨ (p.pgPolarity = .activeLow ∧ p.pgLevel = false) := by
  unfold PowerSeq.good
  cases p.pgPolarity <;> simp

theorem PowerSeq.resetLevel_iff (p : PowerSeq) : p.resetLevel = true ↔
    (p.resetPolarity = .activeHigh ∧ p.resetAsserted = true) ∨
      (p.resetPolarity = .activeLow ∧ p.resetAsserted = false) := by
  unfold PowerSeq.resetLevel
  cases p.resetPolarity <;> simp

/-! ## A new level of power-good (R54, R64) -/

/-- The state with a level on the power-good input (R54). -/
def State.withLevel (high : Bool) (s : State) : State := s.onPower fun p => { p with pgLevel := high }

theorem State.powerGoodLevel_eq (high : Bool) (s : State) : s.powerGoodLevel high =
    if !s.power.good && (s.withLevel high).power.good && decide (s.power.state = .starting) &&
      decide (s.power.phase = some .powerWait) then (s.withLevel high).powerGoodSeen
    else if s.power.good && !(s.withLevel high).power.good && s.power.pgSeen then (s.withLevel high).powerLost
    else s.withLevel high := rfl

theorem State.powerGoodLevel_rises {s : State} {high : Bool} (hst : s.power.state = .starting)
    (hph : s.power.phase = some .powerWait) (hbad : s.power.good = false) (hgood : (s.withLevel high).power.good = true) :
    s.powerGoodLevel high = (s.withLevel high).powerGoodSeen := by
  rw [State.powerGoodLevel_eq, hbad, hgood, hst, hph]
  rfl

theorem State.powerGoodLevel_falls {s : State} {high : Bool} (hgood : s.power.good = true)
    (hbad : (s.withLevel high).power.good = false) (hseen : s.power.pgSeen = true) :
    s.powerGoodLevel high = (s.withLevel high).powerLost := by
  rw [State.powerGoodLevel_eq, hgood, hbad, hseen]
  rfl

/-- Any other change is only a new level (R54). -/
theorem State.powerGoodLevel_level {s : State} {high : Bool}
    (h : (s.withLevel high).power.good = s.power.good ∨
      ((s.withLevel high).power.good = true ∧ ¬(s.power.state = .starting ∧ s.power.phase = some .powerWait)) ∨
      ((s.withLevel high).power.good = false ∧ s.power.pgSeen = false)) :
    s.powerGoodLevel high = s.withLevel high := by
  rw [State.powerGoodLevel_eq]
  obtain h | ⟨h, hwait⟩ | ⟨h, hseen⟩ := h
  · rw [h]
    cases s.power.good <;> rfl
  · rw [h, if_neg (by simpa using fun _ => not_and.mp hwait), if_neg (by simp)]
  · rw [h, hseen]
    cases s.power.good <;> rfl

theorem State.powerLost_shutdown {s : State} (h : s.power.state = .shutdown) : s.powerLost = s.endShutdown [] := by
  simp only [State.powerLost, h]

theorem State.powerLost_restarts {s : State} (h : s.power.state = .running ∨ s.power.state = .restarting ∨
    (s.power.state = .starting ∧ (s.power.phase = some .settle ∨ s.power.phase = some .bootWait))) :
    s.powerLost = s.autoRestart .powerLost := by
  obtain h | h | ⟨h, h' | h'⟩ := h
  · simp only [State.powerLost, h]
  · simp only [State.powerLost, h]
  · simp only [State.powerLost, h, h']
  · simp only [State.powerLost, h, h']

theorem exec_powerGoodChange {s : State} (hheld : s.held = false) (high : Bool) :
    exec (.powerGoodChange high) s = .next (s.powerGoodLevel high).finish := by
  show Host.Outcome.next (if s.held then _ else s.perform _) = _
  rw [hheld, State.perform_of_running _ hheld]
  rfl

end Sys2Proof.Machine

namespace Sys2Proof.Proofs

open Sys2Proof.Machine

/-- Settles O18: the level by its four cases: seen in POWER_WAIT, lost in a restart or in SHUTDOWN, or only new. -/
theorem powerGoodActsByState : Obligations.PowerGoodActsByState := by
  refine ⟨fun p => ⟨p.good_iff, p.resetLevel_iff⟩, fun s high hs hst hph hbad hgood => ?_, fun s high => ?_⟩
  · have hleads := State.transition_leads (s := (s.withLevel high).onPower fun p => { p with pgSeen := true }) hs
      (toSettle s.params) []
    have hseen := State.LeadsTo.powerGoodSeen (m := s.withLevel high) hleads hs.atRest.scanning
    obtain ⟨hsame, hclock, hpower⟩ := hseen.finish
    have hexec := (exec_powerGoodChange hs.running high).trans
      (by rw [State.powerGoodLevel_rises hst hph hbad hgood])
    refine ⟨_, hexec, hsame, hclock, hpower.trans ?_⟩
    simp only [PowerSeq.afterGood, ← hst]
    rfl
  · refine ⟨fun hs hgood hbad hseen => ?_, fun hs hlevel => ?_, fun hheld => ?_⟩
    · have hexec := exec_powerGoodChange hs.running high
      rw [State.powerGoodLevel_falls hgood hbad hseen] at hexec
      refine ⟨fun hst => ?_, fun hst => ?_⟩
      · obtain ⟨hsame, hclock, hpower⟩ := (State.autoRestart_leads (s := s.withLevel high) hs .powerLost).finish
        exact ⟨_, hexec.trans (by rw [State.powerLost_restarts (s := s.withLevel high) hst]), hsame, hclock, hpower⟩
      · obtain ⟨hsame, hclock, hpower⟩ := (State.endShutdown_leads (s := s.withLevel high) hs []).finish
        exact ⟨_, hexec.trans (by rw [State.powerLost_shutdown (s := s.withLevel high) hst]), hsame, hclock, hpower⟩
    · rw [exec_powerGoodChange hs.1, State.powerGoodLevel_level hlevel]
      exact congrArg _ (State.AtRest.finish hs.2)
    · exact congrArg Host.Outcome.next (if_pos hheld)

end Sys2Proof.Proofs
end


section
/-! PROOF. The expiries of the sequencer's and the Liveness Monitor's timers (R57, R58, R60 to R63, R65, R68, R71, R81,
R87). -/

namespace Sys2Proof.Machine

/-- An expiry that comes does its work at its moment (R55). -/
theorem State.perform_expiry {s : State} {here : Bool} {timer : Option Timer} {tm : Timer} (hs : s.Quiet)
    (hhere : here = true) (htimer : timer = some tm) (work : State → State) :
    s.perform (State.onExpiryIn here timer work) = (work (s.reach (tm.start + tm.dur))).finish := by
  subst hhere htimer
  exact State.perform_of_running _ hs.running

/-- With no soft reset pending the end of a step leaves the Liveness Monitor and the port's liveness. -/
theorem State.finish_live {u : State} (hp : u.mgmt.pendingSoft = false) :
    u.finish.live = u.live ∧ u.finish.sys.isLive = u.sys.isLive := by
  obtain ⟨_, _, _, _, _, -, heq⟩ := State.finish_rates hp
  rw [heq]
  exact ⟨rfl, rfl⟩

/-! ## Automatic restarts (R65) -/

/-- An automatic restart is one transition, to a state without liveness (R65, R77). -/
theorem State.autoRestart_transition (c : Cause) (s : State) : ∃ l t cs,
    s.autoRestart c = (s.onPower fun p => { p with restartList := l }).transition t cs ∧
      stageFor t.state t.phase = .idle := by
  have htarget : stageFor (restartTarget s.params c).state (restartTarget s.params c).phase = .idle := by
    cases c <;> rfl
  unfold State.autoRestart
  dsimp only
  split
  · exact ⟨_, toServiceHold, _, rfl, rfl⟩
  · exact ⟨_, _, _, rfl, htarget⟩

/-- It leaves the boot outcome, and no boot or grace timer runs (R77). -/
theorem State.autoRestart_live (c : Cause) (s : State) :
    (s.autoRestart c).live.outcome = s.live.outcome ∧ (s.autoRestart c).live.bootTimer = none ∧
      (s.autoRestart c).live.graceTimer = none := by
  obtain ⟨l, t, cs, heq, hidle⟩ := s.autoRestart_transition c
  rw [heq, State.transition_live, Liveness.onReport]
  simp [hidle]

/-- The boot timer's expiry in a BOOT_WAIT phase (R62, R81). -/
theorem State.bootExpired_eq {s : State} (h : s.power.bootWaiting = true) : s.bootExpired =
    (s.onLive fun l => { l with outcome := .timedOut, bootTimer := none }).autoRestart .bootTimeout :=
  if_pos h

theorem PowerSeq.bootWaiting_of {p : PowerSeq} (hst : p.state = .starting ∨ p.state = .restarting)
    (hph : p.phase = some .bootWait) : p.bootWaiting = true := by
  simpa [PowerSeq.bootWaiting, hph] using hst

/-- The grace timer's expiry in RUNNING (R65, R87). -/
theorem State.graceExpired_eq {s : State} (h : s.power.state = .running) :
    s.graceExpired = (s.onLive fun l => { l with graceTimer := none }).autoRestart .watchdog :=
  if_pos h

/-! ## A boot wait (R61, R63) -/

/-- Board reset is released and BOOT_WAIT entered, with the boot timer and a live port (R61 to R63, R77, R133). -/
theorem State.toBootWait_leads {s : State} (hs : s.Quiet)
    (hst : s.power.state = .starting ∨ s.power.state = .restarting) :
    s.LeadsTo (s.transition (toBootWait s.power.state) [])
      { s.power with
        phase := some .bootWait, dest := none, timer := none, boardPower := true, resetAsserted := false } s.clockMs ∧
    (s.transition (toBootWait s.power.state) []).live =
      { s.live with
        stage := .bootWait, outcome := .pending, last := none, hbTimer := none, graceTimer := none
        bootTimer := some { start := s.clockMs, dur := s.params.bootLimit * 1000 } } ∧
    (s.transition (toBootWait s.power.state) []).sys.isLive = true := by
  have hleads := State.transition_leads hs (toBootWait s.power.state) []
  have hpower : (s.transition (toBootWait s.power.state) []).power = { s.power with
      phase := some .bootWait, dest := none, timer := none, boardPower := true, resetAsserted := false } := by
    rw [State.transition_power]
    obtain hst | hst := hst <;>
      simp [hst, PowerSeq.enter, PowerSeq.setOutputs, toBootWait, powerEnableIn, resetAssertedIn]
  refine ⟨⟨hleads.same, hpower, hleads.clock, hleads.soft⟩, ?_, ?_⟩
  · have hstage : stageFor (toBootWait s.power.state).state (toBootWait s.power.state).phase = .bootWait := by
      obtain hst | hst := hst <;> rw [hst] <;> rfl
    rw [State.transition_live, Liveness.onReport]
    simp only [hstage]
  · rw [State.transition_isLive, hpower]
    rfl

end Sys2Proof.Machine

namespace Sys2Proof.Proofs

open Sys2Proof.Machine

/-- Settles O19: each limit's expiry is its automatic restart, from the moment it is due. -/
theorem automaticCausesRestartOrHold : Obligations.AutomaticCausesRestartOrHold := by
  refine fun s tm hs => ⟨fun hst hph htimer => ?_, fun hstage hout htimer hph hst => ?_, fun hstage htimer hst => ?_⟩
  · obtain ⟨hsame, hclock, hpower⟩ :=
      (State.autoRestart_leads (s := s.reach (tm.start + tm.dur)) hs .powerGoodTimeout).finish
    have hexec := State.perform_expiry hs (PowerSeq.inPhase_iff.mpr ⟨hst, hph⟩) htimer (.autoRestart .powerGoodTimeout)
    exact ⟨_, congrArg Host.Outcome.next hexec, hsame, hclock, hpower⟩
  · have hleads := State.autoRestart_leads (s := (s.reach (tm.start + tm.dur)).onLive fun l =>
      { l with outcome := .timedOut, bootTimer := none }) hs .bootTimeout
    obtain ⟨hsame, hclock, hpower⟩ := hleads.finish
    obtain ⟨hlive, -⟩ := State.finish_live hleads.soft
    have hwork := State.bootExpired_eq (s := s.reach (tm.start + tm.dur)) (PowerSeq.bootWaiting_of hst hph)
    obtain ⟨houtcome, hboot, -⟩ := State.autoRestart_live .bootTimeout ((s.reach (tm.start + tm.dur)).onLive fun l =>
      { l with outcome := .timedOut, bootTimer := none })
    have hexec := (State.perform_expiry hs
      (Bool.and_eq_true_iff.mpr ⟨decide_eq_true hstage, decide_eq_true hout⟩) htimer .bootExpired).trans (by rw [hwork])
    exact ⟨_, congrArg Host.Outcome.next hexec, hsame, hclock, by rw [hlive, houtcome]; rfl, by rw [hlive, hboot],
      hpower⟩
  · have hleads := State.autoRestart_leads (s := (s.reach (tm.start + tm.dur)).onLive fun l =>
      { l with graceTimer := none }) hs .watchdog
    obtain ⟨hsame, hclock, hpower⟩ := hleads.finish
    obtain ⟨hlive, -⟩ := State.finish_live hleads.soft
    have hwork := State.graceExpired_eq (s := s.reach (tm.start + tm.dur)) hst
    obtain ⟨-, -, hgrace⟩ := State.autoRestart_live .watchdog ((s.reach (tm.start + tm.dur)).onLive fun l =>
      { l with graceTimer := none })
    have hexec := (State.perform_expiry hs (decide_eq_true hstage) htimer .graceExpired).trans (by rw [hwork])
    exact ⟨_, congrArg Host.Outcome.next hexec, hsame, hclock, by rw [hlive, hgrace], hpower⟩

/-- Settles O20: two expiries begin a boot wait, one ends SHUTDOWN, and one enters PREHEAT. -/
theorem timedPhasesEnd : Obligations.TimedPhasesEnd := by
  refine ⟨fun s tm hs htimer c hc => ?_, fun s tm hs htimer => ⟨fun hst => ?_, fun hst => ?_⟩⟩
  · have hst : s.power.state = .starting ∨ s.power.state = .restarting := by
      obtain ⟨-, hst, -⟩ | ⟨-, hst, -⟩ := hc
      exacts [.inl hst, .inr hst]
    have hexec : exec c s = .next ((s.reach (tm.start + tm.dur)).transition (toBootWait s.power.state) []).finish := by
      obtain ⟨rfl, hst, hph⟩ | ⟨rfl, hst, hph⟩ := hc <;>
      · rw [hst]
        exact congrArg Host.Outcome.next (State.perform_expiry hs (PowerSeq.inPhase_iff.mpr ⟨hst, hph⟩) htimer _)
    obtain ⟨hleads, hlive, hport⟩ := State.toBootWait_leads (s := s.reach (tm.start + tm.dur)) hs hst
    obtain ⟨hsame, hclock, hpower⟩ := hleads.finish
    obtain ⟨hlive', hport'⟩ := State.finish_live hleads.soft
    exact ⟨_, hexec, hsame, hclock, hpower, hlive'.trans hlive, hport'.trans hport⟩
  · obtain ⟨hsame, hclock, hpower⟩ := (State.endShutdown_leads (s := s.reach (tm.start + tm.dur)) hs []).finish
    have hexec := State.perform_expiry hs (decide_eq_true hst) htimer (.endShutdown [])
    exact ⟨_, congrArg Host.Outcome.next hexec, hsame, hclock, hpower, fun hb =>
      hsame.reported.path_off hb (congrArg PowerSeq.boardPower hpower)⟩
  · have hleads := State.transition_leads (s := s.reach (tm.start + tm.dur)) hs (toPreheat s.params) []
    obtain ⟨hsame, hclock, hpower⟩ := hleads.finish
    have hexec := State.perform_expiry hs (decide_eq_true hst) htimer fun u => u.transition (toPreheat u.params) []
    refine ⟨_, congrArg Host.Outcome.next hexec, hsame, hclock, hpower.trans ?_⟩
    rw [State.entered_eq, PowerSeq.enter_boardOff (.inr (.inl rfl)) rfl rfl]
    rfl

end Sys2Proof.Proofs
end


section
/-! PROOF. The preheat limit's expiry (R33, R58, R59). -/

namespace Sys2Proof.Machine

/-! ## The reserve request (R33, R59) -/

/-- STARTING, phase RESERVE, is entered with its records, and the heaters are allocated with the reserve held. -/
theorem State.enterReserve_leads {s : State} (hs : s.Quiet) (cs : List (Cause × Option SlotField)) :
    s.LeadsTo (s.enterReserve cs)
      { s.withRecords cs with
        state := .starting, phase := some .reserve, dest := none, timer := none, boardPower := false
        resetAsserted := true, pgSeen := false } s.clockMs := by
  obtain ⟨same, power, clock, soft⟩ := State.transition_leads hs toReserve cs
  have hentered : s.entered toReserve cs = { s.withRecords cs with
      state := .starting, phase := some .reserve, dest := none, timer := none, boardPower := false
      resetAsserted := true, pgSeen := false } := by
    rw [State.entered_eq]
    simp [PowerSeq.enter, PowerSeq.setOutputs, toReserve, powerEnableIn, resetAssertedIn]
  have hpower := power.trans hentered
  obtain ⟨held, choices, tables, store, meas, switch, pending, -, -, reported, rest⟩ := same
  refine ⟨⟨held, choices, tables, store, meas, switch, pending, ?_, fun hphase => absurd ?_ hphase, reported, rest⟩,
    hpower, clock, soft⟩
  · have hstate : (s.enterReserve cs).unmarked.power.state = .starting := congrArg PowerSeq.state hpower
    have hheat : (s.enterReserve cs).unmarked.heat = _ := s.enterReserve_heat cs
    rw [hstate, hheat]
    rfl
  · exact congrArg PowerSeq.phase hpower

/-! ## Whether it is sent (R58) -/

theorem ZoneReport.acceptable_iff (r : ZoneReport) :
    r.acceptable = true ↔ r.warm = true ∨ r.blind = true ∨ ∃ c, r.cold = some c ∧ r.tminAbs ≤ c := by
  unfold ZoneReport.acceptable
  cases r.cold <;> simp [or_assoc]

/-- Every board-gate zone is warm or acceptable (R58). -/
def boardAcceptable (z : PerZone ZoneReport) : Bool := z.toList.all (fun r => !r.boardGate || r.acceptable)

theorem boardAcceptable_iff (p : PerZone ZoneReport) :
    boardAcceptable p = true ↔ ∀ z, (p.get z).boardGate = true → (p.get z).acceptable = true := by
  simp only [boardAcceptable, PerZone.toList_all, Bool.or_eq_true, Bool.not_eq_true', ← Bool.not_eq_true,
    imp_iff_not_or]

theorem State.preheatExpired_starts {s : State} (h : boardAcceptable s.zoneReports = true) :
    s.preheatExpired = s.enterReserve (if boardWarm s.zoneReports then [] else [(.degradedStart, none)]) :=
  if_pos h

theorem State.preheatExpired_waits {s : State} (h : boardAcceptable s.zoneReports ≠ true) : s.preheatExpired =
    s.onPower fun p => { p with timer := some (s.timer (s.params.preheatLimit * 60000)) } :=
  if_neg h

end Sys2Proof.Machine

namespace Sys2Proof.Proofs

open Sys2Proof.Machine

/-- Settles O17: the zones' reports decide, and a start makes its record unless all are warm. -/
theorem preheatLimitDecides : Obligations.PreheatLimitDecides := by
  refine fun s tm hs hst htimer => ⟨fun hwarm => ?_, fun z hgate hcold hseeing hlow => ?_⟩
  · have hstarts := State.preheatExpired_starts (s := s.reach (tm.start + tm.dur))
      ((boardAcceptable_iff _).mpr fun z hgate => (ZoneReport.acceptable_iff _).mpr (hwarm z hgate))
    have hleads := State.enterReserve_leads (s := s.reach (tm.start + tm.dur)) hs
      (if boardWarm s.zoneReports then [] else [(.degradedStart, none)])
    obtain ⟨hsame, hclock, hpower⟩ := hleads.finish
    obtain ⟨hheat, -⟩ := State.finish_keeps_of_no_soft hleads.soft
    have hallocated := hheat.trans (State.enterReserve_heat ..)
    have hexec := (State.perform_expiry hs (decide_eq_true hst) htimer State.preheatExpired).trans (by rw [hstarts])
    refine ⟨_, congrArg Host.Outcome.next hexec, hsame, hclock, hallocated,
      congrArg Heat.reserveHeld hallocated, congrArg Heat.reserve hallocated, hpower.trans ?_⟩
    by_cases hall : boardWarm s.zoneReports = true
    · rw [if_pos hall, if_pos fun z _ => (boardWarm_iff _).mp hall z]
      rfl
    · rw [if_neg hall, if_neg fun h => hall ((boardWarm_iff _).mpr fun z => h z z.mem_all)]
      rfl
  · have hnot : boardAcceptable (s.reach (tm.start + tm.dur)).zoneReports ≠ true := fun hall => by
      obtain hwarm | hblind | ⟨c, hc, hle⟩ := (ZoneReport.acceptable_iff _).mp ((boardAcceptable_iff _).mp hall z hgate)
      · cases hcold.symm.trans hwarm
      · cases hseeing.symm.trans hblind
      · exact absurd (hlow c hc) (Int.not_lt.mpr hle)
    have hexec := (State.perform_expiry hs (decide_eq_true hst) htimer State.preheatExpired).trans
      (by rw [State.preheatExpired_waits hnot])
    exact congrArg Host.Outcome.next (hexec.trans (State.AtRest.finish hs.atRest))

end Sys2Proof.Proofs
end


section
/-! PROOF. Heartbeats by the liveness stage (R62, R80, R82, R84, R86, R88, R89, R140). -/

namespace Sys2Proof.Machine

/-- A class-4 frame that the system port hears is a heartbeat (R140). -/
theorem exec_heartbeat {s : State} (hs : s.Quiet) (hears : s.Hears) (payload : List Byte) :
    exec (.reservedFrame .system 4 payload) s = .next ((s.received 4).heartbeat).finish := by
  obtain ⟨hreceives, hlow⟩ := hears
  have hwork : s.reservedFrame .system { cls := 4, payload := payload } = (s.received 4).heartbeat :=
    State.boardFrame_received _ hreceives hlow
  show Host.Outcome.next (s.perform _) = _
  rw [State.perform_of_running _ hs.running, hwork]

/-! ## What a heartbeat does by stage and outcome (R80, R82, R84, R86, R88) -/

theorem State.heartbeat_none {s : State} (h : s.live.stage = .idle ∨ s.live.stage = .suspended ∨
    (s.live.stage = .bootWait ∧ s.live.outcome = .timedOut)) : s.heartbeat = s := by
  obtain h | h | ⟨h, h'⟩ := h <;> simp only [State.heartbeat, *]

theorem State.heartbeat_pending {s : State} (hstage : s.live.stage = .bootWait) (hout : s.live.outcome = .pending) :
    s.heartbeat = s.bootHeard := by
  simp only [State.heartbeat, hstage, hout]

theorem State.heartbeat_heard {s : State} (hstage : s.live.stage = .bootWait) (hout : s.live.outcome = .heard) :
    s.heartbeat = s.onLive fun l => { l with last := some s.clockMs } := by
  simp only [State.heartbeat, hstage, hout]

theorem State.heartbeat_early {s : State} (hstage : s.live.stage = .watching)
    (h : s.live.isEarly s.params.hbMin s.clockMs = true) : s.heartbeat = s.earlyHeartbeat := by
  simp only [State.heartbeat, hstage, h, if_true]

theorem State.heartbeat_accepted {s : State} (h : s.live.stage = .warned ∨
    (s.live.stage = .watching ∧ s.live.isEarly s.params.hbMin s.clockMs = false)) :
    s.heartbeat = s.acceptHeartbeat := by
  obtain h | ⟨h, hearly⟩ := h
  · simp only [State.heartbeat, h]
  · simp only [State.heartbeat, h, hearly]
    rfl

theorem Liveness.isEarly_iff {l : Liveness} {at_ : Nat} (hlast : l.last = some at_) (hbMin now : Nat) :
    l.isEarly hbMin now = true ↔ hbMin ≠ 0 ∧ now - at_ < hbMin * 100 := by
  simp only [Liveness.isEarly, hlast, decide_eq_true_eq]

theorem Liveness.isEarly_off (now : Nat) (l : Liveness) : l.isEarly 0 now = false := by
  unfold Liveness.isEarly
  split <;> simp

/-! ## The first heartbeat of a boot wait (R62, R80) -/

/-- A notice posted in RUNNING (R175). -/
theorem State.LeadsTo.post {s u : State} {p : PowerSeq} {now : Nat} (h : s.LeadsTo u p now) (hst : p.state = .running)
    (c : NoticeContent) : s.LeadsTo (u.post c) p now := by
  obtain ⟨same, power, clock, soft⟩ := h
  obtain ⟨held, choices, tables, store, meas, switch, pending, heat, amounts, reported, keypad, matcher, mgmt, rest⟩ :=
    same
  obtain ⟨thermal, stage, grace, timers, slots, beeper, quiet, -, rest'⟩ := reported
  refine ⟨⟨held, choices, tables, store, meas, switch, pending, heat, amounts,
    ⟨thermal, stage, grace, timers, slots, beeper, quiet, fun hno => absurd ?_ hno, rest'⟩, keypad, matcher, ?_, rest⟩,
    power, clock, soft⟩
  · exact (congrArg PowerSeq.state power).trans hst
  · exact congrArg (fun m : Mgmt =>
      { m with queue := (u.post c).mgmt.queue, counter := (u.post c).mgmt.counter }) mgmt

/-- The sequencer in RUNNING (R53, R62). -/
def PowerSeq.toRun (p : PowerSeq) : PowerSeq :=
  { p with
    state := .running, phase := none, dest := none, timer := none, boardPower := true, resetAsserted := false }

theorem State.transition_toRunning_power (s : State) : (s.transition toRunning []).power = s.power.toRun := by
  rw [State.transition_power]
  simp [PowerSeq.enter, PowerSeq.setOutputs, toRunning, powerEnableIn, resetAssertedIn, PowerSeq.toRun]

/-- The HELLO of a start (R89). -/
def State.hello (r : LogRecord) (s : State) : NoticeContent :=
  .hello r.seq r.cause s.power.restartList.length s.mgmt.source

/-- The Liveness Monitor on the first heartbeat of a boot wait (R80). -/
def State.firstHeard (s : State) : State :=
  s.onLive fun l => { l with outcome := .heard, bootTimer := none, last := some s.clockMs }

theorem State.bootHeard_eq {s : State} (h : s.power.bootWaiting = true) {r : LogRecord} {rest : List LogRecord}
    (hlog : s.power.log = r :: rest) :
    s.bootHeard = (s.firstHeard.transition toRunning []).post (s.hello r) := by
  have hpower := s.firstHeard.transition_toRunning_power
  obtain ⟨_, hmgmt⟩ := s.firstHeard.transition_mgmt toRunning []
  have hfirst : s.bootHeard = (s.firstHeard.transition toRunning []).postHello := if_pos h
  have hlog' : (s.firstHeard.transition toRunning []).power.log = r :: rest := by
    rw [hpower]
    exact hlog
  rw [hfirst, State.postHello, hlog', hpower, hmgmt]
  rfl

theorem State.transition_toRunning_live (s : State) : (s.transition toRunning []).live =
    { s.live with
      stage := .watching, bootTimer := none, graceTimer := none
      hbTimer := some { start := s.clockMs, dur := s.params.hbMax * 100 } } := by
  rw [State.transition_live]
  rfl

/-- A notice posted in RUNNING to an empty queue (R175). -/
theorem State.running_post_notices {s : State} (hqueue : s.mgmt.queue = []) (c : NoticeContent) :
    ((s.transition toRunning []).post c).mgmt.notices =
      (.running, s.mgmt.counter + 1, [{ seq := s.mgmt.counter, content := c }]) := by
  have hposted := Mgmt.post_notices (s.transition_notices toRunning []) c
  rw [State.post, State.onMgmt, hposted]
  simp [Mgmt.notices, Mgmt.post, Mgmt.onReport, toRunning, PowerState.accepts, hqueue]

end Sys2Proof.Machine

namespace Sys2Proof.Proofs

open Sys2Proof.Machine

/-- Settles O22: the stage and the outcome choose what a heartbeat does. -/
theorem heartbeatActsByStage : Obligations.HeartbeatActsByStage := by
  intro s payload hs hears u c
  have hexec : exec c s = .next u.heartbeat.finish := exec_heartbeat hs hears payload
  have hrest : u.AtRest := hs.atRest
  have done {v : State} (hv : u.heartbeat = v) (hvrest : v.AtRest) : exec c s = .next v := by
    rw [hexec, hv, hvrest.finish]
  refine ⟨fun hnone => done (State.heartbeat_none (s := u) hnone) hrest,
    fun hstage hout => done (State.heartbeat_heard (s := u) hstage hout) hrest,
    fun at_ hstage hlast hmin hsoon => ?_, fun hacc => ?_, fun r rest hstage hout hph hst hqueue hlog => ?_⟩
  · have hearly := (Liveness.isEarly_iff hlast _ _).mpr ⟨hmin, hsoon⟩
    obtain ⟨hended, hjust, -⟩ := hrest
    rw [hexec, State.heartbeat_early (s := u) hstage hearly]
    exact congrArg Host.Outcome.next (State.finish_report (s := u.onLive _) hended hjust _)
  · refine done (State.heartbeat_accepted (s := u) (hacc.imp_right fun ⟨hstage, hok⟩ => ⟨hstage, ?_⟩)) hrest
    obtain hmin | ⟨at_, hlast, hlate⟩ := hok
    · show s.live.isEarly s.params.hbMin s.clockMs = false
      rw [hmin, Liveness.isEarly_off]
    · refine Bool.eq_false_iff.mpr fun hearly => ?_
      obtain ⟨-, hsoon⟩ := (Liveness.isEarly_iff hlast _ _).mp hearly
      exact absurd hsoon (Nat.not_lt.mpr hlate)
  · have hwork := (State.heartbeat_pending (s := u) hstage hout).trans
      (State.bootHeard_eq (s := u) (PowerSeq.bootWaiting_of hst hph) hlog)
    have hleads := (State.transition_leads (s := u.firstHeard) hs toRunning []).post rfl (u.hello r)
    have hnotices := (State.finish_notices hleads.soft).trans (State.running_post_notices (s := u.firstHeard) hqueue _)
    simp only [Mgmt.notices, Prod.mk.injEq] at hnotices
    obtain ⟨-, hcounter, hposted⟩ := hnotices
    obtain ⟨hsame, hclock, hpower⟩ := hleads.finish
    obtain ⟨hlive, -⟩ := State.finish_live hleads.soft
    refine ⟨_, hexec.trans (by rw [hwork]), hsame, hclock, hpower.trans ?_, hlive.trans ?_, hcounter, hposted⟩
    · rw [← State.transition_power_eq]
      exact State.transition_toRunning_power _
    · exact State.transition_toRunning_live _

end Sys2Proof.Proofs
end


section
/-! PROOF. SET_ENTRY of a parameter (R66, R127, R172). -/

namespace Sys2Proof.Machine

/-! ## What a stored parameter changes at once (R66, R127) -/

theorem State.parameterStored_other {n : Nat} (h30 : n ≠ 30) (h44 : n ≠ 44) (h45 : n ≠ 45) (s : State) :
    s.parameterStored n = s := by
  unfold State.parameterStored
  split
  · exact absurd rfl h30
  · exact absurd rfl h44
  · exact absurd rfl h45
  · rfl

/-! ## The request (R172) -/

theorem State.setParameter_unlisted {n : Byte} (h : n = 0 ∨ 53 < n.toNat) (b0 b1 b2 b3 : Byte) (s : State) :
    s.setParameter [n, b0, b1, b2, b3] = s.turnDown .badIndex := by
  refine if_neg ?_
  simp only [parameterListed, decide_eq_true_eq]
  obtain rfl | h := h
  · decide
  · omega

theorem State.setParameter_badValue {n b0 b1 b2 b3 : Byte} (h1 : 1 ≤ n.toNat) (h53 : n.toNat ≤ 53) {s : State}
    (h : (s.params.write n.toNat (readS32 b0 b1 b2 b3)).2 = .badValue) :
    s.setParameter [n, b0, b1, b2, b3] = s.turnDown .badValue := by
  refine (if_pos (decide_eq_true ⟨h1, h53⟩)).trans ?_
  simp only [h]

theorem State.setParameter_stored {n b0 b1 b2 b3 : Byte} (h1 : 1 ≤ n.toNat) (h53 : n.toNat ≤ 53) {s : State}
    (h : (s.params.write n.toNat (readS32 b0 b1 b2 b3)).2 ≠ .badValue) :
    let w := s.params.write n.toNat (readS32 b0 b1 b2 b3)
    s.setParameter [n, b0, b1, b2, b3] =
      ⟨(s.onTables fun t => { t with params := w.1 }).parameterStored n.toNat, w.2, paramBytes (w.1.get n.toNat)⟩ := by
  intro w
  refine (if_pos (decide_eq_true ⟨h1, h53⟩)).trans ?_
  split
  next hbad => exact absurd hbad h
  next => rfl

end Sys2Proof.Machine

namespace Sys2Proof.Proofs

open Sys2Proof.Machine

/-- Settles O48: the number, the value and the parameter's own effect at once. -/
theorem setParameterStoresTheValue : Obligations.SetParameterStoresTheValue := by
  intro s tag n b0 b1 b2 b3 hs u w stored
  have served {v : State} {st : Status} {d : List Byte} (hr : u.setParameter [n, b0, b1, b2, b3] = ⟨v, st, d⟩)
      (hsys : v.sys.isLive = s.sys.isLive) (hmgmt : v.mgmt = s.mgmt) :
      exec (.setEntryParameter tag [n, b0, b1, b2, b3]) s = .next (v.replied 5 tag st d) :=
    congrArg Host.Outcome.next (State.perform_requestFrame_free hs 5 tag hr hsys (congrArg Mgmt.replyEnded hmgmt)
      (congrArg Mgmt.justReported hmgmt))
  refine ⟨fun hn => served (State.setParameter_unlisted hn ..) rfl rfl, fun h1 h53 => ⟨fun hbad =>
    served (State.setParameter_badValue (s := u) h1 h53 hbad) rfl rfl, fun hok => ?_⟩⟩
  have hr := State.setParameter_stored (s := u) h1 h53 hok
  refine ⟨fun h30 h44 h45 => ?_, fun hn => ?_, fun hn => ?_, fun hn => ?_⟩
  · have hne {k : Nat} (hk : k < 256) (h : n ≠ BitVec.ofNat 8 k) : n.toNat ≠ k := fun hnk =>
      h (BitVec.eq_of_toNat_eq (by simp [hnk, Nat.mod_eq_of_lt hk]))
    have hother := State.parameterStored_other (hne (by decide) h30) (hne (by decide) h44) (hne (by decide) h45)
      (u.onTables fun t => { t with params := w.1 })
    exact served (hr.trans (congrArg (Answer.mk · w.2 _) hother)) rfl rfl
  all_goals
    subst hn
    exact served hr rfl rfl

end Sys2Proof.Proofs
end


section
/-! PROOF. REQUEST_POWER by the power state (R63, R67 to R69, R71, R133, R135). -/

namespace Sys2Proof.Machine

/-! ## The reply of a request that moves the sequencer (R133, R135) -/

/-- The port is live as the sequencer's outputs say (R133). -/
theorem State.LeadsTo.isLive {s v : State} {p : PowerSeq} {now : Nat} (h : s.LeadsTo v p now) :
    v.sys.isLive = (p.boardPower && !p.resetAsserted) := by
  obtain ⟨hlive, -⟩ := h.same.reported.port
  rw [← h.power]
  exact hlive

/-- A reply to a port that died is discarded (R135). -/
theorem State.LeadsTo.placeReply_dead {s v : State} {p : PowerSeq} {now : Nat} (h : s.LeadsTo v p now)
    (hlive : s.sys.isLive = true) (hdead : v.sys.isLive = false) (r : Reply) :
    s.LeadsTo (v.placeReply r) p now ∧ (v.placeReply r).finish.sys.slot = .empty ∧
      (v.placeReply r).finish.sys.isLive = false := by
  have hplaced : v.placeReply r = v.replyEnds := by simp [State.placeReply, hdead]
  have hleads : s.LeadsTo v.replyEnds p now := ⟨h.same, h.power, h.clock, h.soft⟩
  obtain ⟨-, hdies⟩ := h.same.reported.port
  have hslot := hdies hlive hdead
  obtain ⟨_, _, _, _, _, -, heq⟩ := State.finish_rates hleads.soft
  rw [hplaced, heq]
  exact ⟨hleads, hslot, hdead⟩

/-- A reply to a port that stays live waits in the slot (R135). -/
theorem State.LeadsTo.placeReply_live {s v : State} {p : PowerSeq} {now : Nat} (h : s.LeadsTo v p now)
    (hlive : v.sys.isLive = true) (hended : v.mgmt.replyEnded = false) (r : Reply) :
    s.LeadsTo (v.placeReply r) p now ∧ (v.placeReply r).finish.sys = { v.sys with slot := .held r } := by
  have hplaced : v.placeReply r = v.onSys fun q => { q with slot := .held r } := by simp [State.placeReply, hlive]
  obtain ⟨same, power, clock, soft⟩ := h
  obtain ⟨held, choices, tables, store, meas, switch, pending, heat, amounts, reported, rest⟩ := same
  obtain ⟨thermal, stage, grace, timers, slots, beeper, quiet, queue, keypad, path, off, live, -⟩ := reported
  rw [hplaced]
  refine ⟨⟨⟨held, choices, tables, store, meas, switch, pending, heat, amounts, ⟨thermal, stage, grace, timers, slots,
    beeper, quiet, queue, keypad, path, off, live, fun _ hdead => ?_⟩, rest⟩, power, clock, soft⟩, ?_⟩
  · cases hlive.symm.trans hdead
  · exact congrArg State.sys (State.finish_of_no_reply (s := v.onSys fun q => { q with slot := .held r }) hended)

/-- A transition that leaves the port live ends no reply (R133, R135). -/
theorem State.transition_replyEnded {s : State} (hended : s.mgmt.replyEnded = false) {t : Target}
    {cs : List (Cause × Option SlotField)} (h : (s.transition t cs).sys.isLive = s.sys.isLive) :
    (s.transition t cs).mgmt.replyEnded = false := by
  rw [State.transition_isLive, State.transition_power_eq] at h
  rw [State.transition_eq, State.reportPower, State.portReport_same]
  · simpa [Mgmt.onReport] using hended
  · simpa using h

/-! ## A request served (R69) -/

/-- REQUEST_POWER's frame: its work, and the reply to a port that may have died meanwhile. -/
theorem State.perform_powerRequest {s : State} (hs : s.Served) (tag : Byte) (request : State → State × Status) :
    s.perform (State.requestFrame 9 tag fun u => u.noArgs [] (passedOn (request u))) =
      ((request (s.received 0)).1.placeReply
        { command := byte 9, tag := tag, status := (request (s.received 0)).2, data := [] }).finish := by
  obtain ⟨⟨hheld, -⟩, ⟨hreceives, hlow⟩, hslot⟩ := hs
  rw [State.perform_of_running _ hheld, State.requestFrame_served 9 tag _ hreceives hlow hslot]
  rfl

theorem State.perform_powerRequest_badLength {s : State} (hs : s.Served) (tag : Byte)
    (request : State → State × Status) {args : List Byte} (hargs : args ≠ []) :
    s.perform (State.requestFrame 9 tag fun u => u.noArgs args (passedOn (request u))) =
      (s.received 0).replied 9 tag .badLength [] := by
  obtain ⟨b, bs, rfl⟩ := List.exists_cons_of_ne_nil hargs
  exact State.perform_requestFrame hs 9 tag rfl rfl rfl rfl

theorem State.perform_powerRequest_refused {s : State} (hs : s.Served) (tag : Byte)
    {request : State → State × Status} (h : request (s.received 0) = (s.received 0, .refused)) :
    s.perform (State.requestFrame 9 tag fun u => u.noArgs [] (passedOn (request u))) =
      (s.received 0).replied 9 tag .refused [] :=
  State.perform_requestFrame hs 9 tag (congrArg passedOn h) rfl rfl rfl

theorem State.Served.isLive {s : State} (hs : s.Served) : (s.received 0).sys.isLive = true := by
  obtain ⟨-, ⟨hreceives, -⟩, -⟩ := hs
  exact (Bool.and_eq_true_iff.mp hreceives).1

/-- A request that puts the board in reset: the reply is discarded with the port (R133, R135). -/
theorem State.perform_powerRequest_dies {s : State} (hs : s.Served) (tag : Byte) {request : State → State × Status}
    {p : PowerSeq} (h : (s.received 0).LeadsTo (request (s.received 0)).1 p s.clockMs) (hp : p.resetAsserted = true) :
    ∃ t, (.next (s.perform (State.requestFrame 9 tag fun u => u.noArgs [] (passedOn (request u)))) : Answered) =
        .next t ∧ (s.received 0).SameOutsidePower t ∧ t.power = p ∧ t.sys.slot = .empty ∧ t.sys.isLive = false ∧
      t.heat = (request (s.received 0)).1.heat := by
  have hdead : (request (s.received 0)).1.sys.isLive = false := by
    rw [h.isLive, hp]
    simp
  obtain ⟨hleads, hslot, hlive⟩ := h.placeReply_dead hs.isLive hdead
    { command := byte 9, tag := tag, status := (request (s.received 0)).2, data := [] }
  obtain ⟨hsame, -, hpower⟩ := hleads.finish
  obtain ⟨hheat, -⟩ := State.finish_keeps_of_no_soft hleads.soft
  exact ⟨_, congrArg Host.Outcome.next (State.perform_powerRequest hs tag request), hsame, hpower, hslot, hlive,
    hheat.trans (by simp)⟩

/-! ## OFF (R67 to R69) -/

theorem State.requestOff_running {s : State} (h : s.power.state = .running) :
    s.requestOff = ((s.transition (toShutdown .off s.params.hostOffDelay) [(.hostOff, none)]).endIfNoGrace
      s.params.hostOffDelay, .ok) := by
  simp only [State.requestOff, h]

theorem State.requestOff_shutdown {s : State} (h : s.power.state = .shutdown) :
    s.requestOff = (s.endShutdown [(.hostOff, none)], .ok) := by
  simp only [State.requestOff, h]

theorem State.requestOff_refused {s : State} (hrun : s.power.state ≠ .running) (hdown : s.power.state ≠ .shutdown) :
    s.requestOff = (s, .refused) := by
  unfold State.requestOff
  split
  next h => exact absurd h hrun
  next h => exact absurd h hdown
  next => rfl

/-- The sequencer in SHUTDOWN, bound for OFF (R67, R69). -/
theorem State.toShutdown_power (s : State) :
    (s.transition (toShutdown .off s.params.hostOffDelay) [(.hostOff, none)]).power =
    { s.recorded .hostOff with
      state := .shutdown, phase := none, dest := some .off, boardPower := true
      timer := some { start := s.clockMs, dur := s.params.hostOffDelay * 1000 } } := by
  rw [State.transition_recorded]
  simp [PowerSeq.enter, PowerSeq.setOutputs, toShutdown, powerEnableIn, resetAssertedIn]

/-- OFF with a delay enters SHUTDOWN, and the port lives on (R68, R69, R133). -/
theorem State.requestOff_leads_later {s : State} (hs : s.Quiet) (hst : s.power.state = .running)
    (hreset : s.power.resetAsserted = false) (hlive : s.sys.isLive = true) (hdelay : s.params.hostOffDelay ≠ 0) :
    s.requestOff.2 = .ok ∧ s.LeadsTo s.requestOff.1
      { s.recorded .hostOff with
        state := .shutdown, phase := none, dest := some .off, boardPower := true
        timer := some { start := s.clockMs, dur := s.params.hostOffDelay * 1000 } } s.clockMs ∧
      s.requestOff.1.sys = s.sys ∧ s.requestOff.1.mgmt.replyEnded = false := by
  obtain ⟨hended, -⟩ := hs.atRest
  obtain ⟨same, -, clock, soft⟩ := State.transition_leads hs (toShutdown .off s.params.hostOffDelay) [(.hostOff, none)]
  have hpower := s.toShutdown_power
  have hstays : (s.transition (toShutdown .off s.params.hostOffDelay) [(.hostOff, none)]).sys.isLive = s.sys.isLive := by
    rw [State.transition_isLive, hpower, hlive, show (s.recorded .hostOff).resetAsserted = false from hreset]
    rfl
  rw [State.requestOff_running hst, State.endIfNoGrace, if_neg hdelay]
  exact ⟨rfl, ⟨same, hpower, clock, soft⟩, State.transition_sys_same _ _ s hstays,
    State.transition_replyEnded hended hstays⟩

/-- OFF with a delay of 0 passes through SHUTDOWN at once (R67 to R69). -/
theorem State.requestOff_leads_now {s : State} (hs : s.Quiet) (hst : s.power.state = .running)
    (hdelay : s.params.hostOffDelay = 0) :
    s.LeadsTo s.requestOff.1 ((s.recorded .hostOff).boardOff .off none) s.clockMs := by
  have hdown := s.toShutdown_power
  obtain ⟨same, -, clock, soft⟩ := State.transition_leads hs (toShutdown .off s.params.hostOffDelay) [(.hostOff, none)]
  have hoff : s.requestOff.1 =
      (s.transition (toShutdown .off s.params.hostOffDelay) [(.hostOff, none)]).transition toOff [] := by
    rw [State.requestOff_running hst]
    simp only [State.endIfNoGrace, if_pos hdelay, State.endShutdown, hdown]
  have hpower : s.requestOff.1.power = (s.recorded .hostOff).boardOff .off none := by
    rw [hoff, State.transition_power, hdown, PowerSeq.enter_boardOff (.inr (.inr rfl)) rfl rfl]
    rfl
  rw [hoff] at hpower ⊢
  have h := State.LeadsTo.transition ⟨same, hdown, clock, soft⟩ (State.transition_scanning _ _ hs.atRest.scanning)
    (t := toOff) [] (.inr ⟨congrArg PowerSeq.state hdown, hst, .inl (congrArg PowerSeq.state hpower),
      congrArg PowerSeq.boardPower hpower⟩) (congrArg PowerSeq.boardPower hdown)
    (fun h => by cases (congrArg PowerSeq.phase hdown).symm.trans h)
    (fun hlive hlive' => State.transition_sys_same _ _ s (hlive'.trans hlive.symm))
  exact ⟨h.same, hpower, h.clock, h.soft⟩

/-! ## RESTART and CYCLE (R63, R69, R71) -/

theorem State.requestPowerRestart_leads {s : State} (hs : s.Quiet) (hst : s.power.state = .running) :
    s.LeadsTo s.requestPowerRestart.1
      ((s.recorded .hostRestart).pulsing { start := s.clockMs, dur := s.params.resetPulse * 10 }) s.clockMs := by
  have hleads := State.transition_leads hs (toPulse s.params) [(.hostRestart, none)]
  rw [State.entered_one, PowerSeq.enter_pulse] at hleads
  rw [State.requestPowerRestart, if_pos hst]
  exact hleads

theorem State.requestCycle_leads {s : State} (hs : s.Quiet) (hst : s.power.state = .running) :
    s.requestCycle.1 = s.transition (toCycling s.params) [(.hostCycle, none)] ∧ s.LeadsTo s.requestCycle.1
      ((s.recorded .hostCycle).boardOff .cycling (some { start := s.clockMs, dur := s.params.offTime * 1000 }))
      s.clockMs := by
  have hleads := State.transition_leads hs (toCycling s.params) [(.hostCycle, none)]
  rw [State.entered_one, PowerSeq.enter_cycling] at hleads
  rw [State.requestCycle, if_pos hst]
  exact ⟨rfl, hleads⟩

/-- CYCLE releases the reserve, and the grants stay (R34, R55). -/
theorem State.transition_toCycling_heat {s : State} (hb : s.power.boardPower = true) (hr : s.heat.reserveHeld = true)
    (cs : List (Cause × Option SlotField)) : (s.transition (toCycling s.params) cs).heat =
      { s.heat with kept := .cycling, reserveHeld := false, reserve := 0 } := by
  have hreleases : s.power.releases (toCycling s.params) = true := by
    simp [PowerSeq.releases, hb, toCycling, powerEnableIn]
  rw [State.transition_heat, if_pos hreleases, Heat.reserveRelease, if_pos hr]
  rfl

end Sys2Proof.Machine

namespace Sys2Proof.Proofs

open Sys2Proof.Machine

/-- Settles O49: the state chooses, and the reply waits while the port lives and ends with it otherwise. -/
theorem powerRequestsActByState : Obligations.PowerRequestsActByState := by
  intro s tag hs hsoft u rec_
  have hq : u.Quiet := ⟨hs.1, hsoft⟩
  have refused {request : State → State × Status} (h : request u = (u, .refused)) :=
    congrArg (β := Answered) Host.Outcome.next (State.perform_powerRequest_refused hs tag h)
  have badLength (request : State → State × Status) {args : List Byte} (hargs : args ≠ []) :=
    congrArg (β := Answered) Host.Outcome.next (State.perform_powerRequest_badLength hs tag request hargs)
  refine ⟨fun hst hreset => ⟨fun hdelay => ?_, fun hdelay => ?_, ?_, ?_⟩, fun hst => ?_,
    fun hst => ⟨fun hdown => refused (State.requestOff_refused (s := u) hst hdown),
      refused (request := State.requestPowerRestart) (if_neg hst),
      refused (request := State.requestCycle) (if_neg hst)⟩,
    fun args hargs => ⟨badLength State.requestOff hargs, badLength State.requestPowerRestart hargs,
      badLength State.requestCycle hargs⟩⟩
  · obtain ⟨hok, hleads, hsys, hended⟩ := State.requestOff_leads_later (s := u) hq hst hreset hs.isLive hdelay
    obtain ⟨hplaced, hreply⟩ := hleads.placeReply_live ((congrArg SysPort.isLive hsys).trans hs.isLive) hended
      { command := byte 9, tag := tag, status := u.requestOff.2, data := [] }
    obtain ⟨hsame, -, hpower⟩ := hplaced.finish
    refine ⟨_, congrArg Host.Outcome.next (State.perform_powerRequest hs tag State.requestOff), hsame, hpower,
      hreply.trans ?_⟩
    rw [hsys, hok]
    rfl
  · obtain ⟨t, hexec, hsame, hpower, hslot, hlive, -⟩ := State.perform_powerRequest_dies hs tag
      (request := State.requestOff) (State.requestOff_leads_now (s := u) hq hst hdelay) rfl
    exact ⟨t, hexec, hsame, hpower, hslot, hlive⟩
  · obtain ⟨t, hexec, hsame, hpower, hslot, hlive, -⟩ := State.perform_powerRequest_dies hs tag
      (request := State.requestPowerRestart) (State.requestPowerRestart_leads (s := u) hq hst) rfl
    exact ⟨t, hexec, hsame, hpower, hslot, hlive⟩
  · obtain ⟨hcycle, hleads⟩ := State.requestCycle_leads (s := u) hq hst
    obtain ⟨t, hexec, hsame, hpower, hslot, hlive, hheat⟩ := State.perform_powerRequest_dies hs tag
      (request := State.requestCycle) hleads rfl
    refine ⟨t, hexec, hsame, hpower, hslot, hlive, fun hb hr => hheat.trans ?_⟩
    rw [hcycle]
    exact State.transition_toCycling_heat (s := u) hb hr _
  · have hoff := State.requestOff_shutdown (s := u) hst
    have hleads := State.endShutdown_leads (s := u) hq [(.hostOff, none)]
    obtain ⟨t, hexec, hsame, hpower, hslot, -⟩ := State.perform_powerRequest_dies hs tag
      (request := State.requestOff) (by rw [hoff]; exact hleads) rfl
    exact ⟨t, hexec, hsame, hpower, hslot⟩

end Sys2Proof.Proofs
end


section
/-! PROOF. The heartbeat timer's expiry (R65, R77, R85, R87). -/

namespace Sys2Proof.Machine

/-- The heartbeat timer's expiry in WATCHING is worked off at its moment (R85). -/
theorem exec_heartbeatTimerExpiry {s : State} {tm : Timer} (hs : s.Ready) (hstage : s.live.stage = .watching)
    (htimer : s.live.hbTimer = some tm) :
    exec .heartbeatTimerExpiry s = .next ((s.reach (tm.start + tm.dur)).heartbeatExpired tm).finish := by
  obtain ⟨hheld, -⟩ := hs
  show Host.Outcome.next (s.perform _) = _
  rw [State.perform_of_running _ hheld, if_pos hstage, htimer]
  rfl

/-- The board warned: WARNED, with the grace timer running and the notice posted (R85). -/
def State.boardWarned (tm : Timer) (s : State) : State :=
  { s with
    live :=
      { s.live with
        stage := .warned, hbTimer := none
        graceTimer := some { start := s.clockMs, dur := s.params.warnGrace * 1000 } }
    mgmt := s.mgmt.post (.watchdogWarn (tm.dur / 100) s.params.warnGrace s.live.early) }

/-- A grace that is not 0 waits for the grace timer (R85). -/
theorem State.heartbeatExpired_warns {s : State} (hgrace : s.params.warnGrace ≠ 0) (tm : Timer) :
    s.heartbeatExpired tm = s.boardWarned tm := if_neg hgrace

/-- A grace of 0 expires at once (R87). -/
theorem State.heartbeatExpired_graceless {s : State} (hgrace : s.params.warnGrace = 0) (tm : Timer) :
    s.heartbeatExpired tm = (s.boardWarned tm).graceExpired := if_pos hgrace

/-- A notice and the Liveness Monitor's stage and timers are among what the reports of a transition may touch (R55). -/
theorem State.SameOutsidePower.of_warning {s t : State} {l : Liveness} {c : NoticeContent}
    (hearly : l.early = s.live.early)
    (h : ({ s with live := l, mgmt := s.mgmt.post c } : State).SameOutsidePower t) : s.SameOutsidePower t := by
  rw [State.SameOutsidePower, ← hearly]
  exact h

/-- An automatic restart posts no notice (R65, R176). -/
theorem State.autoRestart_counter (c : Cause) (s : State) : (s.autoRestart c).mgmt.counter = s.mgmt.counter := by
  obtain ⟨l, t, cs, heq, -⟩ := s.autoRestart_transition c
  obtain ⟨-, hcounter, -⟩ := Mgmt.notices_eq_iff.mp
    (State.transition_notices t cs (s.onPower fun p => { p with restartList := l }))
  rw [heq, hcounter]
  rfl

/-- With a grace of 0 the expiry in RUNNING posts the notice and leads to the watchdog restart (R65, R85, R87). -/
theorem State.heartbeatExpired_leads {s : State} (hs : s.Quiet) (hgrace : s.params.warnGrace = 0)
    (hst : s.power.state = .running) (tm : Timer) :
    s.LeadsTo (s.heartbeatExpired tm) (s.power.afterRestart s.params s.clockMs s.boardHot .watchdog) s.clockMs ∧
      (s.heartbeatExpired tm).mgmt.counter = s.mgmt.counter + 1 := by
  rw [State.heartbeatExpired_graceless hgrace, State.graceExpired_eq (s := s.boardWarned tm) hst]
  obtain ⟨same, power, clock, soft⟩ := State.autoRestart_leads
    (s := (s.boardWarned tm).onLive fun l => { l with graceTimer := none }) hs .watchdog
  exact ⟨⟨.of_warning (s := s) rfl same, power, clock, soft⟩, State.autoRestart_counter ..⟩

end Sys2Proof.Machine

namespace Sys2Proof.Proofs

open Sys2Proof.Machine

/-- Settles O21: the grace decides whether the warned board is given time or restarted at once. -/
theorem heartbeatTimerExpiryWarns : Obligations.HeartbeatTimerExpiryWarns := by
  intro s tm hstage htimer now notice
  refine ⟨fun hs hgrace => ?_, fun hs hgrace hst => ?_⟩
  · have hrest : ((s.reach (tm.start + tm.dur)).boardWarned tm).AtRest := hs.2
    rw [exec_heartbeatTimerExpiry hs hstage htimer,
      State.heartbeatExpired_warns (s := s.reach (tm.start + tm.dur)) hgrace, hrest.finish]
    rfl
  · obtain ⟨hleads, hcounter⟩ :=
      State.heartbeatExpired_leads (s := s.reach (tm.start + tm.dur)) hs hgrace hst tm
    obtain ⟨hsame, hclock, hpower⟩ := hleads.finish
    obtain ⟨-, hcounter', -⟩ := Mgmt.notices_eq_iff.mp (State.finish_notices hleads.soft)
    exact ⟨_, exec_heartbeatTimerExpiry hs.1 hstage htimer, hsame, hclock, hcounter'.trans hcounter, hpower⟩

end Sys2Proof.Proofs
end

section
/-! PROOF. What a command's work outside the keypad scan does to the scanner and the matcher's slots: reports of power
states, events taken from the queue, and slots cleared (R55, R110, R115 to R119). -/

namespace Sys2Proof.Machine

/-! ## The slots that judge no press (R115, R116) -/

theorem SeqSlot.judgesIn_iff (e : SeqSlot) (st : PowerState) :
    e.JudgesIn st ↔ e.enabled = true ∧ e.allows st = true := by
  simp [SeqSlot.JudgesIn, SeqSlot.enabled, SeqSlot.allows, and_assoc]

theorem Matcher.judges_iff (m : Matcher) (e : SeqSlot) : m.judges e = true ↔ e.JudgesIn m.kept := by
  simp [Matcher.judges, SeqSlot.judgesIn_iff]

/-- Every slot that judges no press in the state kept is clear, by a Sequence Table. -/
def Matcher.SlotsRight (slots : Vector SeqSlot 4) (m : Matcher) : Prop :=
  ∀ n : Fin 4, ¬slots[n].JudgesIn m.kept → m.slots[n] = SlotProgress.clear

theorem State.slotsRight_iff (s : State) : s.SlotsRight ↔ s.matcher.SlotsRight s.tables.sequences := Iff.rfl

theorem Matcher.slotsRight_of_clear {m : Matcher} (h : ∀ n : Fin 4, m.slots[n] = SlotProgress.clear)
    (slots : Vector SeqSlot 4) : m.SlotsRight slots := fun n _ => h n

theorem Matcher.clearAll_slots (m : Matcher) (n : Fin 4) : m.clearAll.slots[n] = SlotProgress.clear := by
  simp [Matcher.clearAll]

namespace Matcher.SlotsRight

variable {slots : Vector SeqSlot 4} {m : Matcher}

/-- A change that leaves a slot as it was or clear, unless it judges presses. -/
theorem of_slots {l : Matcher} (h : m.SlotsRight slots) (hkept : l.kept = m.kept)
    (hslots : ∀ n : Fin 4, ¬slots[n].JudgesIn m.kept → l.slots[n] = m.slots[n] ∨ l.slots[n] = SlotProgress.clear) :
    l.SlotsRight slots := fun n hn => by
  rw [hkept] at hn
  exact (hslots n hn).elim (fun hsame => hsame.trans (h n hn)) id

/-- A report clears the slots that its state's presses do not reach (R116). -/
theorem onReport (h : m.SlotsRight slots) (st : PowerState) : (m.onReport slots st).SlotsRight slots := by
  intro n hn
  have hslot : (m.onReport slots st).slots[n] = if slots[n].allows st then m.slots[n] else SlotProgress.clear := by
    simp [Matcher.onReport]
  rw [hslot]
  split
  next hallows =>
    refine h n fun hjudges => hn ?_
    exact (SeqSlot.judgesIn_iff ..).mpr ⟨((SeqSlot.judgesIn_iff ..).mp hjudges).1, hallows⟩
  next => rfl

theorem takeReports (h : m.SlotsRight slots) : (m.takeReports slots).SlotsRight slots := by
  unfold Matcher.takeReports
  generalize hl : ({ m with deferred := [] } : Matcher) = l
  have h : l.SlotsRight slots := hl ▸ h
  clear hl
  induction m.deferred generalizing l with
  | nil => exact h
  | cons st sts ih => exact ih _ (h.onReport st)

theorem reportArrives (h : m.SlotsRight slots) (scanning : Bool) (st : PowerState) :
    (m.reportArrives scanning slots st).SlotsRight slots := by
  unfold Matcher.reportArrives
  split
  exacts [h, h.onReport st]

/-- A press cancels a slot in HOLDING and is judged where the slot judges (R117). -/
theorem press (h : m.SlotsRight slots) (timeout now : Nat) (k : Fin 64) :
    (m.press slots timeout now k).SlotsRight slots := by
  refine h.of_slots rfl fun n hn => ?_
  have hjudges : m.judges slots[n] = false := by rwa [← Bool.not_eq_true, Matcher.judges_iff]
  have hslot : (m.press slots timeout now k).slots[n] = m.slots[n].cancelHold := by
    simp [Matcher.press, Matcher.slotAfter, show m.judges slots[n.val] = false from hjudges]
  rw [hslot, SlotProgress.cancelHold]
  split
  exacts [.inr rfl, .inl rfl]

theorem leave (h : m.SlotsRight slots) (k : Fin 64) : (m.leave k).SlotsRight slots := by
  refine h.of_slots rfl fun n _ => ?_
  have hslot : (m.leave k).slots[n] = if m.slots[n].holding = some k then SlotProgress.clear else m.slots[n] := by
    simp [Matcher.leave]
  rw [hslot]
  split
  exacts [.inr rfl, .inl rfl]

/-- An expired step timer leaves no progress, so a clear slot stays clear (R119). -/
theorem stepExpired (h : m.SlotsRight slots) (n : Fin 4) : (m.stepExpired n).SlotsRight slots := by
  intro j hj
  have hclear : m.slots[j] = SlotProgress.clear := h j hj
  by_cases hjn : j = n
  · subst hjn
    simp [Matcher.stepExpired, hclear]
    rfl
  · have hval : n.val ≠ j.val := fun he => hjn (Fin.ext he.symm)
    simpa [Matcher.stepExpired, Vector.getElem_set_ne, hval] using hclear

/-- A slot stored starts afresh (R115). -/
theorem slotWritten (h : m.SlotsRight slots) (n : Fin 4) (e : SeqSlot) :
    (m.slotWritten n).SlotsRight (slots.set n.val e) := by
  intro j hj
  by_cases hjn : j = n
  · subst hjn
    simp [Matcher.slotWritten]
  · have hval : n.val ≠ j.val := fun he => hjn (Fin.ext he.symm)
    have hslot : (slots.set n.val e)[j] = slots[j] := by simp [Vector.getElem_set_ne, hval]
    rw [hslot] at hj
    simpa [Matcher.slotWritten, Vector.getElem_set_ne, hval] using h j hj

end Matcher.SlotsRight

/-! ## What reaches the scanner and the matcher from outside the scan -/

/-- An elementary change outside the scanner's own work: of the matcher, keeping its slots right, of the events that
wait and their loss counter, or a transition, whose report both take. -/
inductive State.Touch : State → State → Prop where
  | matcher {s t : State} (keypad : t.keypad = s.keypad) (slots : s.SlotsRight → t.SlotsRight) : Touch s t
  | events {s t : State} {q : List KeyEvent} {n : Nat} (empty : s.keypad.queue = [] → q = [])
      (keypad : t.keypad = { s.keypad with queue := q, lossCount := n })
      (slots : s.SlotsRight → t.SlotsRight) : Touch s t
  | transition (g : Target) (cs : List (Cause × Option SlotField)) (s : State) : Touch s (s.transition g cs)

/-- A run of such changes. -/
def State.Touches : State → State → Prop := Relation.ReflTransGen State.Touch

/-- What every change keeps, a run of changes keeps. -/
theorem State.Touches.keeps {P : State → Prop} {s t : State} (h : s.Touches t)
    (hP : ∀ {a b : State}, State.Touch a b → P a → P b) (hs : P s) : P t := by
  induction h with
  | refl => exact hs
  | tail _ m ih => exact hP m ih

theorem State.Touches.slotsRight {s t : State} (h : s.Touches t) : s.SlotsRight → t.SlotsRight := by
  refine h.keeps fun {a b} m ha => ?_
  cases m with
  | matcher _ slots => exact slots ha
  | events _ _ slots => exact slots ha
  | transition g cs =>
    rw [State.slotsRight_iff, a.transition_matcher, (State.transition_keeps ..).2.2.2.1]
    exact Matcher.SlotsRight.reportArrives ha _ _

/-- What a report and the taking of events keep of the scanner, a run of changes keeps. -/
theorem State.Touches.keypad {P : Keypad → Prop} {s t : State} (h : s.Touches t)
    (report : ∀ (k : Keypad) (st : PowerState), P k → P (k.onReport st))
    (events : ∀ (k : Keypad) (q : List KeyEvent) (n : Nat), (k.queue = [] → q = []) → P k →
      P { k with queue := q, lossCount := n }) (hs : P s.keypad) : P t.keypad := by
  refine h.keeps (P := fun s => P s.keypad) (fun {a b} m ha => ?_) hs
  cases m with
  | matcher keypad _ => exact keypad ▸ ha
  | events empty keypad _ => exact keypad ▸ events _ _ _ empty ha
  | transition g cs => exact a.transition_keypad g cs ▸ report _ _ ha

namespace State.Touches

variable {s₀ s t : State}

theorem refl (s : State) : s.Touches s := Relation.ReflTransGen.refl

section
variable (h : s₀.Touches s)
include h

theorem matcher (keypad : t.keypad = s.keypad) (slots : s.SlotsRight → t.SlotsRight) : s₀.Touches t :=
  .tail h (.matcher keypad slots)

/-- Work that leaves the scanner, the matcher and the Sequence Table. -/
theorem aside (hsame : t.keypad = s.keypad ∧ t.matcher = s.matcher ∧ t.tables.sequences = s.tables.sequences) :
    s₀.Touches t := by
  obtain ⟨hkeypad, hmatcher, hsequences⟩ := hsame
  refine h.matcher hkeypad fun hs => ?_
  rwa [State.slotsRight_iff, hmatcher, hsequences]

@[simp] theorem transition (g : Target) (cs : List (Cause × Option SlotField)) : s₀.Touches (s.transition g cs) :=
  .tail h (.transition g cs s)

@[simp] theorem onPower (f : PowerSeq → PowerSeq) : s₀.Touches (s.onPower f) := h.aside (by simp)

@[simp] theorem onLive (f : Liveness → Liveness) : s₀.Touches (s.onLive f) := h.aside (by simp)

@[simp] theorem post (c : NoticeContent) : s₀.Touches (s.post c) := h.aside (by simp)

@[simp] theorem beep (p : OneShot) : s₀.Touches (s.beep p) := h.aside (by simp)

@[simp] theorem choose (c : Nat) : s₀.Touches { s with choices := c } := h.aside (by simp)

/-- Matcher work of its own that keeps its slots right. -/
theorem onMatcher {f : Matcher → Matcher}
    (hf : s.matcher.SlotsRight s.tables.sequences → (f s.matcher).SlotsRight s.tables.sequences) :
    s₀.Touches (s.onMatcher f) := h.matcher rfl hf

/-! ## The sequencer -/

@[simp] theorem enterReserve (cs : List (Cause × Option SlotField)) : s₀.Touches (s.enterReserve cs) :=
  (h.transition toReserve cs).aside (by simp [State.enterReserve])

@[simp] theorem sequencerZones (z : PerZone ZoneReport) : s₀.Touches (s.sequencerZones z) := by
  unfold State.sequencerZones; split <;> simp [h]

@[simp] theorem preheatExpired : s₀.Touches s.preheatExpired := by
  unfold State.preheatExpired; dsimp only; split <;> simp [h]

@[simp] theorem settled : s₀.Touches s.settled := h.transition _ _

@[simp] theorem powerGoodSeen : s₀.Touches s.powerGoodSeen := by
  have hsettle := (h.onPower fun p => { p with pgSeen := true }).transition (toSettle s.params) []
  unfold State.powerGoodSeen
  dsimp only
  split
  exacts [hsettle.settled, hsettle]

@[simp] theorem reserveGranted : s₀.Touches s.reserveGranted := by
  unfold State.reserveGranted; dsimp only; (repeat' split) <;> simp [h]

@[simp] theorem firstHeartbeat : s₀.Touches s.firstHeartbeat := by
  unfold State.firstHeartbeat
  split
  · exact (h.transition toRunning []).aside (by simp)
  · exact h

@[simp] theorem autoRestart (c : Cause) : s₀.Touches (s.autoRestart c) := by
  unfold State.autoRestart
  dsimp only
  split
  · exact (h.onPower _).transition _ _
  · exact (h.onPower _).transition _ _

@[simp] theorem watchdogRequest : s₀.Touches s.watchdogRequest := by
  unfold State.watchdogRequest; split <;> simp [h]

@[simp] theorem bootTimedOut : s₀.Touches s.bootTimedOut := by
  unfold State.bootTimedOut; split <;> simp [h]

@[simp] theorem endShutdown (cs : List (Cause × Option SlotField)) : s₀.Touches (s.endShutdown cs) := by
  unfold State.endShutdown; split <;> simp [h]

@[simp] theorem endIfNoGrace (grace : Nat) : s₀.Touches (s.endIfNoGrace grace) := by
  unfold State.endIfNoGrace; split <;> simp [h]

@[simp] theorem thermalShutdown : s₀.Touches s.thermalShutdown := by
  unfold State.thermalShutdown
  split
  case h_1 => exact ((h.transition _ _).post _).endIfNoGrace _
  all_goals simp [h]

@[simp] theorem thermalResume : s₀.Touches s.thermalResume := by
  unfold State.thermalResume; split <;> simp [h]

@[simp] theorem requestOff : s₀.Touches s.requestOff.1 := by
  unfold State.requestOff; split <;> simp [h]

@[simp] theorem requestPowerRestart : s₀.Touches s.requestPowerRestart.1 := by
  unfold State.requestPowerRestart; split <;> simp [h]

@[simp] theorem requestCycle : s₀.Touches s.requestCycle.1 := by
  unfold State.requestCycle; split <;> simp [h]

@[simp] theorem carryOut (a : PanelAction) (slot : SlotField) : s₀.Touches (s.carryOut a slot) := by
  cases a
  case serviceRelease => exact (h.onPower _).transition _ _
  all_goals exact h.transition _ _

@[simp] theorem panelAction (a : PanelAction) (slot : Fin 4) : s₀.Touches (s.panelAction a slot) := by
  unfold State.panelAction; split <;> simp [h]

@[simp] theorem anyKeyPowerOn : s₀.Touches s.anyKeyPowerOn := by
  unfold State.anyKeyPowerOn; split <;> simp [h]

@[simp] theorem powerLost : s₀.Touches s.powerLost := by
  unfold State.powerLost; split <;> simp [h]

@[simp] theorem powerGoodLevel (high : Bool) : s₀.Touches (s.powerGoodLevel high) := by
  have hlevel := h.onPower fun p => { p with pgLevel := high }
  unfold State.powerGoodLevel
  dsimp only
  (repeat' split)
  exacts [hlevel.powerGoodSeen, hlevel.powerLost, hlevel]

/-! ## The Liveness Monitor -/

@[simp] theorem heartbeat : s₀.Touches s.heartbeat := by
  unfold State.heartbeat
  split
  case h_1 => exact (h.onLive _).firstHeartbeat
  case h_4 => split <;> exact h.aside (by simp)
  all_goals exact h.aside (by simp)

@[simp] theorem bootExpired : s₀.Touches s.bootExpired := (h.onLive _).bootTimedOut

@[simp] theorem graceExpired : s₀.Touches s.graceExpired := (h.onLive _).watchdogRequest

@[simp] theorem heartbeatExpired (tm : Timer) : s₀.Touches (s.heartbeatExpired tm) := by
  have hwarned := ((h.onLive fun l => { l with stage := .warned, hbTimer := none }).post
    (.watchdogWarn (tm.dur / 100) s.params.warnGrace s.live.early)).onLive
    fun l => { l with graceTimer := some (s.timer (s.params.warnGrace * 1000)) }
  unfold State.heartbeatExpired
  dsimp only
  split
  exacts [hwarned.graceExpired, hwarned]

/-! ## The cycle -/

omit h in
/-- A free choice is one of its two outcomes. -/
theorem oneOf {s₁ s₂ : State} (h₁ : s₀.Touches s₁) (h₂ : s₀.Touches s₂) : s₀.Touches (s.oneOf s₁ s₂) := by
  obtain hc | hc | hc := s.oneOf_cases s₁ s₂ <;> rw [hc]
  exacts [h₁, h₁.choose _, h₂.choose _]

@[simp] theorem sendRequests (before after : Thermal) : s₀.Touches (s.sendRequests before after) := by
  unfold State.sendRequests State.sendResume State.sendShutdown; (repeat' split) <;> simp [h]

@[simp] theorem sendHeatDim (before after : Thermal) : s₀.Touches (s.sendHeatDim before after) := h.aside (by simp)

@[simp] theorem sendRequestsAndDim (before after : Thermal) : s₀.Touches (s.sendRequestsAndDim before after) := by
  obtain ⟨c, hc | hc⟩ := s.sendRequestsAndDim_cases before after <;> rw [hc]
  exacts [((h.sendRequests _ _).sendHeatDim _ _).choose c, ((h.sendHeatDim _ _).sendRequests _ _).choose c]

@[simp] theorem thermalZones (z : PerZone ZoneReport) : s₀.Touches (s.thermalZones z) := by
  have hjudged := (h.aside (t := (s.onThermal fun _ => s.thermal.judge s.params z.board z.display).sendWarn s.thermal
    (s.thermal.judge s.params z.board z.display) z.board) (by simp)).sendRequestsAndDim s.thermal
    (s.thermal.judge s.params z.board z.display)
  exact hjudged.aside (by simp [State.thermalZones])

@[simp] theorem pathZones (z : PerZone ZoneReport) : s₀.Touches (s.pathZones z) := h.aside (by simp)

theorem zonesEvaluated (z : PerZone ZoneReport) : s₀.Touches (s.zonesEvaluated z) := by
  unfold State.zonesEvaluated eitherOrder
  split
  · exact oneOf (((h.pathZones z).sequencerZones z).thermalZones z) (((h.pathZones z).thermalZones z).sequencerZones z)
  · exact ((h.sequencerZones z).pathZones z).thermalZones z

theorem conversionDone (code : BitVec 12) : s₀.Touches (s.conversionDone code) := by
  unfold State.conversionDone
  split
  · exact h
  next ch _ =>
    have hconverted : s₀.Touches ((s.convert ch code).onMeas (Meas.advance ch)) := h.aside (by simp)
    dsimp only
    split
    · exact (hconverted.aside (t := State.evaluateZones _) (by simp)).zonesEvaluated _
    · exact hconverted

/-! ## The Sequence Matcher (R116 to R120) -/

@[simp] theorem fire (n : Fin 4) : s₀.Touches (s.fire n) := by
  have haccepted := (h.onMatcher (f := Matcher.clearAll) fun _ => Matcher.slotsRight_of_clear
    s.matcher.clearAll_slots _).beep .accept
  unfold State.fire State.deliver
  split <;> simp [haccepted]

@[simp] theorem judgePress (k : Fin 64) : s₀.Touches (s.judgePress k) := by
  have hjudged := h.onMatcher (f := Matcher.press s.tables.sequences s.params.stepTimeout s.clockMs k)
    fun hs => hs.press _ _ k
  simp only [State.judgePress]
  split
  · exact hjudged
  · exact hjudged.fire _

@[simp] theorem takeReports : s₀.Touches s.takeReports := h.onMatcher fun hs => hs.takeReports

@[simp] theorem matcherPress (k : Fin 64) : s₀.Touches (s.matcherPress k) := by
  obtain ⟨c, hc | hc⟩ := s.matcherPress_cases k <;> rw [hc]
  exacts [(h.takeReports.judgePress k).choose c, (h.judgePress k).choose c]

@[simp] theorem holdExpired (due : Nat) : s₀.Touches (s.holdExpired due) := by
  unfold State.holdExpired; split <;> simp [h]

@[simp] theorem anyKeyFirst (i : Fin 64) : s₀.Touches (s.anyKeyFirst i) := by
  have hon := h.anyKeyPowerOn
  simp only [State.anyKeyFirst]
  split
  exacts [hon.judgePress i, hon.takeReports.judgePress i]

/-- A press handed on is the matcher's, and perhaps the sequencer's (R106). -/
@[simp] theorem handOn (i : Fin 64) : s₀.Touches (s.handOn i) := by
  unfold State.handOn
  split
  · exact oneOf (h.matcherPress i).anyKeyPowerOn (h.anyKeyFirst i)
  · exact h.matcherPress i

end

end State.Touches

end Sys2Proof.Machine
end


section
/-! PROOF. Requests, frames, timers and the end of a step at the scanner and the matcher: every command but a scan. -/

namespace Sys2Proof.Machine

/-! ## The Sequence Table (R115, R172) -/

theorem Tables.setClass_sequences (c : Nat) (e : ClassEntry) (t : Tables) :
    (t.setClass c e).sequences = t.sequences := by
  unfold Tables.setClass; split <;> rfl

theorem State.setClass_sequences (args : List Byte) (s : State) :
    (s.setClass args).state.tables.sequences = s.tables.sequences := by
  unfold State.setClass
  repeat' split
  all_goals try rfl
  dsimp only
  split <;> exact Tables.setClass_sequences ..

theorem State.setKeymap_sequences (args : List Byte) (s : State) :
    (s.setKeymap args).state.tables.sequences = s.tables.sequences := by
  unfold State.setKeymap; (repeat' split) <;> rfl

theorem State.setZone_sequences (args : List Byte) (s : State) :
    (s.setZone args).state.tables.sequences = s.tables.sequences := by
  unfold State.setZone; (repeat' split) <;> rfl

theorem State.setChannel_sequences (args : List Byte) (s : State) :
    (s.setChannel args).state.tables.sequences = s.tables.sequences := by
  unfold State.setChannel; (repeat' split) <;> rfl

theorem State.setParameter_sequences (args : List Byte) (s : State) :
    (s.setParameter args).state.tables.sequences = s.tables.sequences := by
  unfold State.setParameter
  dsimp only
  (repeat' split) <;> simp

theorem State.setInject_sequences (args : List Byte) (s : State) :
    (s.setInject args).state.tables.sequences = s.tables.sequences := by
  unfold State.setInject; (repeat' split) <;> rfl

namespace State.Touches

variable {s₀ s t : State}

section
variable (h : s₀.Touches s)
include h

/-- What a list's elements keep in turn, the list keeps. -/
theorem foldl {α : Type} {f : State → α → State} (hf : ∀ (s : State) a, s₀.Touches s → s₀.Touches (f s a))
    (l : List α) : s₀.Touches (l.foldl f s) := by
  induction l generalizing s with
  | nil => exact h
  | cons a l ih => exact ih (hf s a h)

/-! ## The end of a step (R179) -/

theorem softReset : s₀.Touches s.softReset := by
  have hmatcher : s.softReset.matcher = s.matcher.clearAll := by simp [State.softReset, State.blocksSoftReset]
  refine .tail h (.events (q := s.keypad.queue) (n := 0) id ?_ fun _ => ?_)
  · simp [State.softReset, State.blocksSoftReset]
  · rw [State.slotsRight_iff, hmatcher]
    exact Matcher.slotsRight_of_clear s.matcher.clearAll_slots _

theorem finish : s₀.Touches s.finish := by
  have hended : s₀.Touches s.replyEndTaken := by
    unfold State.replyEndTaken
    split
    · exact (h.aside (by simp)).softReset
    · exact h.aside (by simp)
  unfold State.finish
  dsimp only
  split
  exacts [hended.aside (by simp), h.aside (by simp)]

theorem perform {work : State → State} (hw : ∀ s : State, s₀.Touches s → s₀.Touches (work s)) :
    s₀.Touches (s.perform work) := by
  unfold State.perform
  split
  exacts [h, (hw s h).finish]

/-! ## The requests -/

theorem setSequence (args : List Byte) : s₀.Touches (s.setSequence args).state := by
  unfold State.setSequence
  (repeat' split)
  · exact h
  next hi _ _ _ _ _ _ => exact h.matcher rfl fun hs => Matcher.SlotsRight.slotWritten hs ⟨_, hi⟩ _
  all_goals exact h

theorem setEntry (args : List Byte) : s₀.Touches (s.setEntry args).state := by
  unfold State.setEntry
  (repeat' split)
  exacts [h, h.aside (by simp [State.setClass_sequences]), h.aside (by simp [State.setKeymap_sequences]),
    h.setSequence _, h.aside (by simp [State.setZone_sequences]), h.aside (by simp [State.setChannel_sequences]),
    h.aside (by simp [State.setParameter_sequences]), h.aside (by simp [State.setInject_sequences]), h]

theorem noArgs {a : Answer} (ha : s₀.Touches a.state) (args : List Byte) : s₀.Touches (s.noArgs args a).state := by
  cases args
  exacts [ha, h]

theorem requestPower (args : List Byte) : s₀.Touches (s.requestPower args).state := by
  unfold State.requestPower
  (repeat' split)
  exacts [h, h.noArgs h.requestOff _, h.noArgs h.requestPowerRestart _, h.noArgs h.requestCycle _, h.noArgs h _]

theorem unlessCommitting {request : State → Answer} (hr : s₀.Touches (request s).state) :
    s₀.Touches (s.unlessCommitting request).state := by
  unfold State.unlessCommitting
  split
  exacts [h, hr]

theorem clearCounters (args : List Byte) : s₀.Touches (s.clearCounters args).state := by
  refine h.noArgs ?_ args
  exact .tail h (.events (q := s.keypad.queue) (n := 0) id (by simp [State.zeroCounters]) id)

theorem command (code : Nat) (args : List Byte) : s₀.Touches (s.command code args).state := by
  unfold State.command
  split
  case h_5 => exact h.unlessCommitting (h.setEntry args)
  case h_7 => exact h.clearCounters args
  case h_9 => exact h.requestPower args
  case h_12 | h_13 => exact h.unlessCommitting (h.aside (by simp))
  all_goals exact h.aside (by simp)

theorem serve {request : State → Answer} (hr : s₀.Touches (request s).state) (command tag : Byte) :
    s₀.Touches (s.serve command tag request) := by
  unfold State.serve
  split
  exacts [h.aside (by simp), hr.aside (by simp)]

theorem manage (payload : List Byte) : s₀.Touches (s.manage payload) := by
  unfold State.manage
  split
  exacts [h.serve h _ _, h.serve h _ _, h.serve (h.command _ _) _ _]

/-! ## Frames and characters (R129, R136, R140 to R148) -/

/-- Events that go out leave the queue (R136). -/
theorem beginSystemFrame : s₀.Touches s.beginSystemFrame := by
  unfold State.beginSystemFrame
  (repeat' split)
  · exact h
  next c _ =>
    cases c with
    | keys es =>
      exact .tail h (.events (q := s.keypad.queue.drop es.length) (n := s.keypad.lossCount)
        (fun hq => by simp [hq]) rfl id)
    | reply _ | notice _ | forwarded _ => exact h.aside (by simp [State.leaveSource])
  · exact h

theorem reservedFromBoard (f : Frame) : s₀.Touches (s.reservedFromBoard f) := by
  unfold State.reservedFromBoard
  split
  exacts [(h.aside (by simp)).manage _, (h.aside (by simp)).heartbeat, h.aside (by simp)]

theorem loadableFromBoard (f : Frame) : s₀.Touches (s.loadableFromBoard f) := by
  have hevents (e : ClassEntry) : s₀.Touches (s.boardSideEvents e) := by
    have hheard : s₀.Touches (if e.heartbeat then s.heartbeat else s) := by
      split
      exacts [h.heartbeat, h]
    unfold State.boardSideEvents
    dsimp only
    split
    exacts [hheard.aside (by simp), hheard]
  unfold State.loadableFromBoard
  (repeat' split)
  · exact h.aside (by simp)
  next e _ _ => exact (hevents e).aside (by simp)
  · exact h.aside (by simp)

theorem frameFromBoard (f : Frame) : s₀.Touches (s.frameFromBoard f) := by
  unfold State.frameFromBoard
  split
  exacts [h.reservedFromBoard f, h.loadableFromBoard f]

theorem boardFrame {route : State → State} (hr : ∀ s : State, s₀.Touches s → s₀.Touches (route s)) :
    s₀.Touches (s.boardFrame route) := by
  unfold State.boardFrame
  split
  exacts [hr _ (h.aside (by simp)), h]

theorem displayFrame {route : State → State} (hr : ∀ s : State, s₀.Touches s → s₀.Touches (route s)) :
    s₀.Touches (s.displayFrame route) := hr _ (h.aside (by simp))

theorem requestFrame {request : State → Answer} (hr : ∀ s : State, s₀.Touches s → s₀.Touches (request s).state)
    (code : Nat) (tag : Byte) : s₀.Touches (s.requestFrame code tag request) :=
  h.boardFrame fun _ hu => (hu.aside (by simp)).serve (hr _ (hu.aside (by simp))) _ _

theorem boardCharacter (data : Byte) (mark stop : Bool) : s₀.Touches (s.boardCharacter data mark stop) := by
  have hlow : s₀.Touches (s.judgeLow .system) := h.aside (by simp)
  have hjudged (rx : RxState) : s₀.Touches ((s.judgeLow .system).onSys fun p => { p with rx := rx }) :=
    hlow.aside (by simp)
  have hcounted (j : Judgement) := (hjudged j.rx).foldl (f := State.systemOutcome)
    (fun _ _ hu => hu.aside (by simp)) j.outcomes
  simp only [State.boardCharacter]
  split
  · split
    · exact hlow.aside (by simp)
    · simp only [State.boardJudgement]
      split
      exacts [(hcounted _).frameFromBoard _, hcounted _]
  · exact h

theorem character (port : Port) (data : Byte) (mark : Bool) (stop : StopBit) :
    s₀.Touches (s.character port data mark stop) := by
  cases stop with
  | returned => exact h.aside (by simp [State.character])
  | one | zero =>
    cases port
    exacts [h.boardCharacter _ _ _, h.aside (by simp [State.character, State.characterAt])]

/-! ## Timers -/

theorem onExpiry {work : Timer → State → State} (timer : Option Timer)
    (hw : ∀ t (s : State), s₀.Touches s → s₀.Touches (work t s)) : s₀.Touches (s.onExpiry timer work) := by
  unfold State.onExpiry
  split
  exacts [h, hw _ _ (h.aside (by simp))]

theorem onExpiryIn {work : State → State} (here : Bool) (timer : Option Timer)
    (hw : ∀ s : State, s₀.Touches s → s₀.Touches (work s)) : s₀.Touches (s.onExpiryIn here timer work) := by
  unfold State.onExpiryIn
  split
  exacts [h.onExpiry timer fun _ => hw, h]

end

end State.Touches

/-! ## Every command but a scan -/

/-- Outside a cold reset and a scan, a command's work reaches the scanner and the matcher only so. -/
theorem exec_touches {c : Instr} (hscan : ∀ reading, c ≠ .scan reading) (hreset : ∀ cause, c ≠ .coldReset cause)
    {s t : State} (hrelease : c = .coldResetRelease → s.held = false) (ht : exec c s = .next t) : s.Touches t := by
  have h := State.Touches.refl s
  have perform {work : State → State} (hw : ∀ u : State, s.Touches u → s.Touches (work u))
      (ht : (.next (s.perform work) : Answered) = .next t) : s.Touches t := by
    cases ht
    exact h.perform hw
  have request {code : Nat} {tag : Byte} {r : State → Answer}
      (hr : ∀ u : State, s.Touches u → s.Touches (r u).state)
      (ht : (.next (s.perform (State.requestFrame code tag r)) : Answered) = .next t) : s.Touches t :=
    perform (fun _ hu => hu.requestFrame hr code tag) ht
  cases c with
  | coldReset cause => exact absurd rfl (hreset cause)
  | scan reading => exact absurd rfl (hscan reading)
  | coldResetRelease =>
    cases ht
    rwa [if_neg (by simp [hrelease rfl])]
  | powerGoodChange high =>
    cases ht
    split
    exacts [h.onPower _, h.perform fun _ hu => hu.powerGoodLevel high]
  | hostReadyChange asserted => cases ht; exact h.aside (by simp)
  | cycleStart | heaterSlotStart | lineBreak _ | systemFrameSent | displayFrameSent | beeperSegmentEnd | oneShotEnd
  | backgroundPeriodStart | commitEnd _ | breakEnd => exact perform (fun _ hu => hu.aside (by simp)) ht
  | conversionComplete code => exact perform (fun _ hu => hu.conversionDone code) ht
  | reserveGranted => exact perform (fun _ hu => hu.reserveGranted) ht
  | systemTxBegin => exact perform (fun _ hu => hu.beginSystemFrame) ht
  | preheatLimitExpiry | powerGoodTimeout | settleExpiry | resetPulseExpiry | shutdownGraceExpiry | offTimeExpiry
  | bootTimeout | graceTimerExpiry =>
    exact perform (fun _ hu => hu.onExpiryIn _ _ fun _ hw => by simp [hw]) ht
  | waitLimitExpiry | startTimerExpiry | silenceTimerExpiry | recoveryOffTimeExpiry | idleTimerExpiry =>
    exact perform (fun _ hu => hu.onExpiryIn _ _ fun _ hw => hw.aside (by simp)) ht
  | stepTimerExpiry n =>
    exact perform (fun _ hu => hu.onExpiry _ fun _ _ hw => hw.onMatcher fun hs => hs.stepExpired n) ht
  | holdTimerExpiry n => exact perform (fun _ hu => hu.onExpiry _ fun _ _ hw => hw.holdExpired _) ht
  | heartbeatTimerExpiry =>
    refine perform (fun u hu => ?_) ht
    split
    exacts [hu.onExpiry _ fun tm _ hw => hw.heartbeatExpired tm, hu]
  | receiveCharacter port data mark stop => exact perform (fun _ hu => hu.character port data mark stop) ht
  | reservedFrame port cls payload =>
    cases port
    · exact perform (fun _ hu => hu.boardFrame fun _ hv => hv.reservedFromBoard _) ht
    · exact perform (fun _ hu => hu.displayFrame fun _ hv => hv.aside (by simp)) ht
  | loadableSystemFrame _ _ => exact perform (fun _ hu => hu.boardFrame fun _ hv => hv.loadableFromBoard _) ht
  | loadableDisplayFrame _ _ | displayManagementFrame _ =>
    exact perform (fun _ hu => hu.displayFrame fun _ hv => hv.aside (by simp)) ht
  | unknownCommand payload =>
    exact perform (fun _ hu => hu.boardFrame fun _ hv => (hv.aside (by simp)).manage payload) ht
  | setEntryClass _ _ =>
    exact request (fun _ hu => hu.unlessCommitting (hu.aside (by simp [State.setClass_sequences]))) ht
  | setEntryKeymap _ _ =>
    exact request (fun _ hu => hu.unlessCommitting (hu.aside (by simp [State.setKeymap_sequences]))) ht
  | setEntrySequence _ _ => exact request (fun _ hu => hu.unlessCommitting (hu.setSequence _)) ht
  | setEntryZone _ _ =>
    exact request (fun _ hu => hu.unlessCommitting (hu.aside (by simp [State.setZone_sequences]))) ht
  | setEntryChannel _ _ =>
    exact request (fun _ hu => hu.unlessCommitting (hu.aside (by simp [State.setChannel_sequences]))) ht
  | setEntryParameter _ _ =>
    exact request (fun _ hu => hu.unlessCommitting (hu.aside (by simp [State.setParameter_sequences]))) ht
  | setEntryInject _ _ =>
    exact request (fun _ hu => hu.unlessCommitting (hu.aside (by simp [State.setInject_sequences]))) ht
  | commitProfile _ _ | resetSupervisor _ _ =>
    exact request (fun _ hu => hu.unlessCommitting (hu.aside (by simp))) ht
  | clearCounters _ _ => exact request (fun _ hu => hu.clearCounters _) ht
  | requestPowerOff _ _ => exact request (fun _ hu => hu.noArgs hu.requestOff _) ht
  | requestPowerRestart _ _ => exact request (fun _ hu => hu.noArgs hu.requestPowerRestart _) ht
  | requestPowerCycle _ _ => exact request (fun _ hu => hu.noArgs hu.requestCycle _) ht
  | getStatus _ _ | getZones _ _ | getSamples _ _ | getEntry _ _ | getCounters _ _ | getLog _ _
  | requestDisplayDim _ _ | requestDisplayWake _ _ | requestDisplayRestart _ _ | forceSampleSet _ _ _
  | forceSampleRelease _ _ _ => exact request (fun _ hu => hu.aside (by simp)) ht

end Sys2Proof.Machine
end


section
/-! PROOF. The keypad's sets, change by change (R97 to R107, R110). -/

namespace Sys2Proof.Machine

/-! ## A key's record and the sets (R94, R97, R110) -/

theorem Keypad.onKey_key (i j : Fin 64) (f : KeyRec → KeyRec) (k : Keypad) :
    (k.onKey i f).keys[j] = if j = i then f k.keys[j] else k.keys[j] := by
  unfold Keypad.onKey
  split
  next h => subst h; simp
  next h => simp [Vector.getElem_set_ne, show i.val ≠ j.val from fun he => h (Fin.ext he.symm)]

theorem Keypad.onKey_self (i : Fin 64) (f : KeyRec → KeyRec) (k : Keypad) : (k.onKey i f).keys[i] = f k.keys[i] := by
  rw [Keypad.onKey_key, if_pos rfl]

/-- Debouncing changes the keys' records alone, and no key's state (R95). -/
theorem Keypad.debounceAll_rest (d : Nat) (reading : BitVec 64) (k : Keypad) :
    k.debounceAll d reading = { k with keys := (k.debounceAll d reading).keys } := by
  unfold Keypad.debounceAll; split <;> rfl

theorem Keypad.debounceAll_state (d : Nat) (reading : BitVec 64) (k : Keypad) (i : Fin 64) :
    (k.debounceAll d reading).keys[i].state = k.keys[i].state := by
  unfold Keypad.debounceAll; split <;> simp [KeyRec.debounce]

theorem mem_joinSet (i j : Fin 64) (l : List (Fin 64)) : j ∈ joinSet i l ↔ j ∈ l ∨ j = i := by
  unfold joinSet
  split
  next hi => exact ⟨.inl, fun h => h.elim id (· ▸ hi)⟩
  next => simp

/-- A flush suppresses the keys physically down (R110). -/
theorem Keypad.mem_flush_suppressed (k : Keypad) (i : Fin 64) :
    i ∈ k.flush.suppressed ↔ i ∈ k.suppressed ∨ k.keys[i].state.physicallyDown = true := by
  have hfold (js l : List (Fin 64)) : i ∈ js.foldl (fun l j => joinSet j l) l ↔ i ∈ l ∨ i ∈ js := by
    induction js generalizing l with
    | nil => simp
    | cons j js ih => rw [List.foldl_cons, ih, mem_joinSet, List.mem_cons, or_assoc]
  simp [Keypad.flush, hfold, allKeys]

/-! ## The sets (R99, R100, R103 to R107, R110) -/

/-- A key whose press is being processed is DOWN and in neither set (R97, R98). -/
structure Keypad.Pressed (i : Fin 64) (k : Keypad) : Prop where
  down : k.keys[i].state = .down
  unreported : i ∉ k.reportedDown
  unsuppressed : i ∉ k.suppressed

/-- What processing a press does at the scanner itself: nothing, or the key joins one of the two sets (R103, R104). -/
inductive Keypad.Decides (i : Fin 64) (k : Keypad) : Keypad → Prop where
  | nothing : Decides i k k
  | queued (e : KeyEntry) (delay : Nat) : Decides i k (k.queuePress i e delay)
  | dropped : Decides i k (k.dropPress i)
  | swallowed : Decides i k (k.suppress i)

/-- A decision changes at most the code that the key's events carry. -/
theorem Keypad.Decides.key {i : Fin 64} {k l : Keypad} (h : k.Decides i l) (j : Fin 64) :
    l.keys[j] = { k.keys[j] with code := l.keys[j].code } := by
  cases h with
  | queued e delay =>
    have hkey : (k.queuePress i e delay).keys[j] = _ := k.onKey_key i j fun r => { r with code := e.code }
    rw [hkey]
    split <;> rfl
  | nothing | dropped | swallowed => rfl

theorem Keypad.notMem_unsuppress (i : Fin 64) (k : Keypad) : i ∉ (k.unsuppress i).suppressed := by
  simp [Keypad.unsuppress]

namespace Keypad.SetsRight

variable {k : Keypad} (h : k.SetsRight)
include h

theorem takeReport (st : PowerState) : (k.takeReport st).SetsRight := by
  obtain ⟨hreported, hsuppressed, htypematic⟩ := h
  unfold Keypad.takeReport
  split
  · exact ⟨nofun, fun i hi => ((k.mem_flush_suppressed i).mp hi).elim (hsuppressed i) id, nofun⟩
  · exact ⟨hreported, hsuppressed, htypematic⟩

theorem onReport (st : PowerState) : (k.onReport st).SetsRight := by
  unfold Keypad.onReport
  split
  exacts [h, h.takeReport st]

theorem endScan : k.endScan.SetsRight := by
  unfold Keypad.endScan
  generalize hl : ({ k with scanning := false, deferred := [], scans := k.scans + 1 } : Keypad) = l
  have h : l.SetsRight := hl ▸ h
  clear hl
  induction k.deferred generalizing l with
  | nil => exact h
  | cons st sts ih => exact ih _ (h.takeReport st)

/-- Reports and the sending of events. -/
theorem touches {s t : State} (hs : s.keypad = k) (ht : s.Touches t) : t.keypad.SetsRight :=
  ht.keypad (fun _ st h => onReport h st) (fun _ _ _ _ h => h) (hs ▸ h)

theorem debounceAll (d : Nat) (reading : BitVec 64) : (k.debounceAll d reading).SetsRight := by
  obtain ⟨hreported, hsuppressed, htypematic⟩ := h
  rw [Keypad.debounceAll_rest]
  refine ⟨fun i hi => ?_, fun i hi => ?_, htypematic⟩
  · exact ⟨(k.debounceAll_state d reading i).trans (hreported i hi).1, (hreported i hi).2⟩
  · exact (congrArg _ (k.debounceAll_state d reading i)).trans (hsuppressed i hi)

/-- A key's record changes as the sets it is in allow. -/
theorem onKey {i : Fin 64} {f : KeyRec → KeyRec} (hdown : i ∈ k.reportedDown → (f k.keys[i]).state = .down)
    (hphys : i ∈ k.suppressed → (f k.keys[i]).state.physicallyDown = true) : (k.onKey i f).SetsRight := by
  obtain ⟨hreported, hsuppressed, htypematic⟩ := h
  refine ⟨fun j hj => ⟨?_, (hreported j hj).2⟩, fun j hj => ?_, htypematic⟩ <;> rw [Keypad.onKey_key] <;> split
  next hji => subst hji; exact hdown hj
  next => exact (hreported j hj).1
  next hji => subst hji; exact hphys hj
  next => exact hsuppressed j hj

theorem unsuppress (i : Fin 64) : (k.unsuppress i).SetsRight := by
  obtain ⟨hreported, hsuppressed, htypematic⟩ := h
  exact ⟨fun j hj => ⟨(hreported j hj).1, fun hs => (hreported j hj).2 (List.mem_filter.mp hs).1⟩,
    fun j hj => hsuppressed j (List.mem_filter.mp hj).1, htypematic⟩

/-- The typematic key is none or another's. -/
theorem stopRepeat (i : Fin 64) : (k.stopRepeat i).SetsRight := by
  obtain ⟨hreported, hsuppressed, htypematic⟩ := h
  refine ⟨hreported, hsuppressed, fun x hx => ?_⟩
  simp only [Keypad.stopRepeat] at hx
  split at hx
  · cases hx
  · exact htypematic x hx

/-- A key is reported no longer, and repeats no longer (R99, R105). -/
theorem unreport (i : Fin 64) (q : List KeyEvent) :
    ({ k.stopRepeat i with queue := q, reportedDown := k.reportedDown.filter (· ≠ i) } : Keypad).SetsRight := by
  obtain ⟨hreported, hsuppressed, htypematic⟩ := h
  refine ⟨fun j hj => hreported j (List.mem_filter.mp hj).1, hsuppressed, fun x hx => ?_⟩
  simp only [Keypad.stopRepeat] at hx
  split at hx
  · cases hx
  next hne =>
    have hxi : x.1 ≠ i := fun hxi => hne (by rw [show k.typematic = some x from hx, ← hxi]; rfl)
    exact List.mem_filter.mpr ⟨htypematic x hx, decide_eq_true hxi⟩

theorem notMem_reported {i : Fin 64} (hi : k.keys[i].state ≠ .down) : i ∉ k.reportedDown :=
  fun hr => hi (h.1 i hr).1

theorem notMem_suppressed {i : Fin 64} (hi : k.keys[i].state = .up) : i ∉ k.suppressed :=
  fun hs => by cases (congrArg KeyState.physicallyDown hi).symm.trans (h.2.1 i hs)

/-- A key becomes DOWN (R97, R98). -/
theorem enterDown {i : Fin 64} (hi : k.keys[i].state ≠ .down) (hs : i ∉ k.suppressed) :
    (k.enterDown i).SetsRight ∧ (k.enterDown i).Pressed i := by
  have hr := h.notMem_reported hi
  exact ⟨h.onKey (fun hin => absurd hin hr) fun hin => absurd hin hs,
    by rw [Keypad.enterDown, Keypad.onKey_self], hr, hs⟩

/-- A press decided (R103, R104, R107). -/
theorem decides {i : Fin 64} {l : Keypad} (hi : k.Pressed i) (hl : k.Decides i l) : l.SetsRight := by
  obtain ⟨hdown, hr, hs⟩ := hi
  have suppressed : (k.suppress i).SetsRight := by
    obtain ⟨hreported, hsuppressed, htypematic⟩ := h
    refine ⟨fun j hj => ⟨(hreported j hj).1, fun hjs => ?_⟩, fun j hj => ?_, htypematic⟩
    · exact ((mem_joinSet i j _).mp hjs).elim (hreported j hj).2 fun hji => hr (hji ▸ hj)
    · exact ((mem_joinSet i j _).mp hj).elim (hsuppressed j) fun hji => hji ▸ congrArg KeyState.physicallyDown hdown
  cases hl with
  | nothing => exact h
  | dropped | swallowed => exact suppressed
  | queued e delay =>
    have hcoded := h.onKey (i := i) (f := fun r => { r with code := e.code }) (fun _ => hdown) fun hin => absurd hin hs
    obtain ⟨hreported, hsuppressed, -⟩ := hcoded
    refine ⟨fun j hj => ?_, hsuppressed, fun x hx => (mem_joinSet ..).mpr (.inr ?_)⟩
    · obtain hj | rfl := (mem_joinSet ..).mp hj
      · exact hreported j hj
      · exact ⟨(congrArg KeyRec.state ((Decides.queued (i := j) e delay).key j)).trans hdown, hs⟩
    · simp only [Keypad.queuePress] at hx
      split at hx
      · cases hx; rfl
      · cases hx

omit h in
theorem raise {i : Fin 64} (h : k.SetsRight) (hr : i ∉ k.reportedDown) (hs : i ∉ k.suppressed) :
    (k.onKey i fun r => { r with state := .up }).SetsRight :=
  h.onKey (fun hin => absurd hin hr) fun hin => absurd hin hs

/-- A DOWN key is released (R100, R105). -/
theorem handleRelease (i : Fin 64) :
    ((k.onKey i fun r => { r with state := .up }).handleRelease i .release).SetsRight := by
  unfold Keypad.handleRelease
  split
  next hs => exact (h.unsuppress i).raise (fun hr => (h.1 i hr).2 hs) (k.notMem_unsuppress i)
  next hs =>
    split
    next => exact (h.unreport i _).raise (by simp) hs
    next hr => exact h.raise hr hs

/-- A BLOCKED or STUCK key is released (R100). -/
theorem raiseOther {i : Fin 64} (hi : k.keys[i].state ≠ .down) :
    ((k.onKey i fun r => { r with state := .up }).unsuppress i).SetsRight :=
  (h.unsuppress i).raise (h.notMem_reported hi) (k.notMem_unsuppress i)

/-- A key becomes STUCK (R99). -/
theorem stick (i : Fin 64) : (k.stick i).SetsRight := by
  have hstuck (l : Keypad) (hl : l.SetsRight) (hr : i ∉ l.reportedDown) :
      (l.onKey i fun r => { r with state := .stuck }).SetsRight :=
    hl.onKey (fun hin => absurd hin hr) fun _ => rfl
  unfold Keypad.stick
  refine stopRepeat ?_ i
  split
  next => exact hstuck _ (h.unreport i _) (by simp)
  next hr => exact hstuck k h hr

/-- The repeating key stays the same one (R107). -/
theorem repeatStep (period : Nat) : (k.repeatStep period).SetsRight := by
  unfold Keypad.repeatStep
  split
  · exact h
  next i due ht =>
    split
    · obtain ⟨hreported, hsuppressed, htypematic⟩ := h
      refine ⟨hreported, hsuppressed, fun x hx => ?_⟩
      cases hx
      exact htypematic (i, due) ht
    · exact h

end Keypad.SetsRight

end Sys2Proof.Machine
end


section
/-! PROOF. A scan keeps the keypad's sets and the matcher's slots right, as every step does (R96 to R107, R110, R115 to
R118). -/

namespace Sys2Proof.Machine

/-! ## A press processed (R102 to R104, R106) -/

theorem State.decidePress_decides (i : Fin 64) (e : KeyEntry) (s : State) :
    s.keypad.Decides i (s.decidePress i e).keypad := by
  unfold State.decidePress
  (repeat' split)
  · exact .queued e _
  · simpa using Keypad.Decides.dropped
  · exact .nothing

section
variable {i : Fin 64} {s : State}

/-- A NORMAL press is offered to the display path first (R103). -/
theorem State.processPress_normal (h : s.tables.keymap[i].kind = .normal) : s.processPress i =
    if s.keyOffer.2 then s.keyOffer.1.onKeypad (Keypad.suppress i)
    else s.keyOffer.1.passedPress i s.tables.keymap[i] := by
  simp only [State.processPress, h]

/-- A SERVICE press is the matcher's alone (R102). -/
theorem State.processPress_service (h : s.tables.keymap[i].kind = .service) :
    s.processPress i = (s.clickFor s.tables.keymap[i]).matcherPress i := by
  simp only [State.processPress, h]

theorem State.processPress_disabled (h : s.tables.keymap[i].kind = .disabled) : s.processPress i = s := by
  simp only [State.processPress, h]

end

/-- A processed press is decided at the scanner, and what follows reaches it as reports alone. -/
theorem State.processPress_cases (i : Fin 64) (s : State) :
    ∃ u : State, s.keypad.Decides i u.keypad ∧ u.matcher = s.matcher ∧ u.tables = s.tables ∧
      u.Touches (s.processPress i) := by
  cases hkind : s.tables.keymap[i].kind with
  | normal =>
    rw [State.processPress_normal hkind]
    split
    · exact ⟨_, by simpa using Keypad.Decides.swallowed, by simp, by simp, .refl _⟩
    · have hdecides := s.keyOffer.1.decidePress_decides i s.tables.keymap[i]
      exact ⟨_, by simpa using hdecides, by simp, by simp, (State.Touches.refl _).handOn i⟩
  | service =>
    rw [State.processPress_service hkind]
    exact ⟨_, by simpa using Keypad.Decides.nothing, by simp, by simp, (State.Touches.refl _).matcherPress i⟩
  | disabled =>
    rw [State.processPress_disabled hkind]
    exact ⟨s, .nothing, rfl, rfl, .refl s⟩

/-! ## The changes of one key -/

/-- What a release does at the scanner (R100). -/
theorem State.applyRelease_keypad (s : State) (i : Fin 64) :
    let up := s.keypad.onKey i fun r => { r with state := .up }
    (s.applyRelease i).keypad =
      if s.keypad.keys[i].state = .down then up.handleRelease i .release else up.unsuppress i := by
  unfold State.applyRelease
  dsimp only
  split <;> rfl

/-- What the stuck check does at the scanner (R99). -/
theorem State.stuckCheck_keypad (s : State) (i : Fin 64) : (s.stuckCheck i).keypad =
    if s.keypad.becomesStuck s.params.stuckTime i then s.keypad.stick i else s.keypad := by
  unfold State.stuckCheck State.stuckNotice
  (repeat' split) <;> simp

/-- A scan's work on the keys: their changes and the stuck check (R96). -/
def State.keysScanned (reading : BitVec 64) (s : State) : State :=
  allKeys.foldl State.stuckCheck ((s.keypad.presses s.params.debounce reading).foldl State.applyPress
    ((s.onKeypad fun k => (k.debounceAll s.params.debounce reading).beginScan).scanReleases
      (s.keypad.releases s.params.debounce reading)))

/-- A scan is its work on the keys, then the repeat, and the reports that waited (R96, R107). -/
theorem State.scan_eq (reading : BitVec 64) (s : State) : s.scan reading =
    ((((s.reach s.keypad.nowMs).keysScanned reading).onKeypad
      (Keypad.repeatStep s.params.repeatPeriod)).onKeypad Keypad.endScan).takeReports := rfl

/-- What a scan's work on the keys is followed by at one key: the scanner's own marks, and the key's debounce count and
condition. -/
structure KeyMark where
  scans : Nat
  scanning : Bool
  kept : PowerState
  count : Nat
  down : Bool

/-- The marks of a scanner at one key. -/
def Keypad.mark (j : Fin 64) (k : Keypad) : KeyMark :=
  { scans := k.scans, scanning := k.scanning, kept := k.kept, count := k.keys[j].count
    down := k.keys[j].state.physicallyDown }

/-- A change of one key's record moves at most that key's condition. -/
theorem Keypad.onKey_mark {i : Fin 64} {f : KeyRec → KeyRec} {k : Keypad}
    (hcount : (f k.keys[i]).count = k.keys[i].count) (j : Fin 64) : (k.onKey i f).mark j =
      { k.mark j with down := if j = i then (f k.keys[i]).state.physicallyDown else (k.mark j).down } := by
  unfold Keypad.mark
  rw [Keypad.onKey_key]
  split
  next hji => subst hji; rw [hcount]; rfl
  next => rfl

theorem Keypad.Decides.mark {i : Fin 64} {k l : Keypad} (h : k.Decides i l) (j : Fin 64) : l.mark j = k.mark j := by
  unfold Keypad.mark
  rw [h.key j]
  cases h <;> rfl

/-- Reports wait for a scan's end, so nothing from outside moves a mark in it (R96). -/
theorem State.Touches.mark {s t : State} (h : s.Touches t) (hscan : s.keypad.scanning = true) (j : Fin 64) :
    t.keypad.mark j = s.keypad.mark j := by
  refine (h.keypad (P := fun k => k.scanning = true ∧ k.mark j = s.keypad.mark j) (fun k st hk => ?_)
    (fun _ _ _ _ hk => hk) ⟨hscan, rfl⟩).2
  unfold Keypad.onReport
  rw [if_pos hk.1]
  exact hk

section
variable {s : State}

theorem State.applyRelease_mark (i j : Fin 64) : (s.applyRelease i).keypad.mark j =
    { s.keypad.mark j with down := if j = i then false else (s.keypad.mark j).down } := by
  have hup := Keypad.onKey_mark (k := s.keypad) (i := i) (f := fun r => { r with state := .up }) rfl j
  refine Eq.trans ?_ hup
  rw [State.applyRelease_keypad]
  unfold Keypad.handleRelease
  (repeat' split) <;> rfl

theorem State.processPress_mark (hscan : s.keypad.scanning = true) (i j : Fin 64) :
    (s.processPress i).keypad.mark j = s.keypad.mark j := by
  obtain ⟨u, hdecides, -, -, htouches⟩ := s.processPress_cases i
  have hmark := hdecides.mark j
  exact (htouches.mark ((congrArg KeyMark.scanning hmark).trans hscan) j).trans hmark

theorem State.reexamine_mark (hscan : s.keypad.scanning = true) (i j : Fin 64) :
    (s.reexamine i).keypad.mark j = s.keypad.mark j := by
  unfold State.reexamine
  split
  next hi =>
    have hdown := Keypad.onKey_mark (k := s.keypad) (i := i)
      (f := fun r => { r with state := .down, entry := s.keypad.nowMs }) rfl j
    refine (State.processPress_mark (s := s.onKeypad fun k => (k.enterDown i).unsuppress i) hscan i j).trans
      (hdown.trans ?_)
    split
    next hji => subst hji; simp only [Keypad.mark, hi.1]; rfl
    next => rfl
  next => rfl

theorem State.applyPress_mark (hscan : s.keypad.scanning = true) (i j : Fin 64) : (s.applyPress i).keypad.mark j =
    { s.keypad.mark j with down := if j = i then true else (s.keypad.mark j).down } := by
  unfold State.applyPress
  split
  · simp only [State.report_keeps, State.onKeypad_keypad]
    exact Keypad.onKey_mark rfl j
  · refine (State.processPress_mark (s := s.onKeypad (Keypad.enterDown i)) hscan i j).trans ?_
    exact Keypad.onKey_mark (f := fun r => { r with state := .down, entry := s.keypad.nowMs }) rfl j

theorem State.stuckCheck_mark (i j : Fin 64) : (s.stuckCheck i).keypad.mark j = s.keypad.mark j := by
  rw [State.stuckCheck_keypad]
  split
  next hi =>
    have hdown : s.keypad.keys[i].state = .down := by
      simp only [Keypad.becomesStuck, Bool.and_eq_true, decide_eq_true_eq] at hi
      exact hi.1.2
    have hstuck : (s.keypad.stick i).mark j = (s.keypad.onKey i fun r => { r with state := .stuck }).mark j := by
      unfold Keypad.stick
      dsimp only
      split <;> rfl
    refine hstuck.trans ((Keypad.onKey_mark rfl j).trans ?_)
    split
    next hji => subst hji; simp only [Keypad.mark, hdown]; rfl
    next => rfl
  next => rfl

/-- Where each step of a fold turns the condition of its own key alone, the fold turns its keys'. -/
theorem State.foldl_mark {f : State → Fin 64 → State} (b : Bool) (j : Fin 64)
    (hf : ∀ {s : State}, s.keypad.scanning = true → ∀ i, (f s i).keypad.mark j =
      { s.keypad.mark j with down := if j = i then b else (s.keypad.mark j).down })
    (hscan : s.keypad.scanning = true) (l : List (Fin 64)) : (l.foldl f s).keypad.mark j =
      { s.keypad.mark j with down := if j ∈ l then b else (s.keypad.mark j).down } := by
  induction l generalizing s with
  | nil => simp
  | cons i l ih =>
    rw [List.foldl_cons, ih ((congrArg KeyMark.scanning (hf hscan i)).trans hscan), hf hscan i]
    by_cases hji : j = i <;> by_cases hjl : j ∈ l <;> simp [hji, hjl]

/-- Where each step of a fold leaves the marks, the fold leaves them. -/
theorem State.foldl_mark_same {f : State → Fin 64 → State} (j : Fin 64)
    (hf : ∀ {s : State}, s.keypad.scanning = true → ∀ i, (f s i).keypad.mark j = s.keypad.mark j)
    (hscan : s.keypad.scanning = true) (l : List (Fin 64)) : (l.foldl f s).keypad.mark j = s.keypad.mark j := by
  induction l generalizing s with
  | nil => rfl
  | cons i l ih => rw [List.foldl_cons, ih ((congrArg KeyMark.scanning (hf hscan i)).trans hscan), hf hscan i]

theorem State.scanReleases_mark (hscan : s.keypad.scanning = true) (releases : List (Fin 64)) (j : Fin 64) :
    (s.scanReleases releases).keypad.mark j =
      { s.keypad.mark j with down := if j ∈ releases then false else (s.keypad.mark j).down } := by
  have hup := State.foldl_mark false j (fun _ i => State.applyRelease_mark i j) hscan releases
  unfold State.scanReleases
  dsimp only
  split
  · exact hup
  · rw [State.foldl_mark_same j (fun h i => State.reexamine_mark h i j)
      ((congrArg KeyMark.scanning hup).trans hscan), hup]

end

/-- A scan's work on the keys leaves the scanner's own marks but that it is in a scan; a key's count is as debounced,
and its condition changes as it is released or pressed (R95, R96). -/
theorem State.keysScanned_mark (reading : BitVec 64) (s : State) (j : Fin 64) :
    (s.keysScanned reading).keypad.mark j =
      { scans := s.keypad.scans, scanning := true, kept := s.keypad.kept
        count := (s.keypad.debounceAll s.params.debounce reading).keys[j].count
        down :=
          if j ∈ s.keypad.presses s.params.debounce reading then true
          else if j ∈ s.keypad.releases s.params.debounce reading then false
          else s.keypad.keys[j].state.physicallyDown } := by
  have hbegun : ((s.keypad.debounceAll s.params.debounce reading).beginScan).mark j =
      { scans := s.keypad.scans, scanning := true, kept := s.keypad.kept
        count := (s.keypad.debounceAll s.params.debounce reading).keys[j].count
        down := s.keypad.keys[j].state.physicallyDown } := by
    rw [← s.keypad.debounceAll_state s.params.debounce reading j, Keypad.debounceAll_rest]
    rfl
  have hreleased := (State.scanReleases_mark
    (s := s.onKeypad fun k => (k.debounceAll s.params.debounce reading).beginScan) rfl
    (s.keypad.releases s.params.debounce reading) j).trans (by rw [State.onKeypad_keypad, hbegun])
  have hpressed := (State.foldl_mark true j (fun h i => State.applyPress_mark h i j)
    (congrArg KeyMark.scanning hreleased) (s.keypad.presses s.params.debounce reading)).trans (by rw [hreleased])
  exact (State.foldl_mark_same j (fun _ i => State.stuckCheck_mark i j)
    (congrArg KeyMark.scanning hpressed) allKeys).trans hpressed

/-! ## The sets (R97 to R107) -/

section
variable {s : State}

theorem State.applyRelease_setsRight (h : s.keypad.SetsRight) (i : Fin 64) : (s.applyRelease i).keypad.SetsRight := by
  rw [State.applyRelease_keypad]
  split
  next => exact h.handleRelease i
  next hi => exact h.raiseOther hi

theorem State.processPress_setsRight {i : Fin 64} (h : s.keypad.SetsRight) (hi : s.keypad.Pressed i) :
    (s.processPress i).keypad.SetsRight := by
  obtain ⟨u, hdecides, -, -, htouches⟩ := s.processPress_cases i
  exact (h.decides hi hdecides).touches rfl htouches

theorem State.reexamine_setsRight (h : s.keypad.SetsRight) (i : Fin 64) : (s.reexamine i).keypad.SetsRight := by
  unfold State.reexamine
  split
  next hi =>
    have hblocked : (s.keypad.unsuppress i).keys[i].state ≠ .down := fun hd => by cases hi.1.symm.trans hd
    obtain ⟨hsets, hpressed⟩ := (h.unsuppress i).enterDown hblocked (s.keypad.notMem_unsuppress i)
    exact State.processPress_setsRight (s := s.onKeypad _) hsets hpressed
  next => exact h

theorem State.applyPress_setsRight {i : Fin 64} (h : s.keypad.SetsRight) (hi : s.keypad.keys[i].state = .up) :
    (s.applyPress i).keypad.SetsRight := by
  have hdown : s.keypad.keys[i].state ≠ .down := fun hd => by cases hi.symm.trans hd
  unfold State.applyPress
  split
  · simp only [State.report_keeps, State.onKeypad_keypad]
    exact h.onKey (fun hin => absurd hin (h.notMem_reported hdown)) fun _ => rfl
  · obtain ⟨hsets, hpressed⟩ := h.enterDown hdown (h.notMem_suppressed hi)
    exact State.processPress_setsRight (s := s.onKeypad _) hsets hpressed

/-- What each step of a fold keeps of the sets, the fold keeps. -/
theorem State.foldl_setsRight {f : State → Fin 64 → State}
    (hf : ∀ (s : State) i, s.keypad.SetsRight → (f s i).keypad.SetsRight) (h : s.keypad.SetsRight) (l : List (Fin 64)) :
    (l.foldl f s).keypad.SetsRight := by
  induction l generalizing s with
  | nil => exact h
  | cons i l ih => exact ih (hf s i h)

theorem State.stuckCheck_setsRight (h : s.keypad.SetsRight) (i : Fin 64) : (s.stuckCheck i).keypad.SetsRight := by
  rw [State.stuckCheck_keypad]
  split
  exacts [h.stick i, h]

theorem State.scanReleases_setsRight (h : s.keypad.SetsRight) (releases : List (Fin 64)) :
    (s.scanReleases releases).keypad.SetsRight := by
  have hreleased := State.foldl_setsRight (fun _ i hs => State.applyRelease_setsRight hs i) h releases
  unfold State.scanReleases
  dsimp only
  split
  exacts [hreleased, State.foldl_setsRight (fun _ i hs => State.reexamine_setsRight hs i) hreleased allKeys]

end

theorem KeyState.physicallyDown_iff (st : KeyState) : st.physicallyDown = true ↔ st ≠ .up := by
  cases st <;> simp [KeyState.physicallyDown]

/-- A press is of a key that is UP, and the keys still to come stay UP (R96). -/
theorem State.foldl_applyPress_setsRight {s : State} (hscan : s.keypad.scanning = true) (h : s.keypad.SetsRight)
    {l : List (Fin 64)} (hnodup : l.Nodup) (hup : ∀ i ∈ l, s.keypad.keys[i].state = .up) :
    (l.foldl State.applyPress s).keypad.SetsRight := by
  induction l generalizing s with
  | nil => exact h
  | cons i l ih =>
    obtain ⟨hi, hnodup⟩ := List.nodup_cons.mp hnodup
    refine ih ((congrArg KeyMark.scanning (State.applyPress_mark hscan i i)).trans hscan)
      (State.applyPress_setsRight h (hup i (List.mem_cons_self ..))) hnodup fun j hj => ?_
    have hmark := congrArg KeyMark.down (State.applyPress_mark hscan i j)
    rw [if_neg fun hji : j = i => hi (hji ▸ hj)] at hmark
    by_contra hne
    have hdown := hmark.symm.trans ((KeyState.physicallyDown_iff _).mpr hne)
    exact (KeyState.physicallyDown_iff _).mp hdown (hup j (List.mem_cons_of_mem _ hj))

theorem Keypad.presses_up {d : Nat} {reading : BitVec 64} {k : Keypad} {i : Fin 64} (hi : i ∈ k.presses d reading) :
    k.keys[i].state.physicallyDown = false ∧ i ∉ k.releases d reading := by
  unfold Keypad.presses Keypad.releases at *
  split at hi
  next hc =>
    have hup : k.isDown i = false := by simpa using ((Bool.and_eq_true ..).mp (List.mem_filter.mp hi).2).2
    exact ⟨hup, by simp [hc, hup]⟩
  next => cases hi

theorem Keypad.presses_nodup (d : Nat) (reading : BitVec 64) (k : Keypad) : (k.presses d reading).Nodup := by
  unfold Keypad.presses
  split
  exacts [(List.nodup_finRange 64).filter _, List.nodup_nil]

theorem State.keysScanned_setsRight {s : State} (h : s.keypad.SetsRight) (reading : BitVec 64) :
    (s.keysScanned reading).keypad.SetsRight := by
  let begun := s.onKeypad fun k => (k.debounceAll s.params.debounce reading).beginScan
  have hmark (j : Fin 64) := State.scanReleases_mark (s := begun) rfl (s.keypad.releases s.params.debounce reading) j
  unfold State.keysScanned
  refine State.foldl_setsRight (fun _ i hs => State.stuckCheck_setsRight hs i) ?_ _
  refine State.foldl_applyPress_setsRight (congrArg KeyMark.scanning (hmark 0))
    (State.scanReleases_setsRight (s := begun) (h.debounceAll _ reading) _) (s.keypad.presses_nodup _ reading)
    fun i hi => ?_
  obtain ⟨hup, hnot⟩ := Keypad.presses_up hi
  have hdown := congrArg KeyMark.down (hmark i)
  rw [if_neg hnot] at hdown
  by_contra hne
  have hyes := hdown.symm.trans ((KeyState.physicallyDown_iff _).mpr hne)
  have hno : (begun.keypad.mark i).down = false :=
    (congrArg _ (s.keypad.debounceAll_state s.params.debounce reading i)).trans hup
  cases hno.symm.trans hyes

theorem State.scan_setsRight {s : State} (h : s.keypad.SetsRight) (reading : BitVec 64) :
    (s.scan reading).keypad.SetsRight := by
  have hscanned := State.keysScanned_setsRight (s := s.reach s.keypad.nowMs) h reading
  rw [State.scan_eq]
  simp only [State.takeReports_keeps, State.onKeypad_keypad]
  exact (hscanned.repeatStep _).endScan

/-! ## The matcher's slots (R115, R116) -/

section
variable {s : State} (h : s.SlotsRight)
include h

theorem State.applyRelease_slotsRight (i : Fin 64) : (s.applyRelease i).SlotsRight := by
  unfold State.applyRelease
  dsimp only
  split
  exacts [Matcher.SlotsRight.leave h i, h]

theorem State.processPress_slotsRight (i : Fin 64) : (s.processPress i).SlotsRight := by
  obtain ⟨u, -, hmatcher, htables, htouches⟩ := s.processPress_cases i
  refine htouches.slotsRight ?_
  rwa [State.slotsRight_iff, hmatcher, htables]

theorem State.reexamine_slotsRight (i : Fin 64) : (s.reexamine i).SlotsRight := by
  unfold State.reexamine
  split
  exacts [State.processPress_slotsRight (s := s.onKeypad _) h i, h]

theorem State.applyPress_slotsRight (i : Fin 64) : (s.applyPress i).SlotsRight := by
  unfold State.applyPress
  split
  exacts [h, State.processPress_slotsRight (s := s.onKeypad _) h i]

theorem State.stuckCheck_slotsRight (i : Fin 64) : (s.stuckCheck i).SlotsRight := by
  unfold State.stuckCheck State.stuckNotice
  (repeat' split)
  exacts [Matcher.SlotsRight.leave h i, Matcher.SlotsRight.leave h i, h]

/-- What each step of a fold keeps of the slots, the fold keeps. -/
theorem State.foldl_slotsRight {f : State → Fin 64 → State} (hf : ∀ {s : State}, s.SlotsRight → ∀ i, (f s i).SlotsRight)
    (l : List (Fin 64)) : (l.foldl f s).SlotsRight := by
  induction l generalizing s with
  | nil => exact h
  | cons i l ih => exact ih (hf h i)

theorem State.scanReleases_slotsRight (releases : List (Fin 64)) : (s.scanReleases releases).SlotsRight := by
  have hup := State.foldl_slotsRight h State.applyRelease_slotsRight releases
  unfold State.scanReleases
  generalize allKeys = keys
  dsimp only
  split
  exacts [hup, State.foldl_slotsRight hup State.reexamine_slotsRight keys]

theorem State.keysScanned_slotsRight (reading : BitVec 64) : (s.keysScanned reading).SlotsRight := by
  have hreleased := State.scanReleases_slotsRight
    (s := s.onKeypad fun k => (k.debounceAll s.params.debounce reading).beginScan) h
    (s.keypad.releases s.params.debounce reading)
  have hpressed := State.foldl_slotsRight hreleased State.applyPress_slotsRight
    (s.keypad.presses s.params.debounce reading)
  unfold State.keysScanned
  generalize allKeys = keys
  exact State.foldl_slotsRight hpressed State.stuckCheck_slotsRight keys

theorem State.scan_slotsRight (reading : BitVec 64) : (s.scan reading).SlotsRight := by
  have hscanned := State.keysScanned_slotsRight (s := s.reach s.keypad.nowMs) h reading
  rw [State.scan_eq]
  generalize (s.reach s.keypad.nowMs).keysScanned reading = u at hscanned ⊢
  exact Matcher.SlotsRight.takeReports hscanned

end

/-! ## Every step -/

theorem State.Cold.setsRight {u : State} (h : u.Cold) : u.keypad.SetsRight := by
  rw [h.keypad]
  exact ⟨nofun, nofun, nofun⟩

theorem State.Cold.slotsRight {u : State} (h : u.Cold) : u.SlotsRight := by
  rw [State.slotsRight_iff, h.matcher]
  exact Matcher.slotsRight_of_clear (fun n => by simp [Matcher.cold]) _

/-- To the scanner and the matcher a command is a scan, or changes outside a scan, from where it is or from cold reset,
and after a scan the end of its step. -/
theorem exec_cases {c : Instr} {s t : State} (ht : exec c s = .next t) :
    (∃ reading, c = .scan reading ∧ (s.scan reading).Touches t) ∨ s.Touches t ∨ ∃ u : State, u.Cold ∧ u.Touches t := by
  cases c with
  | coldReset cause =>
    cases ht
    exact .inr (.inr ⟨_, s.holdInReset_cold cause, .refl _⟩)
  | coldResetRelease =>
    cases ht
    split
    · have hreturned : s.loadProfile.Touches s.loadProfile.mainsReturn := by
        unfold State.mainsReturn
        split <;> exact (State.Touches.refl _).transition _ _
      exact .inr (.inr ⟨_, s.loadProfile_cold,
        (hreturned.aside (t := s.leaveReset) (by simp [State.leaveReset])).finish⟩)
    · exact .inr (.inl (.refl s))
  | scan reading =>
    cases ht
    unfold State.perform
    split
    exacts [.inr (.inl (.refl s)), .inl ⟨reading, rfl, (State.Touches.refl _).finish⟩]
  | _ => exact .inr (.inl (exec_touches (by simp) (by simp) (by simp) ht))

/-- What changes outside a scan keep, every scan keeps, and cold reset establishes, a command keeps. -/
theorem exec_keeps {P : State → Prop} (touches : ∀ {s t : State}, s.Touches t → P s → P t)
    (scan : ∀ {s : State} (reading : BitVec 64), P s → P (s.scan reading)) (cold : ∀ {u : State}, u.Cold → P u)
    {c : Instr} {s t : State} (ht : exec c s = .next t) (hs : P s) : P t := by
  obtain ⟨reading, -, h⟩ | h | ⟨u, hu, h⟩ := exec_cases ht
  exacts [touches h (scan reading hs), touches h hs, touches h (cold hu)]

end Sys2Proof.Machine

namespace Sys2Proof.Proofs

open Sys2Proof.Machine

/-- Settles O56: outside a scan the two blocks take reports alone, and each change of a scan keeps its key in order. -/
theorem stepsKeepTheKeypadAndSlotsRight : Obligations.StepsKeepTheKeypadAndSlotsRight := by
  intro s t hstep
  unfold step at hstep
  split at hstep
  · cases hstep
    unfold State.tick
    split <;> exact ⟨id, id⟩
  next c rest _ =>
    exact ⟨fun hs => exec_keeps (P := fun s => s.keypad.SetsRight) (s := { s with pending := rest })
        (fun ht h => Keypad.SetsRight.touches h rfl ht) (fun reading h => State.scan_setsRight h reading)
        State.Cold.setsRight hstep hs,
      fun hs => exec_keeps (s := { s with pending := rest }) State.Touches.slotsRight
        (fun reading h => State.scan_slotsRight h reading) State.Cold.slotsRight hstep hs⟩

end Sys2Proof.Proofs
end


section
/-! PROOF. A scan among the commands: no scan asks for a soft reset, what the end of its step keeps, and the debounce of
every key over one scan and over many (R95, R96, R113). -/

namespace Sys2Proof.Machine

/-! ## No soft reset (R179) -/

section
variable (s : State)

@[simp] theorem State.report_soft (f : StickyFlag) : (s.report f).mgmt.pendingSoft = s.mgmt.pendingSoft := rfl

@[simp] theorem State.post_soft (c : NoticeContent) : (s.post c).mgmt.pendingSoft = s.mgmt.pendingSoft := rfl

@[simp] theorem State.inject_soft (e : InjectEntry) : (s.inject e).mgmt.pendingSoft = s.mgmt.pendingSoft :=
  (Mgmt.conversionMarks_eq_iff.mp (s.inject_conversionMarks e)).2

@[simp] theorem State.keyOffer_soft : s.keyOffer.1.mgmt.pendingSoft = s.mgmt.pendingSoft := by
  unfold State.keyOffer State.wakeOffer State.wake; (repeat' split) <;> simp

@[simp] theorem State.panelAction_soft (a : PanelAction) (n : Fin 4) :
    (s.panelAction a n).mgmt.pendingSoft = s.mgmt.pendingSoft := by
  unfold State.panelAction State.carryOut; (repeat' split) <;> simp [State.transition_soft]

@[simp] theorem State.anyKeyPowerOn_soft : s.anyKeyPowerOn.mgmt.pendingSoft = s.mgmt.pendingSoft := by
  unfold State.anyKeyPowerOn State.carryOut; split <;> simp [State.transition_soft]

@[simp] theorem State.fire_soft (n : Fin 4) : (s.fire n).mgmt.pendingSoft = s.mgmt.pendingSoft := by
  unfold State.fire State.deliver; split <;> simp

@[simp] theorem State.judgePress_soft (k : Fin 64) : (s.judgePress k).mgmt.pendingSoft = s.mgmt.pendingSoft := by
  unfold State.judgePress; dsimp only; split <;> simp

theorem State.oneOf_soft {a b : State} (ha : a.mgmt.pendingSoft = s.mgmt.pendingSoft)
    (hb : b.mgmt.pendingSoft = s.mgmt.pendingSoft) : (s.oneOf a b).mgmt.pendingSoft = s.mgmt.pendingSoft := by
  obtain hc | hc | hc := s.oneOf_cases a b <;> rw [hc]
  exacts [ha, ha, hb]

@[simp] theorem State.matcherPress_soft (k : Fin 64) : (s.matcherPress k).mgmt.pendingSoft = s.mgmt.pendingSoft := by
  unfold State.matcherPress
  split
  exacts [s.judgePress_soft k, s.oneOf_soft (by simp) (by simp)]

@[simp] theorem State.handOn_soft (k : Fin 64) : (s.handOn k).mgmt.pendingSoft = s.mgmt.pendingSoft := by
  unfold State.handOn State.anyKeyFirst
  split
  · exact s.oneOf_soft (by simp) (by dsimp only; split <;> simp)
  · exact s.matcherPress_soft k

@[simp] theorem State.processPress_soft (k : Fin 64) : (s.processPress k).mgmt.pendingSoft = s.mgmt.pendingSoft := by
  have hdecide (u : State) (e : KeyEntry) : (u.decidePress k e).mgmt.pendingSoft = u.mgmt.pendingSoft := by
    unfold State.decidePress; (repeat' split) <;> simp
  cases hkind : s.tables.keymap[k].kind with
  | normal => rw [State.processPress_normal hkind]; split <;> simp [State.passedPress, hdecide]
  | service => rw [State.processPress_service hkind]; simp
  | disabled => rw [State.processPress_disabled hkind]

@[simp] theorem State.applyPress_soft (k : Fin 64) : (s.applyPress k).mgmt.pendingSoft = s.mgmt.pendingSoft := by
  unfold State.applyPress; split <;> simp

@[simp] theorem State.reexamine_soft (k : Fin 64) : (s.reexamine k).mgmt.pendingSoft = s.mgmt.pendingSoft := by
  unfold State.reexamine; split <;> simp

@[simp] theorem State.stuckCheck_soft (k : Fin 64) : (s.stuckCheck k).mgmt.pendingSoft = s.mgmt.pendingSoft := by
  unfold State.stuckCheck State.stuckNotice; (repeat' split) <;> simp

theorem State.keysScanned_soft (reading : BitVec 64) :
    (s.keysScanned reading).mgmt.pendingSoft = s.mgmt.pendingSoft := by
  unfold State.keysScanned State.scanReleases
  generalize allKeys = keys
  dsimp only
  split <;> simp [foldl_keeps fun s => s.mgmt.pendingSoft]

theorem State.scan_soft (reading : BitVec 64) : (s.scan reading).mgmt.pendingSoft = s.mgmt.pendingSoft := by
  rw [State.scan_eq]
  simp [State.keysScanned_soft]

end

/-! ## The end of a scan (R96) -/

/-- Reports taken and a repeat made leave the keys' records. -/
theorem Keypad.takeReport_keys (k : Keypad) (st : PowerState) :
    (k.takeReport st).keys = k.keys ∧ (k.takeReport st).scans = k.scans := by
  unfold Keypad.takeReport
  split <;> exact ⟨rfl, rfl⟩

theorem Keypad.endScan_keys (k : Keypad) : k.endScan.keys = k.keys ∧ k.endScan.scans = k.scans + 1 := by
  unfold Keypad.endScan
  generalize hl : ({ k with scanning := false, deferred := [], scans := k.scans + 1 } : Keypad) = l
  have hkeys : l.keys = k.keys := hl ▸ rfl
  have hscans : l.scans = k.scans + 1 := hl ▸ rfl
  rw [← hkeys, ← hscans]
  clear hl hkeys hscans
  induction k.deferred generalizing l with
  | nil => exact ⟨rfl, rfl⟩
  | cons st sts ih =>
    obtain ⟨hkeys, hscans⟩ := ih (l.takeReport st)
    obtain ⟨htaken, hcount⟩ := l.takeReport_keys st
    exact ⟨hkeys.trans htaken, hscans.trans hcount⟩

theorem Keypad.repeatStep_rest (period : Nat) (k : Keypad) : k.repeatStep period =
    { k with queue := (k.repeatStep period).queue, typematic := (k.repeatStep period).typematic } := by
  unfold Keypad.repeatStep
  (repeat' split) <;> rfl

/-- The scanner after a scan. -/
theorem State.scan_keypad (reading : BitVec 64) (s : State) : (s.scan reading).keypad =
    (((s.reach s.keypad.nowMs).keysScanned reading).keypad.repeatStep s.params.repeatPeriod).endScan := by
  rw [State.scan_eq]
  simp only [State.takeReports_keeps, State.onKeypad_keypad]

/-- A scan is a command that waits for no other (R94). -/
theorem exec_scan {s : State} (hs : s.Quiet) (reading : BitVec 64) :
    exec (.scan reading) s = .next (s.scan reading).finish :=
  congrArg Host.Outcome.next (State.perform_of_running _ hs.running)

theorem exec_scan_eq {s t : State} {reading : BitVec 64} (hs : s.Quiet) (h : exec (.scan reading) s = .next t) :
    t = (s.scan reading).finish :=
  Host.Outcome.next.inj (h.symm.trans (exec_scan hs reading))

/-- What the end of a step keeps where no soft reset is pending. -/
theorem State.finish_blocks {s : State} (hs : s.mgmt.pendingSoft = false) :
    s.finish.keypad = s.keypad ∧ s.finish.matcher = s.matcher ∧ s.finish.meas = s.meas ∧
      s.finish.mgmt = { s.mgmt with replyEnded := false, justReported := 0 } := by
  obtain ⟨_, _, _, _, _, -, hfinish⟩ := State.finish_rates hs
  rw [hfinish]
  exact ⟨rfl, rfl, rfl, rfl⟩

/-- After a scan the part is again between commands. -/
theorem State.scan_quiet {s : State} (hs : s.Quiet) (reading : BitVec 64) : (s.scan reading).finish.Quiet := by
  have hrun : (s.scan reading).held = false := by simpa using hs.running
  have hsoft := (s.scan_soft reading).trans hs.2
  have hended := Keypad.endScan_kept
    (((s.reach s.keypad.nowMs).keysScanned reading).keypad.repeatStep s.params.repeatPeriod)
  have htaken (u : State) : u.takeReports.matcher.deferred = [] := (Matcher.takeReports_deferred _ _).1
  have hmatcher : (s.scan reading).matcher.deferred = [] := by rw [State.scan_eq]; exact htaken _
  rw [← s.scan_keypad reading] at hended
  generalize s.scan reading = u at *
  obtain ⟨hkeypad, hmatch, -, hmgmt⟩ := State.finish_blocks hsoft
  obtain ⟨-, hscanning, hwaits⟩ := hended
  exact ⟨⟨by simpa using hrun, by rw [hmgmt], by rw [hmgmt], hkeypad ▸ hscanning, hkeypad ▸ hwaits, hmatch ▸ hmatcher⟩,
    by rw [hmgmt]; exact hsoft⟩

theorem State.scan_tables {s : State} (hs : s.Quiet) (reading : BitVec 64) :
    (s.scan reading).finish.tables = s.tables := by
  have hkept := State.finish_keeps_of_no_soft ((s.scan_soft reading).trans hs.2)
  simp [hkept]

/-- The scanner's marks after a scan (R95, R96). -/
theorem State.scan_marks {s : State} (hs : s.Quiet) (reading : BitVec 64) (i : Fin 64) :
    let t := (s.scan reading).finish
    t.keypad.scans = s.keypad.scans + 1 ∧
      t.keypad.keys[i].count = (s.keypad.debounceAll s.params.debounce reading).keys[i].count ∧
      t.keypad.keys[i].state.physicallyDown =
        if i ∈ s.keypad.presses s.params.debounce reading then true
        else if i ∈ s.keypad.releases s.params.debounce reading then false
        else s.keypad.keys[i].state.physicallyDown := by
  dsimp only
  have hmark := (s.reach s.keypad.nowMs).keysScanned_mark reading i
  obtain ⟨hkeypad, -⟩ := State.finish_blocks ((s.scan_soft reading).trans hs.2)
  rw [hkeypad, State.scan_keypad]
  generalize (s.reach s.keypad.nowMs).keysScanned reading = u at hmark
  obtain ⟨hkeys, hscans⟩ := (u.keypad.repeatStep s.params.repeatPeriod).endScan_keys
  rw [hkeys, hscans, Keypad.repeatStep_rest]
  exact ⟨congrArg (· + 1) (congrArg KeyMark.scans hmark), congrArg KeyMark.count hmark, congrArg KeyMark.down hmark⟩

/-! ## The debounce (R95) -/

/-- A key in a scan that counts (R95). -/
theorem State.scan_counts {s : State} (hs : s.Quiet) (hcounts : s.ScanCounts) (reading : BitVec 64) (i : Fin 64) :
    let t := (s.scan reading).finish
    let down := s.keypad.keys[i].state.physicallyDown
    let differs := reading.getLsbD i.val ≠ down
    t.keypad.keys[i].count =
        (if differs ∧ s.keypad.keys[i].count + 1 < s.params.debounce then s.keypad.keys[i].count + 1 else 0) ∧
      t.keypad.keys[i].state.physicallyDown =
        (if differs ∧ s.params.debounce ≤ s.keypad.keys[i].count + 1 then !down else down) := by
  intro t down differs
  have hscan := s.scanCounts_iff.mpr hcounts
  obtain ⟨-, hcount, hdown⟩ := State.scan_marks hs reading i
  obtain ⟨hreleases, hpresses⟩ := Keypad.mem_changes hscan s.params.debounce reading i
  rw [Keypad.debounceAll_key hscan] at hcount
  simp only [hreleases, hpresses] at hdown
  refine ⟨hcount.trans ?_, hdown.trans ?_⟩
  · simp [KeyRec.debounce, KeyRec.changes, KeyRec.differs, differs, down]
    grind
  · simp only [KeyRec.changes, KeyRec.differs, Keypad.isDown, differs, down, bne_iff_ne, decide_eq_true_eq,
      Bool.and_eq_true]
    cases s.keypad.keys[i].state.physicallyDown <;> simp

/-- A key in a scan that does not count (R113; log 21). -/
theorem State.scan_uncounted {s : State} (hs : s.Quiet) (hcounts : ¬s.ScanCounts) (reading : BitVec 64) (i : Fin 64) :
    let t := (s.scan reading).finish
    t.keypad.keys[i].count = s.keypad.keys[i].count ∧
      t.keypad.keys[i].state.physicallyDown = s.keypad.keys[i].state.physicallyDown := by
  have hscan : s.keypad.scanCounts = false := Bool.eq_false_iff.mpr fun h => hcounts (s.scanCounts_iff.mp h)
  obtain ⟨hkeys, hreleases, hpresses⟩ := Keypad.debounce_uncounted hscan s.params.debounce reading
  obtain ⟨-, hcount, hdown⟩ := State.scan_marks hs reading i
  rw [hkeys] at hcount
  rw [hreleases, hpresses] at hdown
  exact ⟨hcount, by simpa using hdown⟩

/-- How many scans after a cold reset do not count (R113; log 21). -/
def uncountedScans : Nat := if Config.firstScanCounts then 0 else 1

theorem State.scanCounts_iff_uncounted (s : State) : s.ScanCounts ↔ uncountedScans ≤ s.keypad.scans := by
  unfold State.ScanCounts uncountedScans
  cases Config.firstScanCounts <;> simp [Nat.one_le_iff_ne_zero]

/-- A key that `n` scans of one reading since a cold reset have not changed (R95, R113). -/
structure State.HeldFor (reading : BitVec 64) (i : Fin 64) (n : Nat) (s : State) : Prop where
  quiet : s.Quiet
  scans : s.keypad.scans = n
  key : s.keypad.keys[i].state.physicallyDown = false ∧
    s.keypad.keys[i].count = if reading.getLsbD i.val then n - uncountedScans else 0

section
variable {s : State} {reading : BitVec 64} {i : Fin 64} {n : Nat} (h : s.HeldFor reading i n)
include h

/-- A scan too early for a press only counts (R95). -/
theorem State.HeldFor.next (hn : n + 1 < s.params.debounce + uncountedScans) :
    (s.scan reading).finish.HeldFor reading i (n + 1) := by
  obtain ⟨quiet, scans, up, count⟩ := h
  obtain ⟨hscans, -⟩ := State.scan_marks quiet reading i
  refine ⟨State.scan_quiet quiet reading, hscans.trans (by rw [scans]), And.comm.mp ?_⟩
  by_cases hcounts : s.ScanCounts
  · obtain ⟨hcount, hdown⟩ := State.scan_counts quiet hcounts reading i
    rw [s.scanCounts_iff_uncounted, scans] at hcounts
    have hearly : n - uncountedScans + 1 < s.params.debounce := by omega
    rw [hcount, hdown, up, count]
    cases reading.getLsbD i.val <;> simp [hearly]; omega
  · obtain ⟨hcount, hdown⟩ := State.scan_uncounted quiet hcounts reading i
    rw [s.scanCounts_iff_uncounted, scans] at hcounts
    rw [hcount, hdown, up, count]
    cases reading.getLsbD i.val <;> simp; omega

/-- At the debounce length a key that is held is pressed (R95). -/
theorem State.HeldFor.pressed (hn : n + 1 = s.params.debounce + uncountedScans) (hd : 0 < s.params.debounce) :
    (s.scan reading).finish.keypad.keys[i].state.physicallyDown = reading.getLsbD i.val := by
  obtain ⟨quiet, scans, up, count⟩ := h
  have hcounts : s.ScanCounts := by rw [s.scanCounts_iff_uncounted]; omega
  obtain ⟨-, hdown⟩ := State.scan_counts quiet hcounts reading i
  rw [hdown, up, count]
  cases reading.getLsbD i.val <;> simp; omega

end

/-- A run of scans of one reading from a cold reset on (R113). -/
theorem State.heldFor_run {run : Nat → State} {reading : BitVec 64} {i : Fin 64}
    (hstart : (run 0).HeldFor reading i 0) (hexec : ∀ n, exec (.scan reading) (run n) = .next (run (n + 1))) {n : Nat}
    (hn : n < (run 0).params.debounce + uncountedScans) :
    (run n).tables = (run 0).tables ∧ (run n).HeldFor reading i n := by
  induction n with
  | zero => exact ⟨rfl, hstart⟩
  | succ n ih =>
    obtain ⟨htables, hheld⟩ := ih (by omega)
    rw [exec_scan_eq hheld.quiet (hexec n)]
    exact ⟨(State.scan_tables hheld.quiet reading).trans htables, hheld.next (by rw [State.params, htables]; exact hn)⟩

end Sys2Proof.Machine

namespace Sys2Proof.Proofs

open Sys2Proof.Machine

/-- Settles O36: the scanner's marks at a key over one scan, and by induction over a run of scans of one reading. -/
theorem scanDebouncesEveryKey : Obligations.ScanDebouncesEveryKey := by
  refine ⟨KeyState.physicallyDown_iff, fun s reading hs => ?_, fun run reading hs hzero hkeys hd hexec => ?_⟩
  · have hsoft := (s.scan_soft reading).trans hs.2
    obtain ⟨-, -, hmeas, -⟩ := State.finish_blocks hsoft
    refine ⟨_, exec_scan hs reading, State.scan_tables hs reading, by simp, hmeas.trans (by simp), by simp,
      (State.scan_marks hs reading 0).1, by simp [State.scan, Keypad.nowMs], fun i => ⟨fun hcounts => ?_,
      fun hcounts => ?_, fun hcounts => State.scan_uncounted hs hcounts reading i⟩⟩
    exacts [(State.scan_counts hs hcounts reading i).1, (State.scan_counts hs hcounts reading i).2]
  · intro pressScan i
    have hstart : (run 0).HeldFor reading i 0 := ⟨hs, hzero, by rw [(hkeys i).1]; rfl, by rw [(hkeys i).2]; simp⟩
    have hpress : pressScan + 1 = (run 0).params.debounce + uncountedScans := by
      simp only [pressScan, uncountedScans]
      split <;> omega
    refine ⟨fun n hn => ?_, ?_⟩
    · obtain ⟨-, -, -, hup, -⟩ := State.heldFor_run hstart hexec (n := n) (by omega)
      by_contra hne
      cases hup.symm.trans ((KeyState.physicallyDown_iff _).mpr hne)
    · obtain ⟨htables, hheld⟩ := State.heldFor_run hstart hexec (n := pressScan) (by omega)
      rw [exec_scan_eq hheld.quiet (hexec pressScan)]
      rw [State.params, ← htables] at hpress hd
      exact hheld.pressed hpress hd

end Sys2Proof.Proofs
end


section
/-! PROOF. A scan step by step: the state in which its changes are applied, which changes it makes, the stuck check, and
its end (R95 to R97, R99, R107). -/

namespace Sys2Proof.Machine

/-! ## Lists of keys -/

theorem foldl_of_fixed {f : State → Fin 64 → State} {s : State} {l : List (Fin 64)} (h : ∀ i ∈ l, f s i = s) :
    l.foldl f s = s := by
  induction l with
  | nil => rfl
  | cons i l ih =>
    rw [List.foldl_cons, h i (List.mem_cons_self ..)]
    exact ih fun j hj => h j (List.mem_cons_of_mem _ hj)

/-- Where the steps of all keys but one change nothing, the work on all keys is that key's. -/
theorem foldl_allKeys_of_lone {f : State → Fin 64 → State} {s : State} {i : Fin 64} (before : ∀ k, k ≠ i → f s k = s)
    (after : ∀ k, k ≠ i → f (f s i) k = f s i) : allKeys.foldl f s = f s i := by
  obtain ⟨l, r, hlr⟩ := List.append_of_mem (show i ∈ allKeys from List.mem_finRange i)
  have hnodup : (l ++ i :: r).Nodup := hlr ▸ List.nodup_finRange 64
  have hl (k : Fin 64) (hk : k ∈ l) : k ≠ i := by grind
  have hr (k : Fin 64) (hk : k ∈ r) : k ≠ i := by grind
  rw [hlr, List.foldl_append, foldl_of_fixed fun k hk => before k (hl k hk), List.foldl_cons,
    foldl_of_fixed fun k hk => after k (hr k hk)]

theorem eq_singleton_of_mem {l : List (Fin 64)} {i : Fin 64} (hnodup : l.Nodup) (h : ∀ k, k ∈ l ↔ k = i) : l = [i] :=
  List.perm_singleton.mp ((List.perm_ext_iff_of_nodup hnodup (List.nodup_singleton i)).mpr (by simpa using h))

/-! ## The state in which the changes are applied (R95, R96) -/

/-- The present scan's moment reached, the keys debounced, and the reports told to wait. -/
def State.begun (reading : BitVec 64) (s : State) : State :=
  (s.reach s.keypad.nowMs).onKeypad fun k => (k.debounceAll s.params.debounce reading).beginScan

/-- The records of the keys with other debounce counts. -/
def Keypad.Counted (keys : Vector KeyRec 64) (k : Keypad) : Prop :=
  ∀ j : Fin 64, keys[j].state = k.keys[j].state ∧ keys[j].entry = k.keys[j].entry ∧ keys[j].code = k.keys[j].code

/-- The scanner as the changes of a scan find it, its keys debounced. -/
def Keypad.begunWith (keys : Vector KeyRec 64) (k : Keypad) : Keypad := { k with keys := keys, scanning := true }

/-- The part as the changes of a scan find it. -/
def State.begunWith (keys : Vector KeyRec 64) (s : State) : State :=
  { s with clockMs := max s.clockMs (4 * s.keypad.scans), keypad := s.keypad.begunWith keys }

theorem State.begun_eq (reading : BitVec 64) (s : State) :
    ∃ keys, s.keypad.Counted keys ∧ s.begun reading = s.begunWith keys := by
  refine ⟨(s.keypad.debounceAll s.params.debounce reading).keys, fun j => ?_, ?_⟩
  · unfold Keypad.debounceAll
    split
    · simp [KeyRec.debounce]
    · exact ⟨rfl, rfl, rfl⟩
  · have hkeypad := s.keypad.debounceAll_rest s.params.debounce reading
    generalize (s.keypad.debounceAll s.params.debounce reading).keys = keys at hkeypad
    show State.onKeypad (fun _ => (s.keypad.debounceAll s.params.debounce reading).beginScan)
      (s.reach s.keypad.nowMs) = _
    rw [hkeypad]
    rfl

/-! ## Which changes a scan makes (R95) -/

theorem Keypad.releases_nodup (d : Nat) (reading : BitVec 64) (k : Keypad) : (k.releases d reading).Nodup := by
  unfold Keypad.releases
  split
  exacts [(List.nodup_finRange 64).filter _, List.nodup_nil]

theorem KeyRec.changes_iff (d : Nat) (pressed : Bool) (r : KeyRec) :
    r.changes d pressed = true ↔ pressed ≠ r.state.physicallyDown ∧ d ≤ r.count + 1 := by
  simp [KeyRec.changes, KeyRec.differs]

/-- Every key of the stuck check (R99). -/
def State.stuckChecked (s : State) : State := allKeys.foldl State.stuckCheck s

/-- Every BLOCKED key examined again (R98). -/
def State.reexamined (s : State) : State := allKeys.foldl State.reexamine s

theorem State.scanReleases_one (i : Fin 64) (s : State) : s.scanReleases [i] = (s.applyRelease i).reexamined := by
  unfold State.scanReleases State.reexamined
  generalize allKeys = keys
  rfl

section
variable {s : State} {reading : BitVec 64} {i : Fin 64}

/-- A scan's work on the keys, its changes named. -/
theorem State.keysScanned_eq {releases presses : List (Fin 64)} {u : State}
    (hreleases : s.keypad.releases s.params.debounce reading = releases)
    (hpresses : s.keypad.presses s.params.debounce reading = presses)
    (hu : presses.foldl State.applyPress ((s.begun reading).scanReleases releases) = u) :
    (s.reach s.keypad.nowMs).keysScanned reading = u.stuckChecked := by
  subst hreleases hpresses hu
  rfl

theorem State.keysScanned_of_no_change (h : s.NoChange reading) :
    (s.reach s.keypad.nowMs).keysScanned reading = (s.begun reading).stuckChecked := by
  cases hscan : s.keypad.scanCounts with
  | false =>
    obtain ⟨-, hreleases, hpresses⟩ := Keypad.debounce_uncounted hscan s.params.debounce reading
    exact State.keysScanned_eq hreleases hpresses rfl
  | true =>
    have hno (k : Fin 64) : ¬s.keypad.keys[k].changes s.params.debounce (reading.getLsbD k.val) = true := fun hk => by
      obtain ⟨hdiffers, hlong⟩ := (KeyRec.changes_iff ..).mp hk
      exact absurd (h (s.scanCounts_iff.mp hscan) k hdiffers) (Nat.not_lt.mpr hlong)
    have hmem := Keypad.mem_changes hscan s.params.debounce reading
    exact State.keysScanned_eq
      (List.eq_nil_iff_forall_not_mem.mpr fun k hk => hno k ((hmem k).1.mp hk).1)
      (List.eq_nil_iff_forall_not_mem.mpr fun k hk => hno k ((hmem k).2.mp hk).1) rfl

/-- The keys that a lone change is of (R95). -/
theorem State.LoneChange.changes (h : s.LoneChange reading i) (k : Fin 64) :
    (k ∈ s.keypad.releases s.params.debounce reading ↔ k = i ∧ s.keypad.isDown i = true) ∧
      (k ∈ s.keypad.presses s.params.debounce reading ↔ k = i ∧ s.keypad.isDown i = false) := by
  obtain ⟨hcounts, hlone⟩ := h
  have hmem := Keypad.mem_changes (s.scanCounts_iff.mpr hcounts) s.params.debounce reading k
  rw [KeyRec.changes_iff, hlone] at hmem
  constructor
  · rw [hmem.1]
    exact and_congr_right fun hk => hk ▸ Iff.rfl
  · rw [hmem.2]
    exact and_congr_right fun hk => hk ▸ Iff.rfl

theorem Keypad.isDown_iff (k : Keypad) (i : Fin 64) : k.isDown i = true ↔ k.keys[i].state ≠ .up :=
  KeyState.physicallyDown_iff _

theorem State.keysScanned_of_lone_press (h : s.LoneChange reading i) (hup : s.keypad.keys[i].state = .up) :
    (s.reach s.keypad.nowMs).keysScanned reading = ((s.begun reading).applyPress i).stuckChecked := by
  have hdown : s.keypad.isDown i = false := Bool.eq_false_iff.mpr fun hd => (s.keypad.isDown_iff i).mp hd hup
  have hmem := State.LoneChange.changes h
  simp only [hdown] at hmem
  exact State.keysScanned_eq (List.eq_nil_iff_forall_not_mem.mpr fun k => by simp [hmem k])
    (eq_singleton_of_mem (s.keypad.presses_nodup ..) fun k => by simp [hmem k]) rfl

theorem State.keysScanned_of_lone_release (h : s.LoneChange reading i) (hdown : s.keypad.keys[i].state ≠ .up) :
    (s.reach s.keypad.nowMs).keysScanned reading = ((s.begun reading).applyRelease i).reexamined.stuckChecked := by
  have hmem := State.LoneChange.changes h
  simp only [(s.keypad.isDown_iff i).mpr hdown] at hmem
  exact State.keysScanned_eq (releases := [i]) (presses := [])
    (eq_singleton_of_mem (s.keypad.releases_nodup ..) fun k => by simp [hmem k])
    (List.eq_nil_iff_forall_not_mem.mpr fun k => by simp [hmem k]) (by rw [List.foldl_nil, State.scanReleases_one])

end

/-! ## The stuck check (R99) -/

theorem Keypad.becomesStuck_iff (stuckTime : Nat) (i : Fin 64) (k : Keypad) : k.becomesStuck stuckTime i = true ↔
    stuckTime ≠ 0 ∧ k.keys[i].state = .down ∧ stuckTime * 1000 ≤ 4 * k.scans - k.keys[i].entry := by
  simp only [Keypad.becomesStuck, Bool.and_eq_true, decide_eq_true_eq, and_assoc]
  rfl

theorem State.stuckCheck_of_not {s : State} {i : Fin 64} (h : ¬s.Sticks i) : s.stuckCheck i = s :=
  if_neg fun hi => h ((Keypad.becomesStuck_iff ..).mp hi)

theorem State.stuckChecked_of_none {s : State} (h : ∀ k, ¬s.Sticks k) : s.stuckChecked = s :=
  foldl_of_fixed fun k _ => State.stuckCheck_of_not (h k)

theorem Keypad.stick_key {i j : Fin 64} (h : j ≠ i) (k : Keypad) : (k.stick i).keys[j] = k.keys[j] := by
  have hkey := k.onKey_key i j fun r => { r with state := .stuck }
  rw [if_neg h] at hkey
  unfold Keypad.stick
  dsimp only
  split <;> exact hkey

theorem State.stuckChecked_of_lone {s : State} {i : Fin 64} (h : ∀ k, s.Sticks k → k = i) :
    s.stuckChecked = s.stuckCheck i := by
  refine foldl_allKeys_of_lone (fun k hk => State.stuckCheck_of_not fun hs => hk (h k hs)) fun k hk =>
    State.stuckCheck_of_not fun hs => hk (h k ?_)
  have hscans : (s.stuckCheck i).keypad.scans = s.keypad.scans := congrArg KeyMark.scans (s.stuckCheck_mark i k)
  have hkey : (s.stuckCheck i).keypad.keys[k] = s.keypad.keys[k] := by
    rw [State.stuckCheck_keypad]
    split
    exacts [Keypad.stick_key hk _, rfl]
  obtain ⟨htime, hdown, hlong⟩ := hs
  simp only [State.params, State.stuckCheck_keeps] at htime hlong
  rw [hkey] at hdown hlong
  exact ⟨htime, hdown, hscans ▸ hlong⟩

/-! ## The end of a scan (R96, R107) -/

/-- The scanner at the end of a scan, given the report it has taken last (R96, R110). -/
def Keypad.ended (last : PowerState) (k : Keypad) : Keypad :=
  { k with kept := last, scanning := false, deferred := [], scans := k.scans + 1 }

theorem Keypad.repeatStep_of_not_due {k : Keypad} (h : ∀ x ∈ k.typematic, 4 * k.scans < x.2) (period : Nat) :
    k.repeatStep period = k := by
  unfold Keypad.repeatStep
  split
  · rfl
  next x due hx => exact if_neg (Nat.not_le.mpr (h (x, due) hx))

theorem Keypad.repeatStep_of_due {k : Keypad} {i : Fin 64} {due : Nat} (h : k.typematic = some (i, due))
    (hdue : due ≤ 4 * k.scans) (period : Nat) : k.repeatStep period =
      { k with
        queue := if k.load + 1 ≤ 32 then k.queue ++ [k.event i .autoRepeat] else k.queue
        typematic := some (i, due + period) } := by
  simp [Keypad.repeatStep, h, show due ≤ k.nowMs from hdue, Keypad.repeatFits]

theorem Keypad.endScan_of_none {k : Keypad} (h : k.deferred = []) : k.endScan = k.ended k.kept := by
  simp [Keypad.endScan, Keypad.ended, h]

/-- A scan after whose work no report waits. -/
theorem State.scan_of_keysScanned {s u : State} {reading : BitVec 64}
    (hu : (s.reach s.keypad.nowMs).keysScanned reading = u) (hkeypad : u.keypad.deferred = [])
    (hmatcher : u.matcher.deferred = []) : s.scan reading =
      { u with keypad := (u.keypad.repeatStep s.params.repeatPeriod).ended u.keypad.kept } := by
  have hrest := Keypad.repeatStep_rest s.params.repeatPeriod u.keypad
  have hended := Keypad.endScan_of_none (k := u.keypad.repeatStep s.params.repeatPeriod)
    ((congrArg Keypad.deferred hrest).trans hkeypad)
  rw [congrArg Keypad.kept hrest] at hended
  rw [State.scan_eq, hu]
  refine (State.takeReports_of_none (s := (u.onKeypad _).onKeypad _) hmatcher).trans ?_
  exact congrArg (fun k : Keypad => ({ u with keypad := k } : State)) hended

/-- The same where in addition no repeat is due. -/
theorem State.scan_of_keysScanned_not_due {s u : State} {reading : BitVec 64}
    (hu : (s.reach s.keypad.nowMs).keysScanned reading = u) (hkeypad : u.keypad.deferred = [])
    (hmatcher : u.matcher.deferred = []) (hrepeat : u.RepeatNotDue) (hkept : u.keypad.kept = s.keypad.kept) :
    s.scan reading = { u with keypad := u.keypad.ended s.keypad.kept } := by
  rw [State.scan_of_keysScanned hu hkeypad hmatcher, Keypad.repeatStep_of_not_due hrepeat, hkept]

/-- The keys found stuck are those that the debounce finds (R95, R99). -/
theorem State.begunWith_sticks {s : State} {keys : Vector KeyRec 64} (h : s.keypad.Counted keys) (k : Fin 64) :
    (s.begunWith keys).Sticks k ↔ s.Sticks k := by
  obtain ⟨hstate, hentry, -⟩ := h k
  unfold State.Sticks
  rw [← hstate, ← hentry]
  exact Iff.rfl

end Sys2Proof.Machine
end


section
/-! PROOF. The typematic repeat, and the flush as the scanner's kept power state leaves RUNNING and SHUTDOWN (R107,
R108, R110). -/

namespace Sys2Proof.Machine

/-! ## The repeat (R107) -/

/-- A scan that changes no key and finds none stuck comes to the repeat alone (R96). -/
theorem State.scan_of_no_change {s : State} {reading : BitVec 64} (hs : s.Quiet) (hno : s.NoChange reading)
    (hstuck : ∀ k, ¬s.Sticks k) : ∃ keys, s.keypad.Counted keys ∧ (s.scan reading).finish =
      { s with
        clockMs := max s.clockMs (4 * s.keypad.scans)
        keypad := ((s.keypad.begunWith keys).repeatStep s.params.repeatPeriod).ended s.keypad.kept } := by
  obtain ⟨keys, hcounted, hbegun⟩ := s.begun_eq reading
  obtain ⟨hended, hjust, -, hwaits, hmatcher⟩ := hs.atRest
  have hscanned : (s.reach s.keypad.nowMs).keysScanned reading = s.begun reading :=
    (State.keysScanned_of_no_change hno).trans <| State.stuckChecked_of_none fun k hk =>
      hstuck k ((State.begunWith_sticks hcounted k).mp (hbegun ▸ hk))
  have hscan := State.scan_of_keysScanned (hscanned.trans hbegun) hwaits hmatcher
  exact ⟨keys, hcounted, (congrArg State.finish hscan).trans (State.finish_at_rest hended hjust)⟩

/-! ## The flush (R110) -/

/-- Nothing waits to be fetched, nothing repeats, and a key physically down reports nothing until it is released. -/
structure Keypad.Flushed (k : Keypad) : Prop where
  queue : k.queue = []
  reported : k.reportedDown = []
  typematic : k.typematic = none
  suppressed : ∀ i : Fin 64, k.keys[i].state.physicallyDown = true → i ∈ k.suppressed

/-- Events are queued, or the scanner is flushed. -/
def Keypad.AcceptsOrFlushed (k : Keypad) : Prop := k.kept.accepts = true ∨ k.Flushed

theorem Keypad.flush_flushed (k : Keypad) (st : PowerState) : ({ k.flush with kept := st } : Keypad).Flushed :=
  ⟨rfl, rfl, rfl, fun i hi => (k.mem_flush_suppressed i).mpr (.inr hi)⟩

theorem Keypad.AcceptsOrFlushed.takeReport {k : Keypad} (h : k.AcceptsOrFlushed) (st : PowerState) :
    (k.takeReport st).AcceptsOrFlushed := by
  unfold Keypad.takeReport
  split
  next => exact .inr (k.flush_flushed st)
  next hstays =>
    obtain haccepts | hflushed := h
    · exact .inl (by simpa [haccepts] using hstays)
    · exact .inr ⟨hflushed.queue, hflushed.reported, hflushed.typematic, hflushed.suppressed⟩

theorem Keypad.AcceptsOrFlushed.onReport {k : Keypad} (h : k.AcceptsOrFlushed) (st : PowerState) :
    (k.onReport st).AcceptsOrFlushed := by
  unfold Keypad.onReport
  split
  exacts [h.imp id fun ⟨hq, hr, ht, hs⟩ => ⟨hq, hr, ht, hs⟩, h.takeReport st]

theorem Keypad.AcceptsOrFlushed.endScan {k : Keypad} (h : k.AcceptsOrFlushed) : k.endScan.AcceptsOrFlushed := by
  unfold Keypad.endScan
  generalize hl : ({ k with scanning := false, deferred := [], scans := k.scans + 1 } : Keypad) = l
  have h : l.AcceptsOrFlushed := hl ▸ h.imp id fun ⟨hq, hr, ht, hs⟩ => ⟨hq, hr, ht, hs⟩
  clear hl
  induction k.deferred generalizing l with
  | nil => exact h
  | cons st sts ih => exact ih _ (h.takeReport st)

theorem State.Touches.acceptsOrFlushed {s t : State} (h : s.Touches t) (hs : s.keypad.AcceptsOrFlushed) :
    t.keypad.AcceptsOrFlushed :=
  h.keypad (fun _ st hk => hk.onReport st)
    (fun _ _ _ hq hk => hk.imp id fun ⟨hqueue, hr, ht, hs⟩ => ⟨hq hqueue, hr, ht, hs⟩) hs

/-- Inside a scan the kept power state stays, so what leaves it queued is flushed at its end (R96, R110). -/
theorem State.scan_acceptsOrFlushed {s : State} (h : s.keypad.kept.accepts = true) (reading : BitVec 64) :
    (s.scan reading).keypad.AcceptsOrFlushed := by
  have hmark := congrArg KeyMark.kept ((s.reach s.keypad.nowMs).keysScanned_mark reading 0)
  rw [State.scan_keypad]
  generalize (s.reach s.keypad.nowMs).keysScanned reading = u at hmark
  refine Keypad.AcceptsOrFlushed.endScan (.inl ?_)
  rw [Keypad.repeatStep_rest]
  exact (congrArg PowerState.accepts hmark).trans h

theorem exec_acceptsOrFlushed {s t : State} {c : Instr} (ht : exec c s = .next t)
    (hs : s.keypad.kept.accepts = true) : t.keypad.AcceptsOrFlushed := by
  obtain ⟨reading, -, h⟩ | h | ⟨u, hu, h⟩ := exec_cases ht
  · exact h.acceptsOrFlushed (State.scan_acceptsOrFlushed hs reading)
  · exact h.acceptsOrFlushed (.inl hs)
  · refine h.acceptsOrFlushed (.inr ?_)
    rw [hu.keypad]
    exact ⟨rfl, rfl, rfl, fun i hi => by simp [Keypad.cold, KeyState.physicallyDown] at hi⟩

end Sys2Proof.Machine

namespace Sys2Proof.Proofs

open Sys2Proof.Machine

/-- Settles O40: such a scan comes to the repeat; a command keeps that events are queued or the scanner flushed. -/
theorem repeatsComeAndFlushesEmpty : Obligations.RepeatsComeAndFlushesEmpty := by
  refine ⟨fun _ => rfl, fun s reading i due hs hno hstuck htypematic => ?_, fun s t c ht hs hrun hdown => ?_⟩
  · obtain ⟨keys, hcounted, hscan⟩ := State.scan_of_no_change hs hno hstuck
    refine ⟨_, exec_scan hs reading, ?_⟩
    rw [hscan]
    refine ⟨rfl, ?_⟩
    by_cases hdue : due ≤ 4 * s.keypad.scans
    · rw [Keypad.repeatStep_of_due (k := s.keypad.begunWith keys) htypematic hdue]
      obtain ⟨-, -, hcode⟩ := hcounted i
      have hevent : (s.keypad.begunWith keys).event i .autoRepeat = s.eventNow i s.keypad.keys[i].code .autoRepeat :=
        congrArg (fun c => s.eventNow i c .autoRepeat) hcode
      rw [hevent]
      exact ⟨rfl, rfl, fun hlater => absurd hdue (Nat.not_le.mpr hlater), fun _ => ⟨rfl, rfl⟩⟩
    · rw [Keypad.repeatStep_of_not_due (k := s.keypad.begunWith keys)
        fun x hx => by cases htypematic.symm.trans hx; exact Nat.not_le.mp hdue]
      exact ⟨rfl, rfl, fun _ => ⟨rfl, rfl⟩, fun h => absurd h hdue⟩
  · have hleft : t.keypad.Flushed := (exec_acceptsOrFlushed ht (PowerState.accepts_iff.mpr hs)).resolve_left fun h =>
      (PowerState.accepts_iff.mp h).elim hrun hdown
    exact ⟨hleft.queue, hleft.reported, hleft.typematic, hleft.suppressed⟩

end Sys2Proof.Proofs
end


section
/-! PROOF. A key released alone, and a key alone held for the stuck time (R99, R100, R105, R118). -/

namespace Sys2Proof.Machine

/-! ## A release at the scanner (R100, R105) -/

/-- A key's release as the scanner takes it. -/
def Keypad.released (i : Fin 64) (k : Keypad) : Keypad :=
  let up := k.onKey i fun r => { r with state := .up }
  if k.keys[i].state = .down then up.handleRelease i .release else up.unsuppress i

/-- Two scanners agree in their kept power state, their scans and what waits in a scan. -/
def Keypad.SameMarks (k l : Keypad) : Prop :=
  l.kept = k.kept ∧ l.scans = k.scans ∧ l.scanning = k.scanning ∧ l.deferred = k.deferred

section
variable (k : Keypad) {i : Fin 64}

/-- A release of a key whose press reported nothing, or nothing any more (R100, R105). -/
theorem Keypad.released_unreported (h : k.keys[i].state ≠ .down ∨ i ∈ k.suppressed) :
    k.released i = (k.onKey i fun r => { r with state := .up }).unsuppress i := by
  unfold Keypad.released Keypad.handleRelease
  dsimp only
  split
  next hdown => exact if_pos (h.resolve_left (not_not_intro hdown))
  next => rfl

/-- A release of a key in the reported-down set (R105). -/
theorem Keypad.released_reported (hdown : k.keys[i].state = .down) (hs : i ∉ k.suppressed) (hr : i ∈ k.reportedDown) :
    k.released i = (k.onKey i fun r => { r with state := .up }).queueRelease i .release :=
  (if_pos hdown).trans ((if_neg hs).trans (if_pos hr))

/-- A release of a key in neither set (R105). -/
theorem Keypad.released_silent (hdown : k.keys[i].state = .down) (hs : i ∉ k.suppressed) (hr : i ∉ k.reportedDown) :
    k.released i = k.onKey i fun r => { r with state := .up } :=
  (if_pos hdown).trans ((if_neg hs).trans (if_neg hr))

theorem Keypad.released_keys (i : Fin 64) :
    (k.released i).keys = (k.onKey i fun r => { r with state := .up }).keys := by
  unfold Keypad.released Keypad.handleRelease
  dsimp only
  (repeat' split) <;> rfl

theorem Keypad.released_marks (i : Fin 64) : k.SameMarks (k.released i) := by
  unfold Keypad.released Keypad.handleRelease
  dsimp only
  (repeat' split) <;> exact ⟨rfl, rfl, rfl, rfl⟩

theorem Keypad.stopRepeat_mem {x : Fin 64 × Nat} (h : x ∈ (k.stopRepeat i).typematic) : x ∈ k.typematic := by
  unfold Keypad.stopRepeat at h
  grind

theorem Keypad.released_typematic {x : Fin 64 × Nat} (h : x ∈ (k.released i).typematic) : x ∈ k.typematic := by
  unfold Keypad.released Keypad.handleRelease at h
  dsimp only at h
  (repeat' split at h)
  exacts [h, k.stopRepeat_mem h, h, h]

end

/-- A release at the two blocks (R100, R118). -/
theorem State.applyRelease_eq (s : State) (i : Fin 64) : s.applyRelease i =
    { s with
      keypad := s.keypad.released i
      matcher := { s.matcher with
        slots := if s.keypad.keys[i].state = .down then slotsLeft i s.matcher.slots else s.matcher.slots } } := by
  unfold State.applyRelease Keypad.released
  dsimp only
  split <;> rfl

theorem State.applyRelease_key (s : State) (i j : Fin 64) : (s.applyRelease i).keypad.keys[j] =
    if j = i then { s.keypad.keys[j] with state := .up } else s.keypad.keys[j] := by
  rw [State.applyRelease_eq]
  dsimp only
  rw [Keypad.released_keys]
  exact s.keypad.onKey_key ..

theorem State.applyRelease_sticks {s : State} {i j : Fin 64} (h : (s.applyRelease i).Sticks j) :
    j ≠ i ∧ s.Sticks j := by
  obtain ⟨htime, hdown, hlong⟩ := h
  obtain ⟨-, hscans, -⟩ := s.keypad.released_marks i
  rw [State.applyRelease_key] at hdown hlong
  rw [State.applyRelease_eq] at htime hlong
  split at hdown
  · cases hdown
  next hji =>
    rw [if_neg hji] at hlong
    exact ⟨hji, htime, hdown, hscans ▸ hlong⟩

/-! ## A key alone released -/

theorem State.reexamine_of_not {s : State} {i : Fin 64} (h : s.keypad.keys[i].state ≠ .blocked) : s.reexamine i = s :=
  if_neg fun hi => h hi.1

theorem State.reexamined_of_none {s : State} (h : ∀ i : Fin 64, s.keypad.keys[i].state ≠ .blocked) :
    s.reexamined = s :=
  foldl_of_fixed fun i _ => State.reexamine_of_not (h i)

/-- The state after a scan in which one key was released, with no other key BLOCKED. -/
theorem State.scan_of_lone_release {s : State} {reading : BitVec 64} {i : Fin 64} (hs : s.Quiet)
    (hlone : s.LoneChange reading i) (hdown : s.keypad.keys[i].state ≠ .up)
    (hothers : ∀ k, k ≠ i → ¬s.Sticks k ∧ s.keypad.keys[k].state ≠ .blocked) (hrepeat : s.RepeatNotDue) :
    ∃ keys, s.keypad.Counted keys ∧ (s.scan reading).finish =
      { s with
        clockMs := max s.clockMs (4 * s.keypad.scans)
        keypad := ((s.keypad.begunWith keys).released i).ended s.keypad.kept
        matcher := { s.matcher with
          slots := if s.keypad.keys[i].state = .down then slotsLeft i s.matcher.slots else s.matcher.slots } } := by
  obtain ⟨keys, hcounted, hbegun⟩ := s.begun_eq reading
  obtain ⟨hended, hjust, -, hwaits, hmatcher⟩ := hs.atRest
  obtain ⟨hkept, hscans, -, hdeferred⟩ := (s.keypad.begunWith keys).released_marks i
  have hblocked (j : Fin 64) : ((s.begunWith keys).applyRelease i).keypad.keys[j].state ≠ .blocked := by
    rw [State.applyRelease_key]
    split
    · exact nofun
    next hji => exact (hcounted j).1 ▸ (hothers j hji).2
  have hstuck (j : Fin 64) : ¬((s.begunWith keys).applyRelease i).Sticks j := fun hj => by
    obtain ⟨hji, hsticks⟩ := State.applyRelease_sticks hj
    exact (hothers j hji).1 ((State.begunWith_sticks hcounted j).mp hsticks)
  have hscanned : (s.reach s.keypad.nowMs).keysScanned reading = (s.begunWith keys).applyRelease i := by
    rw [State.keysScanned_of_lone_release hlone hdown, hbegun, State.reexamined_of_none hblocked,
      State.stuckChecked_of_none hstuck]
  rw [State.applyRelease_eq] at hscanned
  have hscan := State.scan_of_keysScanned_not_due hscanned (hdeferred.trans hwaits) hmatcher
    (fun x hx => hscans ▸ hrepeat x ((s.keypad.begunWith keys).released_typematic hx)) hkept
  have hstate : (s.begunWith keys).keypad.keys[i].state = s.keypad.keys[i].state := (hcounted i).1
  refine ⟨keys, hcounted, ?_⟩
  rw [hscan, hstate, State.finish_at_rest]
  · rfl
  · exact hended
  · exact hjust

/-! ## A key alone held for the stuck time (R99) -/

section
variable (k : Keypad) {i : Fin 64}

/-- A changed state of a key leaves the events it makes. -/
theorem Keypad.event_onKey {f : KeyRec → KeyRec} (h : (f k.keys[i]).code = k.keys[i].code) (kind : EventKind) :
    (k.onKey i f).event i kind = k.event i kind := by
  unfold Keypad.event
  rw [Keypad.onKey_self, h]
  rfl

/-- A release has stopped the key's repeats already (R105). -/
theorem Keypad.stopRepeat_queueRelease (kind : EventKind) :
    (k.queueRelease i kind).stopRepeat i = k.queueRelease i kind := by
  simp only [Keypad.queueRelease, Keypad.stopRepeat]
  split <;> simp_all

/-- A key that is reported becomes STUCK. -/
theorem Keypad.stick_reported (h : i ∈ k.reportedDown) : k.stick i =
    { k.onKey i fun r => { r with state := .stuck } with
      queue := withoutRepeats i k.queue ++ [k.event i .stuckRelease], reportedDown := k.reportedDown.filter (· ≠ i)
      typematic := if k.typematic.map Prod.fst = some i then none else k.typematic } := by
  have hstick :
      k.stick i = ((k.onKey i fun r => { r with state := .stuck }).queueRelease i .stuckRelease).stopRepeat i :=
    congrArg (Keypad.stopRepeat i) (if_pos h)
  rw [hstick, Keypad.stopRepeat_queueRelease, Keypad.queueRelease, Keypad.event_onKey k rfl]
  rfl

/-- Another key becomes STUCK. -/
theorem Keypad.stick_unreported (h : i ∉ k.reportedDown) : k.stick i =
    { k.onKey i fun r => { r with state := .stuck } with
      typematic := if k.typematic.map Prod.fst = some i then none else k.typematic } :=
  congrArg (Keypad.stopRepeat i) (if_neg h)

theorem Keypad.stick_fields (i : Fin 64) :
    (k.stick i).keys = (k.onKey i fun r => { r with state := .stuck }).keys ∧ (k.stick i).suppressed = k.suppressed ∧
      (k.stick i).typematic = if k.typematic.map Prod.fst = some i then none else k.typematic := by
  by_cases h : i ∈ k.reportedDown
  · rw [Keypad.stick_reported k h]
    exact ⟨rfl, rfl, rfl⟩
  · rw [Keypad.stick_unreported k h]
    exact ⟨rfl, rfl, rfl⟩

theorem Keypad.stick_marks (i : Fin 64) : k.SameMarks (k.stick i) := by
  by_cases h : i ∈ k.reportedDown
  · rw [Keypad.stick_reported k h]
    exact ⟨rfl, rfl, rfl, rfl⟩
  · rw [Keypad.stick_unreported k h]
    exact ⟨rfl, rfl, rfl, rfl⟩

theorem Keypad.stick_typematic {x : Fin 64 × Nat} (h : x ∈ (k.stick i).typematic) : x ∈ k.typematic := by
  obtain ⟨-, -, htypematic⟩ := k.stick_fields i
  rw [htypematic] at h
  exact k.stopRepeat_mem h

end

/-- A flag reported in a step stands at its end, the mark of its report cleared (R174; log 8). -/
theorem Mgmt.clear_report {m : Mgmt} (hended : m.replyEnded = false) (hjust : m.justReported = 0) (f : StickyFlag) :
    { m.report f with replyEnded := false, justReported := 0 } = { m with sticky := m.withFlag f } :=
  Mgmt.clear_marks (m := { m with sticky := m.withFlag f }) hended hjust

theorem Mgmt.clear_report_unless {m n : Mgmt} (hm : m.replyEnded = false) (hm' : m.justReported = 0)
    (hn : n.replyEnded = false) (hn' : n.justReported = 0) (f : StickyFlag) (p : Prop) [Decidable p] :
    { (if p then m else n.report f) with replyEnded := false, justReported := 0 } =
      if p then m else { n with sticky := n.withFlag f } := by
  split
  exacts [Mgmt.clear_marks hm hm', Mgmt.clear_report hn hn' f]

/-- A key becomes STUCK at the three blocks (R99). -/
theorem State.stuckCheck_eq {s : State} {i : Fin 64} (h : s.Sticks i) : s.stuckCheck i =
    { s with
      keypad := s.keypad.stick i
      matcher := { s.matcher with slots := slotsLeft i s.matcher.slots }
      mgmt :=
        if s.tables.keymap[i].kind = .disabled then s.mgmt
        else (s.mgmt.post (.keyStuck i s.tables.keymap[i].code (decide (i ∈ s.keypad.reportedDown)))).report
          .keyStuck } := by
  have hstuck : s.keypad.becomesStuck s.params.stuckTime i = true := (Keypad.becomesStuck_iff ..).mpr h
  refine (if_pos hstuck).trans ?_
  unfold State.stuckNotice
  by_cases hkind : s.tables.keymap[i].kind = .disabled
  · rw [if_pos hkind]
    exact if_pos hkind
  · rw [if_neg hkind]
    exact if_neg hkind

/-- The state after a scan that changes no key and finds one stuck. -/
theorem State.scan_of_lone_stuck {s : State} {reading : BitVec 64} {i : Fin 64} (hs : s.Quiet)
    (hno : s.NoChange reading) (hstuck : ∀ k, s.Sticks k ↔ k = i) (hrepeat : s.RepeatNotDue) :
    ∃ keys, s.keypad.Counted keys ∧ (s.scan reading).finish =
      { s with
        clockMs := max s.clockMs (4 * s.keypad.scans)
        keypad := ((s.keypad.begunWith keys).stick i).ended s.keypad.kept
        matcher := { s.matcher with slots := slotsLeft i s.matcher.slots }
        mgmt :=
          if s.tables.keymap[i].kind = .disabled then s.mgmt
          else { s.mgmt.post (.keyStuck i s.tables.keymap[i].code (decide (i ∈ s.keypad.reportedDown))) with
                 sticky := s.mgmt.withFlag .keyStuck } } := by
  obtain ⟨keys, hcounted, hbegun⟩ := s.begun_eq reading
  obtain ⟨hended, hjust, -, hwaits, hmatcher⟩ := hs.atRest
  have hsticks (k : Fin 64) : (s.begunWith keys).Sticks k ↔ k = i :=
    (State.begunWith_sticks hcounted k).trans (hstuck k)
  have hscanned : (s.reach s.keypad.nowMs).keysScanned reading = (s.begunWith keys).stuckCheck i := by
    rw [State.keysScanned_of_no_change hno, hbegun, State.stuckChecked_of_lone fun k hk => (hsticks k).mp hk]
  rw [State.stuckCheck_eq ((hsticks i).mpr rfl)] at hscanned
  obtain ⟨hkept, hscans, -, hdeferred⟩ := (s.keypad.begunWith keys).stick_marks i
  have hscan := State.scan_of_keysScanned_not_due hscanned (hdeferred.trans hwaits) hmatcher
    (fun x hx => hscans ▸ hrepeat x ((s.keypad.begunWith keys).stick_typematic hx)) hkept
  have hreplies : (if s.tables.keymap[i].kind = .disabled then s.mgmt
      else (s.mgmt.post (.keyStuck i s.tables.keymap[i].code (decide (i ∈ s.keypad.reportedDown)))).report
        .keyStuck).replyEnded = false := by
    split
    exacts [hended, hended]
  refine ⟨keys, hcounted, ?_⟩
  rw [hscan, State.finish_of_no_reply]
  · refine congrArg (fun m : Mgmt => ({ s with clockMs := _, keypad := _, matcher := _, mgmt := m } : State)) ?_
    exact Mgmt.clear_report_unless
      (n := s.mgmt.post (.keyStuck i s.tables.keymap[i].code (decide (i ∈ s.keypad.reportedDown)))) hended hjust
      hended hjust .keyStuck (s.tables.keymap[i].kind = .disabled)
  · exact hreplies

end Sys2Proof.Machine

namespace Sys2Proof.Proofs

open Sys2Proof.Machine

/-- Settles O38: such a scan comes to the one key's release, or to its becoming STUCK. -/
theorem loneReleaseAndStuckKey : Obligations.LoneReleaseAndStuckKey := by
  refine ⟨fun s reading i hs hlone hdown hothers hrepeat => ?_, fun s reading i hs hno hstuck hrepeat => ?_⟩
  · obtain ⟨keys, hcounted, hscan⟩ := State.scan_of_lone_release hs hlone hdown hothers hrepeat
    let k := s.keypad.begunWith keys
    have hkey (j : Fin 64) : (k.released i).keys[j] = if j = i then { keys[j] with state := .up } else keys[j] := by
      rw [Keypad.released_keys]
      exact k.onKey_key ..
    obtain ⟨hstate, -, hcode⟩ := hcounted i
    have hevent : k.event i .release = s.eventNow i s.keypad.keys[i].code .release :=
      congrArg (fun c => s.eventNow i c .release) hcode
    refine ⟨_, exec_scan hs reading, ?_⟩
    rw [hscan]
    refine ⟨rfl, ?_, fun j hj => ?_, fun h => ?_, fun hd hsup hrep => ?_, fun hd hsup hrep => ?_⟩
    · exact congrArg KeyRec.state ((hkey i).trans (if_pos rfl))
    · exact (congrArg KeyRec.state ((hkey j).trans (if_neg hj))).trans (hcounted j).1
    · rw [Keypad.released_unreported k (by rwa [show k.keys[i].state = _ from hstate])]
      exact ⟨rfl, rfl, rfl, rfl⟩
    · rw [Keypad.released_reported k (hstate.trans hd) hsup hrep, Keypad.queueRelease, Keypad.event_onKey k rfl, hevent]
      exact ⟨rfl, rfl, rfl, rfl⟩
    · rw [Keypad.released_silent k (hstate.trans hd) hsup hrep]
      exact ⟨rfl, rfl, rfl, rfl⟩
  · obtain ⟨keys, hcounted, hscan⟩ := State.scan_of_lone_stuck hs hno hstuck hrepeat
    let k := s.keypad.begunWith keys
    obtain ⟨hkeys, hsuppressed, htypematic⟩ := k.stick_fields i
    obtain ⟨-, -, hcode⟩ := hcounted i
    have hevent : k.event i .stuckRelease = s.eventNow i s.keypad.keys[i].code .stuckRelease :=
      congrArg (fun c => s.eventNow i c .stuckRelease) hcode
    refine ⟨_, exec_scan hs reading, ?_⟩
    rw [hscan]
    refine ⟨rfl, ?_, hsuppressed, fun j hj => ?_, htypematic, fun hrep => ?_, fun hrep => ?_⟩
    · show (k.stick i).keys[i].state = _
      rw [hkeys, Keypad.onKey_self]
    · exact (congrArg KeyRec.state (Keypad.stick_key hj k)).trans (hcounted j).1
    · rw [Keypad.stick_reported k hrep, hevent]
      exact ⟨rfl, rfl⟩
    · rw [Keypad.stick_unreported k hrep]
      exact ⟨rfl, rfl⟩

end Sys2Proof.Proofs
end


section
/-! PROOF. Ghosts: a press that completes a rectangle, and the examination again when another key is released (R94, R97,
R98, R102, R104). -/

namespace Sys2Proof.Machine

/-! ## Rectangles (R94, R97) -/

theorem Keypad.ghosted_iff (k : Keypad) (i : Fin 64) : k.ghosted i = true ↔ InRectangle k.isDown i := by
  simp only [Keypad.ghosted, List.any_eq_true, List.mem_finRange, true_and, Bool.and_eq_true, decide_eq_true_eq,
    InRectangle]
  constructor
  · rintro ⟨r, ⟨hr, hcorner⟩, c, ⟨hc, hrow⟩, hfar⟩
    exact ⟨r, c, hr, hc, hrow, hcorner, hfar⟩
  · rintro ⟨r, c, hr, hc, hrow, hcorner, hfar⟩
    exact ⟨r, ⟨hr, hcorner⟩, c, ⟨hc, hrow⟩, hfar⟩

theorem Keypad.ghosted_eq_false {k : Keypad} {i : Fin 64} (h : ¬InRectangle k.isDown i) : k.ghosted i = false :=
  Bool.eq_false_iff.mpr fun hi => h ((k.ghosted_iff i).mp hi)

/-- The debounce leaves which keys are down. -/
theorem Keypad.begunWith_isDown {k : Keypad} {keys : Vector KeyRec 64} (h : k.Counted keys) :
    (k.begunWith keys).isDown = k.isDown :=
  funext fun j => congrArg KeyState.physicallyDown (h j).1

/-! ## Keys that do not become STUCK (R99) -/

theorem State.Sticks.of_same {s t : State} {j : Fin 64} (h : t.Sticks j) (htables : t.tables = s.tables)
    (hscans : t.keypad.scans = s.keypad.scans) (hstate : t.keypad.keys[j].state = s.keypad.keys[j].state)
    (hentry : t.keypad.keys[j].entry = s.keypad.keys[j].entry) : s.Sticks j := by
  obtain ⟨htime, hdown, hlong⟩ := h
  simp only [State.params, htables] at htime hlong
  rw [hscans, hentry] at hlong
  exact ⟨htime, hstate.symm.trans hdown, hlong⟩

/-- A key that is not DOWN, or became so in this scan, is not stuck. -/
theorem State.Sticks.old {s : State} {j : Fin 64} (h : s.Sticks j) :
    s.keypad.keys[j].state = .down ∧ s.keypad.keys[j].entry ≠ 4 * s.keypad.scans := by
  obtain ⟨htime, hdown, hlong⟩ := h
  exact ⟨hdown, fun he => by omega⟩

/-! ## A press that completes a rectangle (R97) -/

theorem State.applyPress_ghosted {s : State} {i : Fin 64} (h : InRectangle s.keypad.isDown i) : s.applyPress i =
    { s with
      keypad := s.keypad.onKey i fun r => { r with state := .blocked }
      mgmt := s.mgmt.report .ghost } :=
  if_pos ((s.keypad.ghosted_iff i).mpr h)

/-- The state after a scan whose one change is such a press. -/
theorem State.scan_of_ghost {s : State} {reading : BitVec 64} {i : Fin 64} (hs : s.Quiet)
    (hlone : s.LoneChange reading i) (hup : s.keypad.keys[i].state = .up) (hghost : InRectangle s.keypad.isDown i)
    (hstuck : ∀ k, ¬s.Sticks k) (hrepeat : s.RepeatNotDue) :
    ∃ keys, s.keypad.Counted keys ∧ (s.scan reading).finish =
      { s with
        clockMs := max s.clockMs (4 * s.keypad.scans)
        keypad := ((s.keypad.begunWith keys).onKey i fun r => { r with state := .blocked }).ended s.keypad.kept
        mgmt := { s.mgmt with sticky := s.mgmt.withFlag .ghost } } := by
  obtain ⟨keys, hcounted, hbegun⟩ := s.begun_eq reading
  obtain ⟨hended, hjust, -, hwaits, hmatcher⟩ := hs.atRest
  have happlied := State.applyPress_ghosted (s := s.begunWith keys) (i := i)
    ((Keypad.begunWith_isDown hcounted).symm ▸ hghost)
  have hfree (j : Fin 64) : ¬((s.begunWith keys).applyPress i).Sticks j := fun hj => by
    have hkey (hji : j ≠ i) : ((s.begunWith keys).applyPress i).keypad.keys[j] = keys[j] := by
      rw [happlied]
      exact (Keypad.onKey_key ..).trans (if_neg hji)
    by_cases hji : j = i
    · subst hji
      obtain ⟨hdown, -⟩ := hj.old
      rw [happlied] at hdown
      have hblocked := (s.begunWith keys).keypad.onKey_self j fun r => { r with state := .blocked }
      cases hdown.symm.trans (congrArg KeyRec.state hblocked)
    · exact hstuck j ((State.begunWith_sticks hcounted j).mp (hj.of_same (by simp) (by rw [happlied]; rfl)
        (congrArg KeyRec.state (hkey hji)) (congrArg KeyRec.entry (hkey hji))))
  have hscanned : (s.reach s.keypad.nowMs).keysScanned reading = (s.begunWith keys).applyPress i := by
    rw [State.keysScanned_of_lone_press hlone hup, hbegun, State.stuckChecked_of_none hfree]
  rw [happlied] at hscanned
  have hscan := State.scan_of_keysScanned_not_due hscanned hwaits hmatcher hrepeat rfl
  refine ⟨keys, hcounted, ?_⟩
  rw [hscan, State.finish_of_no_reply]
  · exact congrArg (fun m : Mgmt => ({ s with clockMs := _, keypad := _, mgmt := m } : State))
      (Mgmt.clear_report hended hjust .ghost)
  · exact hended

/-! ## A press processed, key by key -/

/-- Inside a scan what comes from other blocks moves the events that wait and the reports that wait, and no more of the
scanner (R96). -/
theorem State.Touches.scanning {s t : State} (h : s.Touches t) (hscan : s.keypad.scanning = true) :
    ∃ q n d, t.keypad = { s.keypad with queue := q, lossCount := n, deferred := d } := by
  refine h.keypad (P := fun k => ∃ q n d, k = { s.keypad with queue := q, lossCount := n, deferred := d })
    (fun k st hk => ?_) (fun k q n _ hk => ?_) ⟨_, _, _, rfl⟩
  · obtain ⟨q, n, d, rfl⟩ := hk
    exact ⟨q, n, d ++ [st], if_pos hscan⟩
  · obtain ⟨_, _, d, rfl⟩ := hk
    exact ⟨q, n, d, rfl⟩

section
variable {s : State}

/-- Processing a press changes no key's state. -/
theorem State.processPress_key (hscan : s.keypad.scanning = true) (i j : Fin 64) :
    (s.processPress i).keypad.keys[j].state = s.keypad.keys[j].state ∧
      (s.processPress i).keypad.keys[j].entry = s.keypad.keys[j].entry := by
  obtain ⟨u, hdecides, -, -, htouches⟩ := s.processPress_cases i
  obtain ⟨q, n, d, hu⟩ := htouches.scanning ((congrArg KeyMark.scanning (hdecides.mark j)).trans hscan)
  rw [hu]
  dsimp only
  rw [hdecides.key j]
  exact ⟨rfl, rfl⟩

/-- A BLOCKED key outside every rectangle (R98). -/
theorem State.reexamine_free {i : Fin 64} (hblocked : s.keypad.keys[i].state = .blocked)
    (hfree : ¬InRectangle s.keypad.isDown i) :
    s.reexamine i = (s.onKeypad fun k => (k.enterDown i).unsuppress i).processPress i :=
  if_pos ⟨hblocked, Keypad.ghosted_eq_false hfree⟩

theorem State.reexamine_held {i : Fin 64} (hghost : InRectangle s.keypad.isDown i) : s.reexamine i = s :=
  if_neg fun h => by cases h.2.symm.trans ((s.keypad.ghosted_iff i).mpr hghost)

/-- A key becomes DOWN, its entry time the present scan's (R97, R98). -/
theorem Keypad.enterDown_key (k : Keypad) (i j : Fin 64) : (k.enterDown i).keys[j] =
    if j = i then { k.keys[j] with state := .down, entry := 4 * k.scans } else k.keys[j] :=
  k.onKey_key ..

end

/-! ## One BLOCKED key examined again (R98) -/

/-- The part as a BLOCKED key's press is processed again: the key is DOWN from this scan on, and not suppressed. -/
def State.unblocked (i : Fin 64) (s : State) : State := s.onKeypad fun k => (k.enterDown i).unsuppress i

section
variable {s : State} {i : Fin 64}

/-- The keys after the press of a key that became DOWN in this scan was processed. -/
theorem State.enteredDown_key {w : State} (hkeys : w.keypad.keys = (s.keypad.enterDown i).keys)
    (hscanning : w.keypad.scanning = true) (j : Fin 64) : let r := (w.processPress i).keypad.keys[j]
    r.state = (if j = i then .down else s.keypad.keys[j].state) ∧
      r.entry = (if j = i then 4 * s.keypad.scans else s.keypad.keys[j].entry) := by
  have hpressed := State.processPress_key hscanning i j
  rw [hkeys, Keypad.enterDown_key] at hpressed
  split at hpressed
  next hji => simpa only [hji, if_true] using hpressed
  next hji => simpa only [hji, if_false] using hpressed

theorem State.enteredDown_sticks {w : State} (hkeys : w.keypad.keys = (s.keypad.enterDown i).keys)
    (hscanning : w.keypad.scanning = true) (hsame : w.keypad.scans = s.keypad.scans) (htables : w.tables = s.tables)
    {j : Fin 64} (h : (w.processPress i).Sticks j) : s.Sticks j := by
  have hscans : (w.processPress i).keypad.scans = s.keypad.scans :=
    (congrArg KeyMark.scans (State.processPress_mark hscanning i j)).trans hsame
  obtain ⟨hstate, hentry⟩ := State.enteredDown_key hkeys hscanning j
  split at hstate
  next hji =>
    rw [if_pos hji] at hentry
    exact absurd (hentry.trans (by rw [hscans])) h.old.2
  next hji =>
    rw [if_neg hji] at hentry
    exact h.of_same (by simpa using htables) hscans hstate hentry

/-- The one BLOCKED key's press is processed where no rectangle holds it. -/
theorem State.reexamined_lone (hscanning : s.keypad.scanning = true)
    (hblocked : ∀ k : Fin 64, s.keypad.keys[k].state = .blocked ↔ k = i)
    (hfree : ¬InRectangle s.keypad.isDown i) : s.reexamined = (s.unblocked i).processPress i := by
  have hfreed : s.reexamine i = (s.unblocked i).processPress i := State.reexamine_free ((hblocked i).mpr rfl) hfree
  refine (foldl_allKeys_of_lone (fun k hki => State.reexamine_of_not fun hk => hki ((hblocked k).mp hk))
    fun k hki => ?_).trans hfreed
  rw [hfreed]
  refine State.reexamine_of_not fun hk => hki ((hblocked k).mp ?_)
  rw [← hk, (State.enteredDown_key (w := s.unblocked i) rfl hscanning k).1, if_neg hki]

end

/-! ## Another key released (R98) -/

theorem State.applyRelease_scanning {s : State} {j : Fin 64} (h : s.keypad.scanning = true) :
    (s.applyRelease j).keypad.scanning = true :=
  (congrArg KeyMark.scanning (State.applyRelease_mark j j)).trans h

/-- A key is released while another is the one BLOCKED key, and no key but it is held for the stuck time. -/
structure State.ReleasedUnder (reading : BitVec 64) (i j : Fin 64) (s : State) : Prop where
  lone : s.LoneChange reading j
  down : s.keypad.keys[j].state ≠ .up
  other : i ≠ j
  blocked : ∀ k : Fin 64, s.keypad.keys[k].state = .blocked ↔ k = i ∨ (k = j ∧ s.keypad.keys[j].state = .blocked)
  stuck : ∀ k, k ≠ j → ¬s.Sticks k

section
variable {s : State} {reading : BitVec 64} {i j : Fin 64} {keys : Vector KeyRec 64} (h : s.ReleasedUnder reading i j)
  (hcounted : s.keypad.Counted keys)
include h hcounted

/-- The keys as the release leaves them. -/
theorem State.ReleasedUnder.key (k : Fin 64) : let r := ((s.begunWith keys).applyRelease j).keypad.keys[k]
    r.state = (if k = j then .up else s.keypad.keys[k].state) ∧ (r.state = .blocked ↔ k = i) := by
  dsimp only
  rw [State.applyRelease_key]
  split
  next hkj => exact ⟨rfl, nofun, fun hki => absurd (hki.symm.trans hkj) h.other⟩
  next hkj =>
    obtain ⟨hstate, -⟩ := hcounted k
    exact ⟨hstate, (hstate ▸ h.blocked k).trans (or_iff_left fun hk => hkj hk.1)⟩

theorem State.ReleasedUnder.isDown : ((s.begunWith keys).applyRelease j).keypad.isDown =
    fun k => decide (k ≠ j) && s.keypad.isDown k := by
  funext k
  refine (congrArg KeyState.physicallyDown (h.key hcounted k).1).trans ?_
  by_cases hkj : k = j <;> simp [hkj, KeyState.physicallyDown, Keypad.isDown]

theorem State.ReleasedUnder.sticks (k : Fin 64) : ¬((s.begunWith keys).applyRelease j).Sticks k := fun hk => by
  obtain ⟨hkj, hsticks⟩ := State.applyRelease_sticks hk
  exact h.stuck k hkj ((State.begunWith_sticks hcounted k).mp hsticks)

/-- The rectangle stays, and with it the BLOCKED key. -/
theorem State.ReleasedUnder.keysScanned_held (hbegun : s.begun reading = s.begunWith keys)
    (hrectangle : InRectangle (fun k => decide (k ≠ j) && s.keypad.isDown k) i) :
    (s.reach s.keypad.nowMs).keysScanned reading = (s.begunWith keys).applyRelease j := by
  have hsame (k : Fin 64) : ((s.begunWith keys).applyRelease j).reexamine k = (s.begunWith keys).applyRelease j := by
    by_cases hki : k = i
    · exact State.reexamine_held (by rw [h.isDown hcounted, hki]; exact hrectangle)
    · exact State.reexamine_of_not fun hk => hki ((h.key hcounted k).2.mp hk)
  rw [State.keysScanned_of_lone_release h.lone h.down, hbegun, State.reexamined, foldl_of_fixed fun k _ => hsame k,
    State.stuckChecked_of_none (h.sticks hcounted)]

/-- The rectangle is gone, and the BLOCKED key's press is processed. -/
theorem State.ReleasedUnder.keysScanned_freed (hbegun : s.begun reading = s.begunWith keys)
    (hrectangle : ¬InRectangle (fun k => decide (k ≠ j) && s.keypad.isDown k) i) :
    (s.reach s.keypad.nowMs).keysScanned reading =
      (((s.begunWith keys).applyRelease j).unblocked i).processPress i := by
  have hsticks := h.sticks hcounted
  have hscanning : ((s.begunWith keys).applyRelease j).keypad.scanning = true := State.applyRelease_scanning rfl
  have hreexamined := State.reexamined_lone hscanning (fun k => (h.key hcounted k).2) (by rwa [h.isDown hcounted])
  rw [State.keysScanned_of_lone_release h.lone h.down, hbegun, hreexamined]
  exact State.stuckChecked_of_none fun k hk =>
    hsticks k (State.enteredDown_sticks rfl (w := State.unblocked i _) hscanning rfl rfl hk)

end

/-! ## A NORMAL press queued (R102 to R104) -/

section
variable {s : State} {i : Fin 64}

/-- A press on which no slot fires, with no report waiting, is the matcher's own. -/
theorem State.matcherPress_silent (hwaits : s.matcher.deferred = [])
    (hfires : s.matcher.firesOn s.tables.sequences i = none) :
    s.matcherPress i = s.onMatcher (Matcher.press s.tables.sequences s.params.stepTimeout s.clockMs i) := by
  unfold State.matcherPress State.judgePress
  rw [hwaits]
  simp only [hfires]
  rfl

theorem State.handOn_of_not_anyKey
    (h : ¬(s.params.anyKey = true ∧ s.keypad.kept = .off ∧ s.power.state = .off)) : s.handOn i = s.matcherPress i :=
  if_neg fun hi => h (by simpa [and_assoc] using hi)

/-- A press that the display path passed, with no any-key power-on and no slot firing. -/
theorem State.passedPress_silent (e : KeyEntry)
    (hany : ¬(s.params.anyKey = true ∧ s.keypad.kept = .off ∧ s.power.state = .off)) (hwaits : s.matcher.deferred = [])
    (hfires : s.matcher.firesOn s.tables.sequences i = none) : s.passedPress i e =
      ((s.decidePress i e).clickFor e).onMatcher
        (Matcher.press s.tables.sequences s.params.stepTimeout s.clockMs i) := by
  have hkept : (s.decidePress i e).keypad.kept = s.keypad.kept :=
    congrArg KeyMark.kept ((s.decidePress_decides i e).mark i)
  unfold State.passedPress
  rw [State.handOn_of_not_anyKey (by simpa [State.params, hkept] using hany),
    State.matcherPress_silent (by simpa using hwaits) (by simpa using hfires)]
  simp [State.params]

/-- A press decided at the scanner (R104, R107). -/
def Keypad.decided (i : Fin 64) (e : KeyEntry) (delay : Nat) (k : Keypad) : Keypad :=
  if k.kept.accepts then (if k.load + 2 ≤ 32 then k.queuePress i e delay else k.dropPress i) else k

theorem State.decidePress_keypad (e : KeyEntry) :
    (s.decidePress i e).keypad = s.keypad.decided i e s.params.repeatDelay := by
  unfold State.decidePress Keypad.decided
  simp only [Keypad.pressFits, decide_eq_true_eq]
  (repeat' split) <;> simp

/-- A path that is not DIMMED passes every press (R103, R162). -/
theorem State.keyOffer_passed (h : s.path.state ≠ .dimmed) : s.keyOffer.2 = false := by
  unfold State.keyOffer State.wakeOffer
  split
  · rfl
  · rw [if_neg (by simp [DisplayPath.wakeable, h])]

/-- In RUNNING and SHUTDOWN, with room and the display path not DIMMED, a NORMAL press is queued. -/
theorem State.processPress_queued (hkind : s.tables.keymap[i].kind = .normal) (haccepts : s.keypad.kept.accepts = true)
    (hpath : s.path.state ≠ .dimmed) (hroom : s.keypad.load + 2 ≤ 32) (hwaits : s.matcher.deferred = [])
    (hfires : s.matcher.firesOn s.tables.sequences i = none) :
    (s.processPress i).keypad = s.keypad.queuePress i s.tables.keymap[i] s.params.repeatDelay ∧
      (s.processPress i).matcher.deferred = [] := by
  have hany : ¬(s.keyOffer.1.params.anyKey = true ∧ s.keyOffer.1.keypad.kept = .off ∧
      s.keyOffer.1.power.state = .off) := fun ⟨_, hoff, _⟩ => by
    simp only [State.keyOffer_keeps] at hoff
    rw [hoff] at haccepts
    cases haccepts
  rw [State.processPress_normal hkind, State.keyOffer_passed hpath, if_neg (by decide),
    State.passedPress_silent _ hany (by simpa using hwaits) (by simpa using hfires)]
  refine ⟨?_, by simpa [Matcher.press] using hwaits⟩
  simp [State.decidePress_keypad, State.params, Keypad.decided, haccepts, hroom]

end

/-- A press queued with a repeat delay above 0 repeats later (R107). -/
theorem Keypad.queuePress_typematic {k : Keypad} {i : Fin 64} {e : KeyEntry} {delay : Nat} (hdelay : 0 < delay)
    {x : Fin 64 × Nat} (hx : x ∈ (k.queuePress i e delay).typematic) : 4 * k.scans < x.2 := by
  simp only [Keypad.queuePress, Keypad.nowMs] at hx
  split at hx
  · cases hx
    simp only
    omega
  · cases hx

/-- A release leaves at least as much room (R105, R108). -/
theorem Keypad.released_load (k : Keypad) (i : Fin 64) : (k.released i).load ≤ k.load := by
  by_cases hd : k.keys[i].state = .down ∧ i ∉ k.suppressed
  · obtain ⟨hdown, hs⟩ := hd
    by_cases hr : i ∈ k.reportedDown
    · have hqueue := List.length_filter_le (fun e => !(decide (e.key = i) && decide (e.kind = .autoRepeat))) k.queue
      have hleft : (k.reportedDown.filter (· ≠ i)).length < k.reportedDown.length :=
        List.length_filter_lt_length_iff_exists.mpr ⟨i, hr, by simp⟩
      rw [Keypad.released_reported k hdown hs hr]
      simp only [Keypad.load, Keypad.queueRelease, Keypad.onKey, List.length_append, List.length_singleton]
      omega
    · rw [Keypad.released_silent k hdown hs hr]
      exact le_rfl
  · rw [Keypad.released_unreported k (by simpa [imp_iff_not_or] using hd)]
    exact le_rfl

/-- A release of one key leaves another in the suppressed set, or out of it (R100). -/
theorem Keypad.mem_released_suppressed (k : Keypad) {i j : Fin 64} (h : j ≠ i) :
    j ∈ (k.released i).suppressed ↔ j ∈ k.suppressed := by
  have hfilter : j ∈ k.suppressed.filter (· ≠ i) ↔ j ∈ k.suppressed := by simp [h]
  unfold Keypad.released Keypad.handleRelease
  dsimp only
  (repeat' split)
  exacts [hfilter, Iff.rfl, Iff.rfl, hfilter]

/-! ## What a scan leaves of the state after its work on the keys -/

section
variable {s u : State} {reading : BitVec 64} (hs : s.Quiet) (hu : (s.reach s.keypad.nowMs).keysScanned reading = u)
include hs hu

theorem State.scan_keys : (s.scan reading).finish.keypad.keys = u.keypad.keys := by
  obtain ⟨hkeypad, -⟩ := State.finish_blocks ((s.scan_soft reading).trans hs.2)
  obtain ⟨hkeys, -⟩ := (u.keypad.repeatStep s.params.repeatPeriod).endScan_keys
  rw [hkeypad, State.scan_keypad, hu, hkeys, Keypad.repeatStep_rest]

theorem State.scan_keypad_of_none (hkeypad : u.keypad.deferred = []) (hmatcher : u.matcher.deferred = []) :
    (s.scan reading).finish.keypad = (u.keypad.repeatStep s.params.repeatPeriod).ended u.keypad.kept := by
  obtain ⟨hsame, -⟩ := State.finish_blocks ((s.scan_soft reading).trans hs.2)
  rw [hsame, State.scan_of_keysScanned hu hkeypad hmatcher]

theorem State.scan_suppressed_of_none (hkeypad : u.keypad.deferred = []) (hmatcher : u.matcher.deferred = []) :
    (s.scan reading).finish.keypad.suppressed = u.keypad.suppressed := by
  rw [State.scan_keypad_of_none hs hu hkeypad hmatcher, Keypad.repeatStep_rest]
  rfl

end

/-! ## After another key's release -/

/-- The part after a key's release. -/
theorem State.begunWith_applyRelease {s : State} {keys : Vector KeyRec 64} (hcounted : s.keypad.Counted keys)
    (j : Fin 64) : (s.begunWith keys).applyRelease j =
      { s with
        clockMs := max s.clockMs (4 * s.keypad.scans), keypad := (s.keypad.begunWith keys).released j
        matcher := { s.matcher with
          slots := if s.keypad.keys[j].state = .down then slotsLeft j s.matcher.slots else s.matcher.slots } } := by
  obtain ⟨hstate, -⟩ := hcounted j
  rw [State.applyRelease_eq, ← hstate]
  rfl

section
variable {s : State} {reading : BitVec 64} {i j : Fin 64} (hs : s.Quiet) (h : s.ReleasedUnder reading i j)
include hs h

/-- A BLOCKED key that a rectangle still holds (R98). -/
theorem State.ReleasedUnder.scan_held (hrectangle : InRectangle (fun k => decide (k ≠ j) && s.keypad.isDown k) i) :
    let t := (s.scan reading).finish
    t.keypad.keys[j].state = .up ∧ t.keypad.keys[i].state = .blocked ∧
      (i ∈ t.keypad.suppressed ↔ i ∈ s.keypad.suppressed) ∧ t.mgmt = s.mgmt := by
  intro t
  obtain ⟨keys, hcounted, hbegun⟩ := s.begun_eq reading
  obtain ⟨hended, hjust, -, hwaits, hmatcher⟩ := hs.atRest
  obtain ⟨-, -, -, hdeferred⟩ := (s.keypad.begunWith keys).released_marks j
  have hscanned := h.keysScanned_held hcounted hbegun hrectangle
  have hkey (k : Fin 64) := h.key hcounted k
  rw [State.begunWith_applyRelease hcounted] at hscanned hkey
  have hkeys : t.keypad.keys = ((s.keypad.begunWith keys).released j).keys := State.scan_keys hs hscanned
  have hsuppressed : t.keypad.suppressed = ((s.keypad.begunWith keys).released j).suppressed :=
    State.scan_suppressed_of_none hs hscanned (hdeferred.trans hwaits) hmatcher
  refine ⟨?_, ?_, ?_, ?_⟩
  · rw [hkeys]
    exact (hkey j).1.trans (if_pos rfl)
  · rw [hkeys]
    exact (hkey i).2.mpr rfl
  · rw [hsuppressed]
    exact Keypad.mem_released_suppressed _ h.other
  · have hscan := State.scan_of_keysScanned hscanned (hdeferred.trans hwaits) hmatcher
    show (s.scan reading).finish.mgmt = s.mgmt
    rw [hscan, State.finish_at_rest]
    exacts [hended, hjust]

/-- A BLOCKED key that no rectangle holds any more (R98). -/
theorem State.ReleasedUnder.scan_freed (hrectangle : ¬InRectangle (fun k => decide (k ≠ j) && s.keypad.isDown k) i) :
    let t := (s.scan reading).finish
    t.keypad.keys[j].state = .up ∧ t.keypad.keys[i].state = .down ∧ t.keypad.keys[i].entry = 4 * s.keypad.scans := by
  intro t
  obtain ⟨keys, hcounted, hbegun⟩ := s.begun_eq reading
  have hkeys : t.keypad.keys = _ := State.scan_keys hs (h.keysScanned_freed hcounted hbegun hrectangle)
  have hscanning : ((s.begunWith keys).applyRelease j).keypad.scanning = true := State.applyRelease_scanning rfl
  have hscans : ((s.begunWith keys).applyRelease j).keypad.scans = s.keypad.scans :=
    congrArg KeyMark.scans (State.applyRelease_mark (s := s.begunWith keys) j j)
  obtain ⟨hother, -⟩ := State.enteredDown_key (i := i) (w := State.unblocked i _) rfl hscanning j
  obtain ⟨hdown, hentry⟩ := State.enteredDown_key (i := i) (w := State.unblocked i _) rfl hscanning i
  rw [hkeys, hother, if_neg h.other.symm, (h.key hcounted j).1, hdown, hentry, hscans]
  simp only [if_true, and_self]

/-- What the part is as the freed key's press is processed. -/
theorem State.ReleasedUnder.freed (hrectangle : ¬InRectangle (fun k => decide (k ≠ j) && s.keypad.isDown k) i) :
    ∃ w : State, (s.reach s.keypad.nowMs).keysScanned reading = w.processPress i ∧ w.tables = s.tables ∧
      w.path = s.path ∧ w.keypad.kept = s.keypad.kept ∧ w.keypad.scans = s.keypad.scans ∧ w.keypad.deferred = [] ∧
      w.keypad.load ≤ s.keypad.load ∧ i ∉ w.keypad.suppressed ∧
      (w.matcher = s.matcher ∨ w.matcher = s.matcher.leave j) := by
  obtain ⟨keys, hcounted, hbegun⟩ := s.begun_eq reading
  obtain ⟨-, -, -, hwaits, -⟩ := hs.atRest
  obtain ⟨hkept, hscans, -, hdeferred⟩ := (s.keypad.begunWith keys).released_marks j
  refine ⟨_, h.keysScanned_freed hcounted hbegun hrectangle, ?_⟩
  rw [State.begunWith_applyRelease hcounted]
  refine ⟨rfl, rfl, hkept, hscans, hdeferred.trans hwaits, (s.keypad.begunWith keys).released_load j,
    Keypad.notMem_unsuppress i _, ?_⟩
  unfold State.unblocked
  dsimp only [State.onKeypad]
  split
  exacts [.inr rfl, .inl rfl]

/-- The press of a DISABLED key leaves it out of the suppressed set (R98, R102). -/
theorem State.ReleasedUnder.scan_freed_disabled
    (hrectangle : ¬InRectangle (fun k => decide (k ≠ j) && s.keypad.isDown k) i)
    (hkind : s.tables.keymap[i].kind = .disabled) : i ∉ (s.scan reading).finish.keypad.suppressed := by
  obtain ⟨w, hscanned, htables, -, -, -, hwaits, -, hfree, hmatcher⟩ := h.freed hs hrectangle
  have hquiet : w.matcher.deferred = [] := by
    obtain ⟨-, -, -, -, hquiet⟩ := hs.atRest
    obtain hm | hm := hmatcher <;> rw [hm]
    exacts [hquiet, hquiet]
  rw [State.processPress_disabled (htables ▸ hkind)] at hscanned
  rwa [State.scan_suppressed_of_none hs hscanned hwaits hquiet]

/-- The press of a NORMAL key is queued where there is room (R98, R102, R104). -/
theorem State.ReleasedUnder.scan_freed_normal
    (hrectangle : ¬InRectangle (fun k => decide (k ≠ j) && s.keypad.isDown k) i)
    (hkind : s.tables.keymap[i].kind = .normal) (haccepts : s.keypad.kept.accepts = true)
    (hpath : s.path.state ≠ .dimmed) (hroom : s.keypad.load + 2 ≤ 32) (hdelay : 0 < s.params.repeatDelay)
    (hleft : (s.matcher.leave j).firesOn s.tables.sequences i = none)
    (hfires : s.matcher.firesOn s.tables.sequences i = none) :
    let t := (s.scan reading).finish
    i ∉ t.keypad.suppressed ∧ i ∈ t.keypad.reportedDown ∧
      t.keypad.queue.getLast? = some (s.eventNow i s.tables.keymap[i].code .press) := by
  intro t
  obtain ⟨-, -, -, -, hquiet⟩ := hs.atRest
  obtain ⟨w, hscanned, htables, hsame, hkept, hscans, hwaits, hload, hfree, hmatcher⟩ := h.freed hs hrectangle
  have hsilent : w.matcher.deferred = [] ∧ w.matcher.firesOn w.tables.sequences i = none := by
    rw [htables]
    obtain hm | hm := hmatcher <;> rw [hm]
    exacts [⟨hquiet, hfires⟩, ⟨hquiet, hleft⟩]
  obtain ⟨hpressed, hnone⟩ := State.processPress_queued (s := w) (i := i) (htables ▸ hkind) (hkept ▸ haccepts)
    (hsame ▸ hpath) ((Nat.add_le_add_right hload 2).trans hroom) hsilent.1 hsilent.2
  have hempty : (w.processPress i).keypad.deferred = [] := by rw [hpressed]; exact hwaits
  have hkeypad := State.scan_keypad_of_none hs hscanned hempty hnone
  have hlater (x) (hx : x ∈ (w.processPress i).keypad.typematic) : 4 * (w.processPress i).keypad.scans < x.2 := by
    rw [hpressed] at hx ⊢
    exact Keypad.queuePress_typematic (by rwa [State.params, htables]) hx
  rw [Keypad.repeatStep_of_not_due hlater, hpressed] at hkeypad
  rw [show t.keypad = _ from hkeypad]
  refine ⟨hfree, (mem_joinSet ..).mpr (.inr rfl), ?_⟩
  show (w.keypad.queue ++ [_]).getLast? = _
  rw [List.getLast?_concat, htables, State.eventNow, ← hscans]
  rfl

end

end Sys2Proof.Machine

namespace Sys2Proof.Proofs

open Sys2Proof.Machine

/-- Settles O39: such a scan comes to the key's BLOCKED state, or to a release and one key examined again. -/
theorem ghostsAreBlocked : Obligations.GhostsAreBlocked := by
  refine ⟨fun k r c i => ⟨?_, rfl, rfl, k.isDown_iff i⟩, fun s reading i hs hlone hup hghost hstuck hrepeat => ?_,
    fun s reading i j hs hlone hdown hij hblocked hstuck => ?_⟩
  · simp only [keyAt]
    omega
  · obtain ⟨keys, hcounted, hscan⟩ := State.scan_of_ghost hs hlone hup hghost hstuck hrepeat
    have hkey (k : Fin 64) := (s.keypad.begunWith keys).onKey_key i k fun r => { r with state := .blocked }
    refine ⟨_, exec_scan hs reading, ?_⟩
    rw [hscan]
    refine ⟨rfl, ?_, fun k hk => ?_, rfl, rfl, rfl, rfl⟩
    · exact congrArg KeyRec.state ((hkey i).trans (if_pos rfl))
    · exact (congrArg KeyRec.state ((hkey k).trans (if_neg hk))).trans (hcounted k).1
  · intro rectangle
    have h : s.ReleasedUnder reading i j := ⟨hlone, hdown, hij, hblocked, hstuck⟩
    refine ⟨_, exec_scan hs reading, ?_⟩
    by_cases hrectangle : rectangle
    · obtain ⟨hup, hstays, hsuppressed, hmgmt⟩ := h.scan_held hs hrectangle
      exact ⟨hup, fun _ => ⟨hstays, hsuppressed, hmgmt⟩, fun hno => absurd hrectangle hno⟩
    · obtain ⟨hup, hfreed, hentry⟩ := h.scan_freed hs hrectangle
      refine ⟨hup, fun hyes => absurd hyes hrectangle, fun _ => ⟨hfreed, hentry, ?_, ?_⟩⟩
      · exact h.scan_freed_disabled hs hrectangle
      · exact fun hkind hkept hpath hroom _ hdelay hleft hfires =>
          h.scan_freed_normal hs hrectangle hkind (PowerState.accepts_iff.mpr hkept) hpath hroom hdelay hleft hfires

end Sys2Proof.Proofs
end


section
/-! PROOF. A key pressed alone outside every rectangle: its kind, the offer to the display path, the decision at the
scanner and the hand-on (R97, R102 to R107, R163). -/

namespace Sys2Proof.Machine

/-! ## Up to the press (R97) -/

/-- The part as the press of a key that has just become DOWN is processed. -/
def State.pressedAt (i : Fin 64) (keys : Vector KeyRec 64) (s : State) : State :=
  (s.begunWith keys).onKeypad (Keypad.enterDown i)

/-- One key's press, alone and outside every rectangle, at a scan that finds no key stuck. -/
structure State.PressedAlone (reading : BitVec 64) (i : Fin 64) (s : State) : Prop where
  quiet : s.Quiet
  lone : s.LoneChange reading i
  up : s.keypad.keys[i].state = .up
  free : ¬InRectangle s.keypad.isDown i
  stuck : ∀ k, ¬s.Sticks k

section
variable {s : State} {reading : BitVec 64} {i : Fin 64} (h : s.PressedAlone reading i)
include h

/-- The scan's work comes to the key's press. -/
theorem State.PressedAlone.keysScanned : ∃ keys, s.keypad.Counted keys ∧
    (s.reach s.keypad.nowMs).keysScanned reading = (s.pressedAt i keys).processPress i := by
  obtain ⟨keys, hcounted, hbegun⟩ := s.begun_eq reading
  have happlied : (s.begunWith keys).applyPress i = (s.pressedAt i keys).processPress i :=
    if_neg (Bool.eq_false_iff.mp (Keypad.ghosted_eq_false ((Keypad.begunWith_isDown hcounted).symm ▸ h.free)))
  refine ⟨keys, hcounted, ?_⟩
  rw [State.keysScanned_of_lone_press h.lone h.up, hbegun, happlied]
  refine State.stuckChecked_of_none fun k hk => h.stuck k ((State.begunWith_sticks hcounted k).mp ?_)
  exact State.enteredDown_sticks (w := s.pressedAt i keys) rfl rfl rfl rfl hk

/-- The keys after such a scan. -/
theorem State.PressedAlone.keys : let t := (s.scan reading).finish
    t.keypad.keys[i].state = .down ∧ t.keypad.keys[i].entry = 4 * s.keypad.scans ∧
      ∀ k : Fin 64, k ≠ i → t.keypad.keys[k].state = s.keypad.keys[k].state := by
  intro t
  obtain ⟨keys, hcounted, hscanned⟩ := h.keysScanned
  have hkeys : t.keypad.keys = _ := State.scan_keys h.quiet hscanned
  have hkey (k : Fin 64) := State.enteredDown_key (i := i) (s := s.begunWith keys) (w := s.pressedAt i keys) rfl rfl k
  rw [hkeys]
  refine ⟨(hkey i).1.trans (if_pos rfl), (hkey i).2.trans (if_pos rfl), fun k hk => ?_⟩
  exact (hkey k).1.trans ((if_neg hk).trans (hcounted k).1)

end

/-! ## The offer to the display path (R103, R162, R163) -/

/-- An injection as the statements have it, once the marks of the step are cleared (R160, R163; log 8). -/
theorem State.inject_unmarked {s : State} (hended : s.mgmt.replyEnded = false) (hjust : s.mgmt.justReported = 0)
    (e : InjectEntry) : (s.inject e).unmarked = s.injected e := by
  have hclear := Mgmt.clear_marks hended hjust
  unfold State.inject State.injected State.placeFrame State.reportIf
  dsimp only
  split
  · split
    · exact congrArg (fun m : Mgmt => ({ s with path := _, switch := _, mgmt := m } : State))
        (Mgmt.clear_report hended hjust .queueDiscard)
    · exact congrArg (fun m : Mgmt => ({ s with path := _, switch := _, mgmt := m } : State)) hclear
  · exact congrArg (fun m : Mgmt => ({ s with mgmt := m } : State)) hclear

/-- A release of a frame to the display leaves the marks of the step. -/
theorem State.displayRelease_unmarked (s : State) : s.displayRelease.unmarked = s.unmarked.displayRelease := by
  unfold State.displayRelease State.unmarked
  dsimp only
  split <;> rfl

theorem State.wake_unmarked {s : State} (hended : s.mgmt.replyEnded = false) (hjust : s.mgmt.justReported = 0) :
    s.wake.unmarked = s.wakes := by
  have hopened (u : State) : (u.onPath fun p => { p with state := .opened, idleTimer := s.idleStart }).unmarked =
      u.unmarked.onPath fun p => { p with state := .opened, idleTimer := s.idleStart } := rfl
  unfold State.wake State.wakes
  dsimp only
  rw [State.displayRelease_unmarked, hopened, State.inject_unmarked hended hjust]
  rfl

/-- A wake neither reads nor changes the scanner. -/
theorem State.wakes_onKeypad (s : State) (k : Keypad) :
    State.wakes { s with keypad := k } = { s.wakes with keypad := k } := by
  have hrelease (u : State) : State.displayRelease { u with keypad := k } = { u.displayRelease with keypad := k } := by
    unfold State.displayRelease
    dsimp only
    split <;> rfl
  have hinject (e : InjectEntry) : State.injected e { s with keypad := k } = { s.injected e with keypad := k } := by
    unfold State.injected
    dsimp only
    split <;> rfl
  unfold State.wakes
  rw [hinject]
  exact hrelease { s.injected s.tables.wake with
    path := { (s.injected s.tables.wake).path with state := .opened, idleTimer := s.idleStart } }

theorem State.keyOffer_swallowed {s : State} (hstate : s.path.state = .dimmed) (hdim : s.path.heatDim = false)
    (hswallow : s.params.swallow = true) : s.keyOffer = (s.wake, true) := by
  simp [State.keyOffer, State.wakeOffer, DisplayPath.wakeable, hstate, hdim, hswallow]

theorem State.keyOffer_woken {s : State} (hstate : s.path.state = .dimmed) (hdim : s.path.heatDim = false) :
    s.keyOffer.1 = s.wake := by
  simp [State.keyOffer, State.wakeOffer, DisplayPath.wakeable, hstate, hdim]

theorem State.keyOffer_opened {s : State} (hstate : s.path.state = .opened) :
    s.keyOffer.1 = s.onPath fun p => { p with idleTimer := s.idleStart } := by
  simp [State.keyOffer, State.activity, hstate]

theorem State.keyOffer_same {s : State} (hopen : s.path.state ≠ .opened)
    (hother : s.path.state ≠ .dimmed ∨ s.path.heatDim = true) : s.keyOffer.1 = s := by
  obtain h | h := hother <;> simp [State.keyOffer, State.wakeOffer, DisplayPath.wakeable, hopen, h]

theorem State.keyOffer_not_swallowed {s : State}
    (h : ¬(s.path.state = .dimmed ∧ s.path.heatDim = false ∧ s.params.swallow = true)) : s.keyOffer.2 = false := by
  simp only [State.keyOffer, State.wakeOffer, DisplayPath.wakeable]
  grind

/-- No reply ends at an offer, nor at a decision. -/
theorem State.keyOffer_replyEnded (s : State) : s.keyOffer.1.mgmt.replyEnded = s.mgmt.replyEnded := by
  have hinject (e : InjectEntry) : (s.inject e).mgmt.replyEnded = s.mgmt.replyEnded := by
    unfold State.inject State.placeFrame State.reportIf
    (repeat' split) <;> rfl
  unfold State.keyOffer State.wakeOffer State.wake
  (repeat' split) <;> simp [hinject]

theorem State.decidePress_replyEnded (i : Fin 64) (e : KeyEntry) (s : State) :
    (s.decidePress i e).mgmt.replyEnded = s.mgmt.replyEnded := by
  unfold State.decidePress
  (repeat' split) <;> rfl

/-! ## The any-key power-on (R106, R116) -/

/-- The sequencer after an any-key power-on (R53, R70, R74). -/
theorem State.entered_anyKey (s : State) : s.entered (toPreheat s.params) [(.keyPowerOn, some .anyKey)] =
    (s.power.logged (s.power.newRecord s.clockMs s.heat.zones.board.hot .keyPowerOn (some .anyKey)
      s.power.restartList.length)).boardOff .preheat
      (some { start := s.clockMs, dur := s.params.preheatLimit * 60000 }) := by
  simp [State.entered, PowerSeq.enter, PowerSeq.setOutputs, PowerSeq.record, PowerSeq.newRecord, PowerSeq.logged,
    PowerSeq.boardOff, toPreheat, powerEnableIn, resetAssertedIn, State.uptime, State.boardHot]

/-- What an any-key power-on leads to inside a scan: PREHEAT, its report waiting at the scanner. -/
structure State.PowersOn (s t : State) : Prop where
  keypad : t.keypad = { s.keypad with deferred := s.keypad.deferred ++ [.preheat] }
  power : t.power = s.entered (toPreheat s.params) [(.keyPowerOn, some .anyKey)]

section
variable {s : State} {i : Fin 64} (hscan : s.keypad.scanning = true) (hoff : s.power.state = .off)
include hscan hoff

theorem State.anyKeyPowerOn_powersOn : s.PowersOn s.anyKeyPowerOn := by
  have htransition : s.anyKeyPowerOn = s.transition (toPreheat s.params) [(.keyPowerOn, some .anyKey)] := if_pos hoff
  rw [htransition]
  refine ⟨?_, s.transition_power_eq _ _⟩
  rw [State.transition_keypad]
  exact if_pos hscan

omit hscan hoff in
/-- In PREHEAT a slot that fires delivers no action that the sequencer takes (R70, R120). -/
theorem State.judgePress_of_preheat (h : s.power.state = .preheat) :
    (s.judgePress i).keypad = s.keypad ∧ (s.judgePress i).power = s.power := by
  have hfire (u : State) (hu : u.power.state = .preheat) (n : Fin 4) :
      (u.fire n).keypad = u.keypad ∧ (u.fire n).power = u.power := by
    unfold State.fire State.deliver State.panelAction
    split <;> simp [hu, PanelAction.actsIn]
  unfold State.judgePress
  dsimp only
  split
  · exact ⟨rfl, rfl⟩
  · exact hfire (s.onMatcher _) h _

/-- In either order of the power-on and the matcher, one power-on is taken. -/
theorem State.handOn_powersOn (hwaits : s.matcher.deferred = [])
    (hfires : s.matcher.firesOn s.tables.sequences i = none) (hflag : s.params.anyKey = true)
    (hkept : s.keypad.kept = .off) : s.PowersOn (s.handOn i) := by
  have hmatcherFirst : s.PowersOn (s.matcherPress i).anyKeyPowerOn := by
    rw [State.matcherPress_silent hwaits hfires]
    obtain ⟨keypad, power⟩ := State.anyKeyPowerOn_powersOn
      (s := s.onMatcher (Matcher.press s.tables.sequences s.params.stepTimeout s.clockMs i)) hscan hoff
    exact ⟨keypad, power⟩
  have hanyKeyFirst : s.PowersOn (s.anyKeyFirst i) := by
    obtain ⟨keypad, power⟩ := State.anyKeyPowerOn_powersOn hscan hoff
    have hpreheat : s.anyKeyPowerOn.power.state = .preheat := by
      rw [power, State.entered_anyKey]
      rfl
    have hone : s.firesPowerOn i = false := by
      unfold State.firesPowerOn
      rw [hfires]
    unfold State.anyKeyFirst
    rw [hone]
    obtain ⟨hkeypad, hpower⟩ := State.judgePress_of_preheat (s := s.anyKeyPowerOn.takeReports) (i := i)
      (by simpa using hpreheat)
    exact ⟨hkeypad.trans (by simpa using keypad), hpower.trans (by simpa using power)⟩
  have hhandOn : s.handOn i = s.oneOf (s.matcherPress i).anyKeyPowerOn (s.anyKeyFirst i) :=
    if_pos (by simp [hflag, hkept, hoff])
  rw [hhandOn]
  obtain hc | hc | hc := s.oneOf_cases (s.matcherPress i).anyKeyPowerOn (s.anyKeyFirst i) <;> rw [hc]
  exacts [hmatcherFirst, ⟨hmatcherFirst.keypad, hmatcherFirst.power⟩, ⟨hanyKeyFirst.keypad, hanyKeyFirst.power⟩]

end

/-- A report that waits while events are not queued is kept at the scan's end, and flushes nothing (R96, R110). -/
theorem Keypad.endScan_of_one {k : Keypad} {st : PowerState} (hkept : k.kept.accepts = false)
    (hwaits : k.deferred = [st]) : k.endScan = k.ended st := by
  simp [Keypad.endScan, hwaits, Keypad.takeReport, hkept, Keypad.ended]

/-! ## A scan with a press alone -/

theorem State.clickFor_eq (e : KeyEntry) (s : State) : s.clickFor e =
    { s with beeper := if e.click then s.beeper.request .click s.clockMs else s.beeper } := by
  unfold State.clickFor
  split <;> rfl

/-- A scan after whose work no report waits and no repeat is due, with the marks of its step cleared (log 8). -/
theorem State.scan_unmarked {s v : State} {reading : BitVec 64}
    (hv : (s.reach s.keypad.nowMs).keysScanned reading = v) (hkeypad : v.keypad.deferred = [])
    (hmatcher : v.matcher.deferred = []) (hrepeat : v.RepeatNotDue) (hkept : v.keypad.kept = s.keypad.kept)
    (hended : v.mgmt.replyEnded = false) :
    (s.scan reading).finish = { v.unmarked with keypad := v.keypad.ended s.keypad.kept } := by
  rw [State.scan_of_keysScanned_not_due hv hkeypad hmatcher hrepeat hkept, State.finish_of_no_reply]
  · rfl
  · exact hended

/-- The scanner as the press of a key that has just become DOWN is decided. -/
def Keypad.pressedAt (i : Fin 64) (keys : Vector KeyRec 64) (k : Keypad) : Keypad := (k.begunWith keys).enterDown i

/-- A wake at such a press (R163). -/
theorem State.pressedAt_wake {s : State} (hended : s.mgmt.replyEnded = false) (hjust : s.mgmt.justReported = 0)
    (i : Fin 64) (keys : Vector KeyRec 64) : (s.pressedAt i keys).wake.unmarked =
      { State.wakes { s with clockMs := max s.clockMs (4 * s.keypad.scans) } with
        keypad := s.keypad.pressedAt i keys } :=
  (State.wake_unmarked (s := s.pressedAt i keys) hended hjust).trans
    (State.wakes_onKeypad { s with clockMs := max s.clockMs (4 * s.keypad.scans) } (s.keypad.pressedAt i keys))

section
variable {s : State} {reading : BitVec 64} {i : Fin 64} (h : s.PressedAlone reading i) (hrepeat : s.RepeatNotDue)
include h hrepeat

/-- A DISABLED key's press does nothing more (R102). -/
theorem State.PressedAlone.scan_disabled (hkind : s.tables.keymap[i].kind = .disabled) :
    ∃ keys, (s.scan reading).finish = { s with
      clockMs := max s.clockMs (4 * s.keypad.scans), keypad := (s.keypad.pressedAt i keys).ended s.keypad.kept } := by
  obtain ⟨keys, -, hscanned⟩ := h.keysScanned
  obtain ⟨hended, hjust, -, hwaits, hquiet⟩ := h.quiet.atRest
  rw [State.processPress_disabled (s := s.pressedAt i keys) hkind] at hscanned
  refine ⟨keys, (State.scan_unmarked hscanned hwaits hquiet hrepeat rfl hended).trans ?_⟩
  exact congrArg (fun m : Mgmt => ({ s with clockMs := _, keypad := _, mgmt := m } : State))
    (Mgmt.clear_marks hended hjust)

/-- A SERVICE key's press is the matcher's (R102, R117). -/
theorem State.PressedAlone.scan_service (hkind : s.tables.keymap[i].kind = .service)
    (hfires : s.matcher.firesOn s.tables.sequences i = none) :
    ∃ keys, (s.scan reading).finish = { s with
      clockMs := max s.clockMs (4 * s.keypad.scans), keypad := (s.keypad.pressedAt i keys).ended s.keypad.kept
      matcher := s.matcher.press s.tables.sequences s.params.stepTimeout (max s.clockMs (4 * s.keypad.scans)) i
      beeper :=
        if s.tables.keymap[i].click then s.beeper.request .click (max s.clockMs (4 * s.keypad.scans))
        else s.beeper } := by
  obtain ⟨keys, -, hscanned⟩ := h.keysScanned
  obtain ⟨hended, hjust, -, hwaits, hquiet⟩ := h.quiet.atRest
  rw [State.processPress_service (s := s.pressedAt i keys) hkind, State.clickFor_eq] at hscanned
  have hpressed := hscanned.trans (State.matcherPress_silent hquiet hfires)
  refine ⟨keys, (State.scan_unmarked hpressed hwaits hquiet hrepeat rfl hended).trans ?_⟩
  exact congrArg (fun m : Mgmt =>
    ({ s with clockMs := _, keypad := _, matcher := _, beeper := _, mgmt := m } : State))
    (Mgmt.clear_marks hended hjust)

/-- A NORMAL key's press that a waking path swallows (R103, R163). -/
theorem State.PressedAlone.scan_swallowed (hkind : s.tables.keymap[i].kind = .normal)
    (hpath : s.path.state = .dimmed ∧ s.path.heatDim = false ∧ s.params.swallow = true) :
    ∃ keys, (s.scan reading).finish =
      { State.wakes { s with clockMs := max s.clockMs (4 * s.keypad.scans) } with
        keypad := ((s.keypad.pressedAt i keys).suppress i).ended s.keypad.kept } := by
  obtain ⟨keys, -, hscanned⟩ := h.keysScanned
  obtain ⟨hended, hjust, -, hwaits, hquiet⟩ := h.quiet.atRest
  obtain ⟨hdimmed, hdim, hswallow⟩ := hpath
  rw [State.processPress_normal (s := s.pressedAt i keys) hkind,
    State.keyOffer_swallowed (s := s.pressedAt i keys) hdimmed hdim hswallow, if_pos rfl] at hscanned
  have hwoken : (s.pressedAt i keys).wake = (s.pressedAt i keys).keyOffer.1 :=
    (State.keyOffer_woken (s := s.pressedAt i keys) hdimmed hdim).symm
  have hsame : (s.pressedAt i keys).wake.keypad = s.keypad.pressedAt i keys ∧
      (s.pressedAt i keys).wake.matcher = s.matcher ∧
      (s.pressedAt i keys).wake.mgmt.replyEnded = s.mgmt.replyEnded := by
    rw [hwoken, State.keyOffer_replyEnded]
    simp only [State.keyOffer_keeps]
    exact ⟨rfl, rfl, rfl⟩
  obtain ⟨hkeypad, hmatcher, hreply⟩ := hsame
  have hunmarked := State.pressedAt_wake hended hjust i keys
  generalize (s.pressedAt i keys).wake = w at *
  have hsuppressed : (w.onKeypad (Keypad.suppress i)).keypad = (s.keypad.pressedAt i keys).suppress i :=
    congrArg (Keypad.suppress i) hkeypad
  have hfinish := State.scan_unmarked hscanned (by rw [hsuppressed]; exact hwaits) (hmatcher ▸ hquiet)
    (by rw [State.RepeatNotDue, hsuppressed]; exact hrepeat) (by rw [hsuppressed]; rfl) (hreply.trans hended)
  rw [hsuppressed] at hfinish
  refine ⟨keys, hfinish.trans ?_⟩
  exact congrArg (fun u : State => { u with keypad := ((s.keypad.pressedAt i keys).suppress i).ended s.keypad.kept })
    hunmarked

end

/-! ## A press that the display path passes (R103, R104) -/

theorem Keypad.decided_marks (k : Keypad) (i : Fin 64) (e : KeyEntry) (delay : Nat) :
    k.SameMarks (k.decided i e delay) := by
  unfold Keypad.decided
  (repeat' split) <;> exact ⟨rfl, rfl, rfl, rfl⟩

theorem Keypad.decided_not_due {k : Keypad} {i : Fin 64} {e : KeyEntry} {delay : Nat} (hdelay : 0 < delay)
    (h : ∀ x ∈ k.typematic, 4 * k.scans < x.2) {x : Fin 64 × Nat} (hx : x ∈ (k.decided i e delay).typematic) :
    4 * k.scans < x.2 := by
  unfold Keypad.decided at hx
  (repeat' split at hx)
  exacts [Keypad.queuePress_typematic hdelay hx, h x hx, h x hx]

/-- A press without room is dropped with KEY_LOSS (R104, R174). -/
theorem State.decidePress_loss {s : State} (haccepts : s.keypad.kept.accepts = true) (hfull : 32 < s.keypad.load + 2)
    (i : Fin 64) (e : KeyEntry) : (s.decidePress i e).mgmt.hasFlag .keyLoss = true := by
  have hroom : s.keypad.pressFits = false := decide_eq_false (by omega)
  unfold State.decidePress
  rw [if_pos haccepts, if_neg (by simp [hroom])]
  exact (Mgmt.report_hasFlag ..).trans (by simp)

/-- What is left of a NORMAL key's press that the display path passed, where no any-key power-on is sent: at the
scanner, the matcher, the beeper and the display path. -/
structure State.Passed (i : Fin 64) (keys : Vector KeyRec 64) (s t : State) : Prop where
  keypad : t.keypad =
    ((s.keypad.pressedAt i keys).decided i s.tables.keymap[i] s.params.repeatDelay).ended s.keypad.kept
  power : t.power = s.power
  matcher : t.matcher =
    s.matcher.press s.tables.sequences s.params.stepTimeout (max s.clockMs (4 * s.keypad.scans)) i
  beeper : t.beeper =
    if s.tables.keymap[i].click then s.beeper.request .click (max s.clockMs (4 * s.keypad.scans)) else s.beeper
  display : t.display = (s.pressedAt i keys).keyOffer.1.display
  loss : s.keypad.kept.accepts = true → 32 < s.keypad.load + 2 → t.mgmt.hasFlag .keyLoss = true

section
variable {s : State} {reading : BitVec 64} {i : Fin 64} (h : s.PressedAlone reading i) (hrepeat : s.RepeatNotDue)
  (hdelay : 0 < s.params.repeatDelay) (hkind : s.tables.keymap[i].kind = .normal)
  (hpath : ¬(s.path.state = .dimmed ∧ s.path.heatDim = false ∧ s.params.swallow = true))
  (hfires : s.matcher.firesOn s.tables.sequences i = none)
include h hrepeat hdelay hkind hpath hfires

theorem State.PressedAlone.scan_passed
    (hany : ¬(s.params.anyKey = true ∧ s.keypad.kept = .off ∧ s.power.state = .off)) :
    ∃ keys, s.Passed i keys (s.scan reading).finish := by
  obtain ⟨keys, -, hscanned⟩ := h.keysScanned
  obtain ⟨hended, -, -, hwaits, hquiet⟩ := h.quiet.atRest
  obtain ⟨q, hq⟩ : ∃ q, q = (s.pressedAt i keys).keyOffer.1 := ⟨_, rfl⟩
  have hreply := (s.pressedAt i keys).keyOffer_replyEnded
  have hoffered := (s.pressedAt i keys).keyOffer_keeps
  rw [State.processPress_normal (s := s.pressedAt i keys) hkind,
    State.keyOffer_not_swallowed (s := s.pressedAt i keys) hpath, if_neg (by decide), ← hq] at hscanned
  rw [← hq] at hreply hoffered
  obtain ⟨-, hclock, -, htables, -, -, -, -, hpower, -, hkeypad, hmatcher, hbeeper, -⟩ := hoffered
  have hparams : q.params = s.params := congrArg Tables.params htables
  have hsilent := State.passedPress_silent (s := q) (i := i) s.tables.keymap[i]
    (by rw [hparams, hkeypad, hpower]; exact hany) (by rw [hmatcher]; exact hquiet)
    (by rw [hmatcher, htables]; exact hfires)
  obtain ⟨hkept, hscans, -, hdeferred⟩ :=
    (s.keypad.pressedAt i keys).decided_marks i s.tables.keymap[i] s.params.repeatDelay
  have hdecided : (q.decidePress i s.tables.keymap[i]).keypad =
      (s.keypad.pressedAt i keys).decided i s.tables.keymap[i] s.params.repeatDelay := by
    rw [State.decidePress_keypad, hkeypad, hparams]
    rfl
  obtain ⟨-, hdclock, -, -, -, -, -, -, hdpower, -, hdmatcher, hdbeeper, -, hddisp, hdswitch, hdpath, -⟩ :=
    State.decidePress_keeps i s.tables.keymap[i] q
  have hloss (haccepts : q.keypad.kept.accepts = true) (hfull : 32 < q.keypad.load + 2) :=
    State.decidePress_loss haccepts hfull i s.tables.keymap[i]
  have hanswer := q.decidePress_replyEnded i s.tables.keymap[i]
  have hpressed := hscanned.trans hsilent
  rw [State.clickFor_eq] at hpressed
  generalize q.decidePress i s.tables.keymap[i] = d at *
  have hdwaits : d.keypad.deferred = [] := by rw [hdecided, hdeferred]; exact hwaits
  have hdquiet : d.matcher.deferred = [] := by rw [hdmatcher, hmatcher]; exact hquiet
  have hdlater : d.RepeatNotDue := fun x hx => by
    rw [hdecided] at hx ⊢
    rw [hscans]
    exact Keypad.decided_not_due (k := s.keypad.pressedAt i keys) hdelay hrepeat hx
  have hdkept : d.keypad.kept = s.keypad.kept := by rw [hdecided, hkept]; rfl
  have hdended : d.mgmt.replyEnded = false := by rw [hanswer, hreply]; exact hended
  have hfinish := State.scan_unmarked hpressed hdwaits hdquiet hdlater hdkept hdended
  refine ⟨keys, ?_⟩
  rw [hfinish]
  refine ⟨?_, ?_, ?_, ?_, ?_, ?_⟩
  · exact congrArg (Keypad.ended s.keypad.kept) hdecided
  · exact hdpower.trans hpower
  · show d.matcher.press q.tables.sequences q.params.stepTimeout q.clockMs i = _
    rw [hdmatcher, hmatcher, htables, hparams, hclock]
    rfl
  · show (if _ then d.beeper.request .click d.clockMs else d.beeper) = _
    rw [hdbeeper, hbeeper, hdclock, hclock]
    rfl
  · show (d.path, d.disp, d.switch) = _
    rw [hdpath, hddisp, hdswitch, ← hq]
    rfl
  · intro haccepts hfull
    exact hloss (by rw [hkeypad]; exact haccepts) (by rw [hkeypad]; exact hfull)

omit hdelay in
/-- With any-key in OFF the press is also a POWER_ON (R106). -/
theorem State.PressedAlone.scan_anyKey (hflag : s.params.anyKey = true) (hoff : s.keypad.kept = .off)
    (hpower : s.power.state = .off) :
    let t := (s.scan reading).finish
    (∃ keys, t.keypad = (s.keypad.pressedAt i keys).ended .preheat) ∧
      t.power = (s.power.logged (s.power.newRecord (max s.clockMs (4 * s.keypad.scans)) s.heat.zones.board.hot
        .keyPowerOn (some .anyKey) s.power.restartList.length)).boardOff .preheat
        (some { start := max s.clockMs (4 * s.keypad.scans), dur := s.params.preheatLimit * 60000 }) := by
  intro t
  obtain ⟨keys, -, hscanned⟩ := h.keysScanned
  obtain ⟨-, -, -, hwaits, hquiet⟩ := h.quiet.atRest
  obtain ⟨q, hq⟩ : ∃ q, q = (s.pressedAt i keys).keyOffer.1 := ⟨_, rfl⟩
  have hoffered := (s.pressedAt i keys).keyOffer_keeps
  rw [State.processPress_normal (s := s.pressedAt i keys) hkind,
    State.keyOffer_not_swallowed (s := s.pressedAt i keys) hpath, if_neg (by decide), ← hq] at hscanned
  rw [← hq] at hoffered
  obtain ⟨-, hclock, -, htables, -, -, hheat, -, hqpower, -, hkeypad, hmatcher, -⟩ := hoffered
  have hparams : q.params = s.params := congrArg Tables.params htables
  have hqkept : q.keypad.kept = .off := by rw [hkeypad]; exact hoff
  have hdecided : q.decidePress i s.tables.keymap[i] = q := if_neg (by simp [hqkept, PowerState.accepts])
  have hpressed : (s.reach s.keypad.nowMs).keysScanned reading = (q.clickFor s.tables.keymap[i]).handOn i :=
    hscanned.trans (congrArg (fun u : State => (u.clickFor s.tables.keymap[i]).handOn i) hdecided)
  rw [State.clickFor_eq] at hpressed
  obtain ⟨keypad, power⟩ := State.handOn_powersOn (i := i)
    (s := { q with beeper := if s.tables.keymap[i].click then q.beeper.request .click q.clockMs else q.beeper })
    (by rw [hkeypad]; rfl) (by rw [hqpower]; exact hpower) (by rw [hmatcher]; exact hquiet)
    (by rw [hmatcher, htables]; exact hfires) (by rw [← hflag, ← hparams]) hqkept
  rw [State.entered_anyKey] at power
  dsimp only at keypad power
  generalize State.handOn i _ = v at hpressed keypad power
  have hreports : v.keypad = { s.keypad.pressedAt i keys with deferred := [.preheat] } := by
    rw [keypad, hkeypad]
    show ({ s.keypad.pressedAt i keys with deferred := s.keypad.deferred ++ [.preheat] } : Keypad) = _
    rw [hwaits]
    rfl
  have hsoft := (s.scan_soft reading).trans h.quiet.2
  refine ⟨⟨keys, ?_⟩, ?_⟩
  · obtain ⟨hsame, -⟩ := State.finish_blocks hsoft
    have hlater : ∀ x ∈ v.keypad.typematic, 4 * v.keypad.scans < x.2 := by
      rw [hreports]
      exact hrepeat
    have hone := Keypad.endScan_of_one (k := { s.keypad.pressedAt i keys with deferred := [.preheat] }) (st := .preheat)
      (congrArg PowerState.accepts hoff) rfl
    refine hsame.trans ((s.scan_keypad reading).trans ?_)
    rw [hpressed, Keypad.repeatStep_of_not_due hlater, hreports, hone]
    rfl
  · obtain ⟨-, hsame, -⟩ := State.finish_keeps_of_no_soft hsoft
    have hscan : (s.scan reading).power = v.power := by
      rw [State.scan_eq, hpressed]
      simp
    refine hsame.trans (hscan.trans (power.trans ?_))
    rw [hqpower, hclock, hheat, State.params, htables]
    rfl

end

/-! ## The three decisions (R104) -/

theorem Keypad.decided_unaccepted {k : Keypad} (h : k.kept.accepts = false) (i : Fin 64) (e : KeyEntry) (delay : Nat) :
    k.decided i e delay = k :=
  if_neg (by simp [h])

theorem Keypad.decided_queued {k : Keypad} (h : k.kept.accepts = true) (hroom : k.load + 2 ≤ 32) (i : Fin 64)
    (e : KeyEntry) (delay : Nat) : k.decided i e delay = k.queuePress i e delay :=
  (if_pos h).trans (if_pos hroom)

theorem Keypad.decided_dropped {k : Keypad} (h : k.kept.accepts = true) (hfull : 32 < k.load + 2) (i : Fin 64)
    (e : KeyEntry) (delay : Nat) : k.decided i e delay = k.dropPress i :=
  (if_pos h).trans (if_neg (Nat.not_le.mpr hfull))

/-- The scanner after such a scan, whatever it sent (R104, R106). -/
theorem State.PressedAlone.scan_decided {s : State} {reading : BitVec 64} {i : Fin 64} (h : s.PressedAlone reading i)
    (hrepeat : s.RepeatNotDue) (hdelay : 0 < s.params.repeatDelay) (hkind : s.tables.keymap[i].kind = .normal)
    (hpath : ¬(s.path.state = .dimmed ∧ s.path.heatDim = false ∧ s.params.swallow = true))
    (hfires : s.matcher.firesOn s.tables.sequences i = none) : ∃ keys last, (s.scan reading).finish.keypad =
      ((s.keypad.pressedAt i keys).decided i s.tables.keymap[i] s.params.repeatDelay).ended last := by
  by_cases hany : s.params.anyKey = true ∧ s.keypad.kept = .off ∧ s.power.state = .off
  · obtain ⟨hflag, hoff, hpower⟩ := hany
    obtain ⟨⟨keys, hkeypad⟩, -⟩ := h.scan_anyKey hrepeat hkind hpath hfires hflag hoff hpower
    have hunaccepted : (s.keypad.pressedAt i keys).kept.accepts = false := congrArg PowerState.accepts hoff
    exact ⟨keys, _, hkeypad.trans (by rw [Keypad.decided_unaccepted hunaccepted])⟩
  · obtain ⟨keys, hpassed⟩ := h.scan_passed hrepeat hdelay hkind hpath hfires hany
    exact ⟨keys, _, hpassed.keypad⟩

theorem joinSet_of_notMem {i : Fin 64} {l : List (Fin 64)} (h : i ∉ l) : joinSet i l = l ++ [i] := if_neg h

end Sys2Proof.Machine

namespace Sys2Proof.Proofs

open Sys2Proof.Machine

/-- Settles O37: such a scan comes to the key's press, decided by its kind, the path's answer and the any-key flag. -/
theorem lonePressIsDecided : Obligations.LonePressIsDecided := by
  intro s reading i hs hlone hup hfree hstuck hrepeat hdelay hreported hsuppressed hfires e now judged clicked swallowed
    accepts anyKey
  have h : s.PressedAlone reading i := ⟨hs, hlone, hup, hfree, hstuck⟩
  obtain ⟨hdown, hentry, hothers⟩ := h.keys
  have haccepts : accepts ↔ s.keypad.kept.accepts = true := PowerState.accepts_iff.symm
  refine ⟨_, exec_scan hs reading, by simp [State.scan, Keypad.nowMs, now], hdown, hentry, hothers, fun hkind => ?_,
    fun hkind => ?_, fun hkind => ?_, fun hkind hsw => ?_, fun hkind hsw hacc hroom => ?_,
    fun hkind hsw hacc hfull => ?_, fun hkind hsw hacc => ?_, fun hkind hsw hany => ?_, fun hkind hsw hany hoff => ?_⟩
  · obtain ⟨keys, hscan⟩ := h.scan_disabled hrepeat hkind
    rw [hscan]
  · obtain ⟨keys, hscan⟩ := h.scan_service hrepeat hkind hfires
    rw [hscan]
  · cases hk : s.tables.keymap[i].kind with
    | normal => exact absurd hk hkind
    | service =>
      obtain ⟨keys, hscan⟩ := h.scan_service hrepeat hk hfires
      rw [hscan]
      exact ⟨rfl, rfl, rfl, rfl⟩
    | disabled =>
      obtain ⟨keys, hscan⟩ := h.scan_disabled hrepeat hk
      rw [hscan]
      exact ⟨rfl, rfl, rfl, rfl⟩
  · obtain ⟨keys, hscan⟩ := h.scan_swallowed hrepeat hkind hsw
    rw [hscan]
    exact ⟨rfl, rfl, rfl, joinSet_of_notMem hsuppressed, rfl⟩
  · obtain ⟨keys, last, hkeypad⟩ := h.scan_decided hrepeat hdelay hkind hsw hfires
    rw [hkeypad, Keypad.decided_queued (k := s.keypad.pressedAt i keys) (haccepts.mp hacc) hroom]
    refine ⟨rfl, joinSet_of_notMem hreported, rfl, ?_, rfl⟩
    exact congrArg KeyRec.code ((s.keypad.pressedAt i keys).onKey_self i fun r => { r with code := e.code })
  · obtain ⟨keys, last, hkeypad⟩ := h.scan_decided hrepeat hdelay hkind hsw hfires
    obtain ⟨_, hpassed⟩ := h.scan_passed hrepeat hdelay hkind hsw hfires fun ⟨_, hoff, _⟩ => by
      cases (congrArg PowerState.accepts hoff).symm.trans (haccepts.mp hacc)
    have hloss := hpassed.loss (haccepts.mp hacc) hfull
    rw [hkeypad, Keypad.decided_dropped (k := s.keypad.pressedAt i keys) (haccepts.mp hacc) hfull]
    exact ⟨rfl, rfl, joinSet_of_notMem hsuppressed, rfl, rfl, hloss⟩
  · obtain ⟨keys, last, hkeypad⟩ := h.scan_decided hrepeat hdelay hkind hsw hfires
    rw [hkeypad, Keypad.decided_unaccepted (k := s.keypad.pressedAt i keys)
      (Bool.eq_false_iff.mpr fun hk => hacc (haccepts.mpr hk))]
    exact ⟨rfl, rfl, rfl, rfl⟩
  · obtain ⟨keys, hpassed⟩ := h.scan_passed hrepeat hdelay hkind hsw hfires fun ⟨hflag, hoff, _⟩ => hany ⟨hflag, hoff⟩
    obtain ⟨hended, hjust, -⟩ := hs.atRest
    generalize (s.scan reading).finish = t at hpassed
    obtain ⟨hpath, hrest⟩ := Prod.mk.inj hpassed.display
    obtain ⟨hdisp, hswitch⟩ := Prod.mk.inj hrest
    refine ⟨hpassed.power, hpassed.matcher, hpassed.beeper, fun hopen => ?_, fun hopen hother => ?_,
      fun hdimmed hdim => ?_⟩
    · rw [hpath, State.keyOffer_opened (s := s.pressedAt i keys) hopen]
      rfl
    · rw [hpath, hdisp, hswitch, State.keyOffer_same (s := s.pressedAt i keys) hopen hother]
      exact ⟨rfl, rfl, rfl⟩
    · have hwoken := State.pressedAt_wake hended hjust i keys
      rw [hpath, hdisp, hswitch, State.keyOffer_woken (s := s.pressedAt i keys) hdimmed hdim]
      obtain ⟨hwokenPath, hwokenRest⟩ := Prod.mk.inj (congrArg State.display hwoken)
      exact ⟨hwokenPath, Prod.mk.inj hwokenRest⟩
  · exact (h.scan_anyKey hrepeat hkind hsw hfires hany.1 hany.2 hoff).2

end Sys2Proof.Proofs
end
